-- ==== Sys2Proof/Word.lean ====
section
/-! DEFINITION. The bytes and texts that the lines of the part carry. -/

namespace Sys2Proof

/-- One byte of a serial line. -/
abbrev Byte := BitVec 8

/-- A text field: printable ASCII characters (conventions, "Numbers, names and text"). -/
abbrev Text := List Byte

/-- A character on a serial line: its byte, and whether its stop bit is wrong, a framing error (R73, R109, R154). On the wind line
it is what is sensed, which the receive polarity may invert (log 47). -/
structure RxChar where
  byte : Byte
  framing : Bool
  deriving DecidableEq, Repr

end Sys2Proof
end

