-- ==== Sys2Proof/Machine/Bytes.lean ====
section
/-! DEFINITION. Byte order, two's complement and readers of byte lists for the wire formats (10, section 10.13). -/

namespace Sys2Proof

/-- The byte whose value is `n` modulo 256. -/
def byte (n : Nat) : Byte := BitVec.ofNat 8 n

/-- The characters of a literal as bytes. -/
def ascii (cs : List Char) : Text := cs.map fun c => byte c.toNat

/-- Two bytes, big-endian. -/
def be16 (n : Nat) : List Byte := [byte (n / 256), byte n]

/-- Four bytes, big-endian. -/
def be32 (n : Nat) : List Byte := [byte (n / 16777216), byte (n / 65536), byte (n / 256), byte n]

/-- A signed value in two bytes, two's complement, big-endian. -/
def sbe16 (i : Int) : List Byte := be16 ((i % 65536).toNat)

/-- The number that two bytes carry, big-endian. -/
def u16 (h l : Byte) : Nat := h.toNat * 256 + l.toNat

/-- The number that four bytes carry, big-endian. -/
def u32 (a b c d : Byte) : Nat := ((a.toNat * 256 + b.toNat) * 256 + c.toNat) * 256 + d.toNat

/-- The signed number that two bytes carry, two's complement, big-endian. -/
def s16 (h l : Byte) : Int := if u16 h l < 32768 then (u16 h l : Int) else (u16 h l : Int) - 65536

/-- Reads one byte as a number. -/
def take8 : List Byte → Option (Nat × List Byte)
  | a :: r => some (a.toNat, r)
  | [] => none

/-- Reads two bytes as a number, big-endian. -/
def take16 : List Byte → Option (Nat × List Byte)
  | a :: b :: r => some (u16 a b, r)
  | _ => none

/-- Reads two bytes as a signed number. -/
def takeS16 : List Byte → Option (Int × List Byte)
  | a :: b :: r => some (s16 a b, r)
  | _ => none

/-- Reads four bytes as a number, big-endian. -/
def take32 : List Byte → Option (Nat × List Byte)
  | a :: b :: c :: d :: r => some (u32 a b c d, r)
  | _ => none

/-- Reads `n` characters. -/
def takeN : Nat → List Byte → Option (Text × List Byte)
  | 0, r => some ([], r)
  | _ + 1, [] => none
  | n + 1, a :: r => (takeN n r).map fun (t, r') => (a :: t, r')

/-- Reads a text field: a length byte and that many characters. -/
def takeText : List Byte → Option (Text × List Byte)
  | n :: r => takeN n.toNat r
  | [] => none

/-- The bytes of a text field. -/
def textField (t : Text) : List Byte := byte t.length :: t

/-- The value, when nothing is left over. -/
def finish {α : Type} (v : α) : List Byte → Option α
  | [] => some v
  | _ :: _ => none

end Sys2Proof
end

