-- ==== Sys2Proof/Config.lean ====
section
/-! DEFINITION. The hill profile (01), which fixes the machine for a hill, and the free values: what the spec leaves open. -/

namespace Sys2Proof

/-- The functions of a field line, in the order of the table of R12, which numbers their codes (10, section 10.13). -/
inductive LineFunction
  | lampRed | lampAmber | lampGreen | leave | juryStop | cellA | cellB | gateUp | gateDown | gateIndex | gateHome
  | windTxen | windCd | boardReady | alert | generalIn | generalOut | none
  deriving DecidableEq, Repr

/-- The electrical modes of a field line (R7, R12; codes in 10, section 10.13). -/
inductive LineMode
  | input | pushPull | openDrain
  deriving DecidableEq, Repr

/-- The assignment of one field line: a function and an electrical mode (01, section 1.4). -/
structure Assignment where
  fn : LineFunction
  mode : LineMode
  deriving DecidableEq, Repr

/-- The hill section of the profile, field by field in the order of the table of 01, section 1.1. The two settings hold the
wire's own code, 0 for no or off and 1 for yes or on (10, section 10.13), so that SET HILL carries this same record. -/
structure HillSection where
  name : Text
  kh : Nat
  hs : Nat
  base : Nat
  mvh : Nat
  gates : Nat
  gf : Nat
  ch : Nat
  hf : Nat
  tf : Nat
  lo : Int
  hi : Int
  startWindow : Nat
  warning : Nat
  markLimit : Nat
  secondMarkWait : Nat
  tolerance : Nat
  consoleB : Nat
  settle : Nat
  gateStep : Nat
  leaveDebounce : Nat
  baseline : Nat
  cycleMin : Nat
  freshness : Nat
  replyTimeout : Nat
  turnaround : Nat
  cableFactor : Nat
  autoSwap : Nat
  pacing : Nat
  deriving DecidableEq, Repr


/-- A present station slot (R5): an absent slot keeps no address, bearing or roles. -/
structure StationSlot where
  address : Nat
  bearing : Nat
  gating : Bool
  scoring : Bool
  deriving DecidableEq, Repr

/-- One surveyed point (R6). -/
structure SurveyPoint where
  raw : Nat
  mm : Nat
  deriving DecidableEq, Repr

/-- The profile record: its four sections (R1). `slots` holds slots 0..7, `lines` holds FL0..FL15; `survey` is `none` while
no survey is loaded. -/
structure Profile where
  hill : HillSection
  slots : List (Option StationSlot)
  survey : Option (List SurveyPoint)
  lines : List Assignment
  deriving DecidableEq, Repr

/-- The non-volatile image: the profile stored in it and whether its CRC matches its contents (R8, R9, R10). The order in
which the bytes of the image stand is not in the spec, so the image is held as the record it spells (log 5). -/
structure Image where
  profile : Profile
  crcMatches : Bool
  deriving DecidableEq, Repr

/-- The deferred faults of one jump (R86, R100, R102, R107, R108, R113, R115, R116). -/
inductive DeferredFault
  | windOverflow | stationLost | noWind | speedMissing | speedRange | beyondSurvey | noMark | consoleDisagree
  deriving DecidableEq, Repr

/-- FREE VALUE (log 7). The level that the circuit outside holds a line at, for a line whose changes no command reports: the
first argument is a fresh counter, the second the line's number. -/
opaque Config.outsideLevel : Nat → Nat → Bool

/-- FREE VALUE (log 3). The key by which the events that come due in the same millisecond are put in order: the first argument
is a fresh counter, the second the event's place in the model's own list. -/
opaque Config.tieKey : Nat → Nat → Nat

/-- FREE VALUE (log 19). The echo count that a LINE_TEST notice carries when the test ended in NOISE, before any echo count was
started. The argument is a fresh counter. -/
opaque Config.noiseEchoCount : Nat → Nat

/-- FREE VALUE (log 16). The wire code of a deferred fault: no rule lists the faults of the fault set in an order. -/
opaque Config.faultCode : DeferredFault → Byte

end Sys2Proof
end

