-- ==== Sys2Proof/Syntax.lean ====
section
/-! DEFINITION. The commands of the part: one constructor of `Instr` for every row of spec/opcode_table.json. -/

namespace Sys2Proof

/-- The two measuring consoles (07). -/
inductive Console
  | a | b
  deriving DecidableEq, Repr

/-- The two debounced lines (R13). -/
inductive DebouncedLine
  | leave | juryStop
  deriving DecidableEq, Repr

/-- The causes of a hard reset (R165). -/
inductive ResetCause
  | power | line
  deriving DecidableEq, Repr

/-- The reply codes, in the order of their values 0x00..0x0B (R156). -/
inductive ReplyCode
  | done | accepted | busy | state | locked | range | full | notFound | duplicate | noProfile | unknown | length
  deriving DecidableEq, Repr

/-- One entry of ADD ENTRIES (R26). -/
structure Entry where
  bib : Nat
  name : Text
  nation : Text
  deriving DecidableEq, Repr

/-- The commands. A request carries its tag and its parameters as the host sent them, before any check (10, section 10.13).
An event carries what the part senses at it. -/
inductive Instr
  /-- SET HILL, 0x10 (R4). -/
  | setHill (tag : Byte) (h : HillSection)
  /-- SET STATION, 0x11 (R5). -/
  | setStation (tag : Byte) (slot presence address bearing roles : Nat)
  /-- SET SURVEY, 0x12 (R6). -/
  | setSurvey (tag : Byte) (points : List SurveyPoint)
  /-- SET LINES, 0x13 (R7): function code and mode code of FL0..FL15. -/
  | setLines (tag : Byte) (codes : List (Nat × Nat))
  /-- STORE PROFILE, 0x14 (R8). -/
  | storeProfile (tag : Byte)
  /-- READ PROFILE, 0x15 (R11). -/
  | readProfile (tag : Byte) (selector slot : Nat)
  /-- WRITE LINE, 0x16 (R15). -/
  | writeLine (tag : Byte) (line level : Nat)
  /-- READ LINES, 0x17 (R14). -/
  | readLines (tag : Byte)
  /-- OPEN ROUND, 0x20 (R19): source code, and Q where the request carries it. -/
  | openRound (tag : Byte) (source : Nat) (q : Option Nat)
  /-- ADD ENTRIES, 0x21 (R26). -/
  | addEntries (tag : Byte) (entries : List Entry)
  /-- WITHDRAW ENTRY, 0x22 (R27). -/
  | withdrawEntry (tag : Byte) (bib : Nat)
  /-- MOVE ENTRY, 0x23 (R28). -/
  | moveEntry (tag : Byte) (bib target : Nat)
  /-- CONFIRM ROUND, 0x24 (R20). -/
  | confirmRound (tag : Byte)
  /-- CANCEL ROUND, 0x25 (R23). -/
  | cancelRound (tag : Byte)
  /-- SUSPEND ROUND, 0x26 (R21). -/
  | suspendRound (tag : Byte)
  /-- RESUME ROUND, 0x27 (R22). -/
  | resumeRound (tag : Byte)
  /-- ARM NEXT, 0x30 (R42). -/
  | armNext (tag : Byte)
  /-- CLEAR, 0x31 (R46). -/
  | clear (tag : Byte)
  /-- HOLD, 0x32 (R47). -/
  | hold (tag : Byte)
  /-- STOP, 0x33 (R55). -/
  | stop (tag : Byte)
  /-- MARK LEAVE, 0x34 (R54). -/
  | markLeave (tag : Byte)
  /-- COACH REDUCTION, 0x35 (R56). -/
  | coachReduction (tag : Byte) (bib k : Nat)
  /-- MOVE GATE, 0x36 (R62). -/
  | moveGate (tag : Byte) (target : Nat)
  /-- HOME GATE, 0x37 (R66). -/
  | homeGate (tag : Byte)
  /-- ENTER MARK, 0x40 (R123). -/
  | enterMark (tag : Byte) (attempt judge mark : Nat)
  /-- CLOSE MARKS, 0x41 (R124). -/
  | closeMarks (tag : Byte) (attempt : Nat)
  /-- SET DISTANCE, 0x42 (R119). -/
  | setDistance (tag : Byte) (attempt d : Nat)
  /-- SET WIND, 0x43 (R103). -/
  | setWind (tag : Byte) (attempt : Nat) (w : Int)
  /-- VOID ATTEMPT, 0x44 (R37). -/
  | voidAttempt (tag : Byte) (attempt : Nat)
  /-- READ ATTEMPT, 0x45 (R36). -/
  | readAttempt (tag : Byte) (attempt : Nat)
  /-- STATION STATUS, 0x50 (R87). -/
  | stationStatus (tag : Byte) (slot : Nat)
  /-- DISABLE STATION, 0x51 with action 0 (R88). -/
  | disableStation (tag : Byte) (slot : Nat)
  /-- ENABLE STATION, 0x51 with action 1 (R88). -/
  | enableStation (tag : Byte) (slot : Nat)
  /-- LINE TEST, 0x52 (R91). -/
  | lineTest (tag : Byte)
  /-- READ WIND, 0x53 (R93). -/
  | readWind (tag : Byte)
  /-- BOARD MESSAGE, 0x60 (R148). -/
  | boardMessage (tag : Byte) (line : Nat) (text : Text)
  /-- BOARD REFRESH, 0x61 (R149). -/
  | boardRefresh (tag : Byte)
  /-- BOARD STATUS, 0x62 (R150). -/
  | boardStatus (tag : Byte)
  /-- SET CURSOR, 0x70 (R160). -/
  | setCursor (tag : Byte) (selector position mode : Nat)
  /-- READ AT CURSOR, 0x71 (R161). -/
  | readAtCursor (tag : Byte) (selector : Nat)
  /-- SET CLOCK, 0x78 (R159). -/
  | setClock (tag : Byte) (time : Nat)
  /-- SET NOTICES, 0x79 (R158). -/
  | setNotices (tag : Byte) (mask : BitVec 16)
  /-- SET LINK, 0x7A (R153). -/
  | setLink (tag : Byte) (rate breakSetting : Nat)
  /-- SELECT COUNTER, 0x7B (R162). -/
  | selectCounter (tag : Byte) (counter kind qualifier : Nat)
  /-- READ COUNTERS, 0x7C (R162). -/
  | readCounters (tag : Byte)
  /-- READ FAULT, 0x7D (R163). -/
  | readFault (tag : Byte)
  /-- RESTART, 0x7E (R164). -/
  | restart (tag : Byte)
  /-- A request whose kind is not in the request table (R155). -/
  | unknownKind (tag : Byte) (kind : Byte)
  /-- Power-on, or assertion of the RESET pin (R165). -/
  | hardReset (cause : ResetCause)
  /-- The store write ends; `verified` says whether every byte read back as written (R9). -/
  | storeWriteEnd (verified : Bool)
  /-- The sensed level of LEAVE or JURY_STOP changes to `level`, high being `true` (R13). -/
  | debounceEdge (line : DebouncedLine) (level : Bool)
  /-- A debounce timer expires (R13). -/
  | debounceExpiry (line : DebouncedLine)
  /-- A high-to-low edge of CELL_A (R106). -/
  | cellAEdge
  /-- A high-to-low edge of CELL_B; `interval` is the interval count at the edge, if it runs (R107). -/
  | cellBEdge (interval : Nat)
  /-- The trap timer expires (R108). -/
  | trapTimerExpiry
  /-- A high-to-low edge of GATE_INDEX (R63). -/
  | indexPulse
  /-- GATE_HOME changes: to active (`true`, the row's event, R67) or back to inactive (`false`, log 8). -/
  | gateHomeActive (active : Bool)
  /-- The step timer expires (R65). -/
  | stepTimeout
  /-- The settle timer expires (R64). -/
  | settleExpiry
  /-- The home timer expires (R67). -/
  | homeTimeout
  /-- The flash timer expires (R41). -/
  | flashTimerExpiry
  /-- The remaining time of the start window falls to the warning period (R50). -/
  | warningPeriodReached
  /-- The remaining whole seconds of the start window change (R50). -/
  | countdownSecondChange
  /-- The start window expires (R51). -/
  | startWindowExpiry
  /-- WIND_CD becomes inactive (R74): the line of the exchange in progress, which SET LINES does not change (log 22). -/
  | carrierClear
  /-- The carrier is still present 100 ms after the start of the carrier wait (R74). -/
  | contentionMiss
  /-- The turnaround delay ends (R75). -/
  | turnaroundEnd
  /-- The stop bit of the last poll byte has been sent (R75). -/
  | pollSent
  /-- The reply timer expires (R76). -/
  | replyTimeout
  /-- WIND_CD, of the exchange in progress (log 22), becomes active (`none`), or a first character is received (`some`) (R76). The
  characters of the wind line are carried as the levels sensed on the line, before the receive polarity (R73, log 47). -/
  | replyBegin (first : Option RxChar)
  /-- A character is received on the wind line (R76), as sensed (log 47). -/
  | replyCharacter (c : RxChar)
  /-- The 5 ms gap timer expires (R76). -/
  | replyGapExpiry
  /-- A character is received on the wind line while no reply is expected (R89), as sensed (log 47). -/
  | noiseByte (c : RxChar)
  /-- The cycle period timer expires (R79). -/
  | cyclePeriodExpiry
  /-- The age of the gating mean passes the freshness window (R97, R98). -/
  | gatingMeanStale
  /-- 1,000 ms have passed since WLN's last WIND enqueue (R98). -/
  | windDeferExpiry
  /-- The 1 ms listen of a line test ends (R92). -/
  | listenEnd
  /-- The line receiver reports an echo, with its sign, at an echo count (R92). -/
  | echo (positive : Bool) (count : Nat)
  /-- The echo count passes 4,096 without an echo (R92). -/
  | echoWindowExpiry
  /-- The characters of a mark record, as they come in on a console's line (R109, R111). -/
  | markRecord (console : Console) (chars : List RxChar)
  /-- The characters of a heartbeat, as they come in on a console's line (R109, R110). -/
  | heartbeat (console : Console) (chars : List RxChar)
  /-- More than 10 ms since the byte before: `c` is the byte that ended the gap (R109). -/
  | recordGap (console : Console) (c : RxChar)
  /-- A console's silence timer expires (R110). -/
  | silenceTimerExpiry (console : Console)
  /-- The mark limit expires (R115). -/
  | markLimitExpiry
  /-- The second-mark wait of an attempt expires (R117). -/
  | secondMarkWaitExpiry (attempt : Nat)
  /-- The last byte of a board frame has been sent (R145). -/
  | boardFrameEnd
  /-- The pacing timer expires (R145). -/
  | pacingExpiry
  /-- The sensed level of BOARD_READY changes to `level` (R146). -/
  | boardReadyChange (level : Bool)
  /-- The stall timer expires (R147). -/
  | stallTimerExpiry
  /-- The characters of a control frame, as they come in on the control link (R154, R155). -/
  | frameReceived (chars : List RxChar)
  /-- More than 10 ms since the byte before on the control link: `c` is the byte that ended the gap (R154). -/
  | linkGap (c : RxChar)
  /-- The last byte of a reply has been sent (R155). -/
  | replySent
  /-- The last byte of a notice frame has been sent (R157). -/
  | noticeSent
  /-- The break before a notice ends (R157). -/
  | breakEnd
  /-- A byte taken while hunting that is no lead, or a length byte outside 2..200 (R154). -/
  | controlByteDiscarded (c : RxChar)
  deriving DecidableEq, Repr

end Sys2Proof
end

