-- ==== Sys2Proof/WellFormed.lean ====
section
/-! DEFINITION. Which commands can come: the operands of a request fit the fields that carry them (10, section 10.13), and the
operands of an event lie in the ranges that the part can sense. -/

namespace Sys2Proof

/-- The request kinds of 10, section 10.12. -/
def knownKinds : List Nat :=
  [0x10, 0x11, 0x12, 0x13, 0x14, 0x15, 0x16, 0x17, 0x20, 0x21, 0x22, 0x23, 0x24, 0x25, 0x26, 0x27,
   0x30, 0x31, 0x32, 0x33, 0x34, 0x35, 0x36, 0x37, 0x40, 0x41, 0x42, 0x43, 0x44, 0x45, 0x50, 0x51, 0x52, 0x53,
   0x60, 0x61, 0x62, 0x70, 0x71, 0x78, 0x79, 0x7A, 0x7B, 0x7C, 0x7D, 0x7E]

/-- `n` fits a field of one byte. -/
def fits8 (n : Nat) : Bool := n < 256

/-- `n` fits a field of two bytes. -/
def fits16 (n : Nat) : Bool := n < 65536

/-- `n` fits a field of four bytes. -/
def fits32 (n : Nat) : Bool := n < 4294967296

/-- `i` fits a signed field of two bytes. -/
def fitsS16 (i : Int) : Bool := -32768 ≤ i ∧ i < 32768

/-- Every field of a hill section fits its field of the SET HILL request, and the name leaves room in a frame. -/
def HillSection.wf (h : HillSection) : Bool :=
  h.name.length ≤ 150 && fits16 h.kh && fits16 h.hs && fits16 h.base && fits8 h.mvh && fits8 h.gates && fits8 h.gf
    && fits16 h.ch && fits16 h.hf && fits16 h.tf && fitsS16 h.lo && fitsS16 h.hi && fits16 h.startWindow
    && fits16 h.warning && fits16 h.markLimit && fits16 h.secondMarkWait && fits8 h.tolerance && fits8 h.consoleB
    && fits16 h.settle && fits16 h.gateStep && fits8 h.leaveDebounce && fits16 h.baseline && fits16 h.cycleMin
    && fits16 h.freshness && fits8 h.replyTimeout && fits8 h.turnaround && fits16 h.cableFactor && fits8 h.autoSwap
    && fits16 h.pacing

/-- An entry of ADD ENTRIES has a bib that fits two bytes, a name with a length byte, and three nation characters. -/
def Entry.wf (e : Entry) : Bool := fits16 e.bib && fits8 e.name.length && e.nation.length == 3

/-- The parameter bytes of a list of entries. -/
def entriesSize (es : List Entry) : Nat := (es.map fun e => 6 + e.name.length).sum

/-- The command can come. -/
def Instr.wf : Instr → Bool
  | .setHill _ h => h.wf
  | .setStation _ slot presence address bearing roles =>
    fits8 slot && fits8 presence && fits8 address && fits16 bearing && fits8 roles
  | .setSurvey _ ps => ps.length ≤ 32 && ps.all fun p => fits16 p.raw && fits32 p.mm
  | .setLines _ cs => cs.length == 16 && cs.all fun c => fits8 c.1 && fits8 c.2
  | .readProfile _ selector slot => fits8 selector && fits8 slot
  | .writeLine _ line level => fits8 line && fits8 level
  | .openRound _ source q =>
    fits8 source && (match q with
      | some n => fits8 n && source != 0
      | none => source != 1)
  | .addEntries _ es => 1 ≤ es.length && es.length ≤ 4 && (es.all Entry.wf) && 1 + entriesSize es ≤ 198
  | .withdrawEntry _ bib => fits16 bib
  | .moveEntry _ bib target => fits16 bib && fits16 target
  | .coachReduction _ bib k => fits16 bib && fits8 k
  | .moveGate _ target => fits8 target
  | .enterMark _ attempt judge mark => fits16 attempt && fits8 judge && fits8 mark
  | .closeMarks _ attempt => fits16 attempt
  | .setDistance _ attempt d => fits16 attempt && fits16 d
  | .setWind _ attempt w => fits16 attempt && fitsS16 w
  | .voidAttempt _ attempt => fits16 attempt
  | .readAttempt _ attempt => fits16 attempt
  | .stationStatus _ slot => fits8 slot
  | .disableStation _ slot => fits8 slot
  | .enableStation _ slot => fits8 slot
  | .boardMessage _ line text => fits8 line && text.length ≤ 196
  | .setCursor _ selector position mode => fits8 selector && fits16 position && fits8 mode
  | .readAtCursor _ selector => fits8 selector
  | .setClock _ time => fits32 time
  | .setLink _ rate b => fits8 rate && fits8 b
  | .selectCounter _ counter kind qualifier => fits8 counter && fits8 kind && fits8 qualifier
  | .unknownKind _ kind => !(knownKinds.contains kind.toNat)
  | .cellBEdge interval => interval ≤ 200000
  | .echo _ count => count ≤ 4096
  | .markRecord _ cs => !cs.isEmpty
  | .heartbeat _ cs => !cs.isEmpty
  | .frameReceived cs => !cs.isEmpty
  | .secondMarkWaitExpiry n => 1 ≤ n && n ≤ 400
  | .storeProfile _ | .readLines _ | .confirmRound _ | .cancelRound _ | .suspendRound _ | .resumeRound _ | .armNext _
  | .clear _ | .hold _ | .stop _ | .markLeave _ | .homeGate _ | .lineTest _ | .readWind _ | .boardRefresh _
  | .boardStatus _ | .setNotices _ _ | .readCounters _ | .readFault _ | .restart _ | .hardReset _ | .storeWriteEnd _
  | .debounceEdge _ _ | .debounceExpiry _ | .cellAEdge | .trapTimerExpiry | .indexPulse | .gateHomeActive _
  | .stepTimeout | .settleExpiry | .homeTimeout | .flashTimerExpiry | .warningPeriodReached | .countdownSecondChange
  | .startWindowExpiry | .carrierClear | .contentionMiss | .turnaroundEnd | .pollSent | .replyTimeout | .replyBegin _
  | .replyCharacter _ | .replyGapExpiry | .noiseByte _ | .cyclePeriodExpiry | .gatingMeanStale | .windDeferExpiry
  | .listenEnd | .echoWindowExpiry | .recordGap _ _ | .silenceTimerExpiry _ | .markLimitExpiry | .boardFrameEnd
  | .pacingExpiry | .boardReadyChange _ | .stallTimerExpiry | .linkGap _ | .replySent | .noticeSent | .breakEnd
  | .controlByteDiscarded _ => true

end Sys2Proof
end

