-- ==== Sys2Proof/Decode.lean ====
section
/-! DEFINITION. From the body of a control frame to a command, and back (R155; 10, sections 10.12 and 10.13). -/

namespace Sys2Proof

/-- What LINK reads from the body of a frame: a command, or a refusal of its own with the kind and tag that the reply echoes. -/
inductive Decoded
  | cmd (i : Instr)
  | refuse (kind tag : Byte) (code : ReplyCode)
  deriving DecidableEq, Repr

/-- The hill section that SET HILL carries: the name, then every other field in the table's order. -/
def takeHill (ps : List Byte) : Option HillSection := do
  let (name, r) ← takeText ps
  let (kh, r) ← take16 r
  let (hs, r) ← take16 r
  let (base, r) ← take16 r
  let (mvh, r) ← take8 r
  let (gates, r) ← take8 r
  let (gf, r) ← take8 r
  let (ch, r) ← take16 r
  let (hf, r) ← take16 r
  let (tf, r) ← take16 r
  let (lo, r) ← takeS16 r
  let (hi, r) ← takeS16 r
  let (startWindow, r) ← take16 r
  let (warning, r) ← take16 r
  let (markLimit, r) ← take16 r
  let (secondMarkWait, r) ← take16 r
  let (tolerance, r) ← take8 r
  let (consoleB, r) ← take8 r
  let (settle, r) ← take16 r
  let (gateStep, r) ← take16 r
  let (leaveDebounce, r) ← take8 r
  let (baseline, r) ← take16 r
  let (cycleMin, r) ← take16 r
  let (freshness, r) ← take16 r
  let (replyTimeout, r) ← take8 r
  let (turnaround, r) ← take8 r
  let (cableFactor, r) ← take16 r
  let (autoSwap, r) ← take8 r
  let (pacing, r) ← take16 r
  finish { name, kh, hs, base, mvh, gates, gf, ch, hf, tf, lo, hi, startWindow, warning, markLimit, secondMarkWait,
           tolerance, consoleB, settle, gateStep, leaveDebounce, baseline, cycleMin, freshness, replyTimeout, turnaround,
           cableFactor, autoSwap, pacing } r

/-- The bytes of a hill section, in the same order. READ PROFILE gives them so too. -/
def hillBytes (h : HillSection) : List Byte :=
  textField h.name ++ (be16 h.kh ++ (be16 h.hs ++ (be16 h.base ++ (byte h.mvh :: byte h.gates :: byte h.gf ::
    (be16 h.ch ++ (be16 h.hf ++ (be16 h.tf ++ (sbe16 h.lo ++ (sbe16 h.hi ++ (be16 h.startWindow ++ (be16 h.warning ++
    (be16 h.markLimit ++ (be16 h.secondMarkWait ++ (byte h.tolerance :: byte h.consoleB :: (be16 h.settle ++
    (be16 h.gateStep ++ (byte h.leaveDebounce :: (be16 h.baseline ++ (be16 h.cycleMin ++ (be16 h.freshness ++
    (byte h.replyTimeout :: byte h.turnaround :: (be16 h.cableFactor ++ (byte h.autoSwap :: be16 h.pacing)))))))))))))))))))))))

/-- Reads `n` surveyed points. -/
def takePoints : Nat → List Byte → Option (List SurveyPoint)
  | 0, r => finish [] r
  | n + 1, r => do
    let (raw, r) ← take16 r
    let (mm, r) ← take32 r
    let rest ← takePoints n r
    some ({ raw, mm } :: rest)

/-- The bytes of surveyed points. -/
def pointBytes : List SurveyPoint → List Byte
  | [] => []
  | p :: ps => be16 p.raw ++ (be32 p.mm ++ pointBytes ps)

/-- Reads `n` pairs of a function code and a mode code. -/
def takeCodes : Nat → List Byte → Option (List (Nat × Nat))
  | 0, r => finish [] r
  | n + 1, r => do
    let (f, r) ← take8 r
    let (m, r) ← take8 r
    let rest ← takeCodes n r
    some ((f, m) :: rest)

/-- The bytes of pairs of codes. -/
def codeBytes : List (Nat × Nat) → List Byte
  | [] => []
  | c :: cs => byte c.1 :: byte c.2 :: codeBytes cs

/-- Reads `n` entries of ADD ENTRIES. -/
def takeEntries : Nat → List Byte → Option (List Entry)
  | 0, r => finish [] r
  | n + 1, r => do
    let (bib, r) ← take16 r
    let (name, r) ← takeText r
    let (nation, r) ← takeN 3 r
    let rest ← takeEntries n r
    some ({ bib, name, nation } :: rest)

/-- The bytes of entries. -/
def entryBytes : List Entry → List Byte
  | [] => []
  | e :: es => be16 e.bib ++ (textField e.name ++ (e.nation ++ entryBytes es))

/-- The parameters of OPEN ROUND: one byte with EMPTY, two with FROM_RANKING, one or two with any other source. -/
def takeOpenRound (tag : Byte) : List Byte → Option Decoded
  | [s] => if s.toNat = 1 then none else some (.cmd (.openRound tag s.toNat none))
  | [s, q] => if s.toNat = 0 then none else some (.cmd (.openRound tag s.toNat (some q.toNat)))
  | _ => none

/-- The parameters of the kind, read in the order of 10, section 10.13. `none` where their length does not fit the kind. -/
def takeParams (kind tag : Byte) (ps : List Byte) : Option Decoded :=
  match kind.toNat with
  | 0x10 => (takeHill ps).map fun h => .cmd (.setHill tag h)
  | 0x11 => do
    let (slot, r) ← take8 ps
    let (presence, r) ← take8 r
    let (address, r) ← take8 r
    let (bearing, r) ← take16 r
    let (roles, r) ← take8 r
    finish (.cmd (.setStation tag slot presence address bearing roles)) r
  | 0x12 => do
    let (n, r) ← take8 ps
    (takePoints n r).map fun l => .cmd (.setSurvey tag l)
  | 0x13 => (takeCodes 16 ps).map fun l => .cmd (.setLines tag l)
  | 0x14 => finish (.cmd (.storeProfile tag)) ps
  | 0x15 => do
    let (selector, r) ← take8 ps
    let (slot, r) ← take8 r
    finish (.cmd (.readProfile tag selector slot)) r
  | 0x16 => do
    let (line, r) ← take8 ps
    let (level, r) ← take8 r
    finish (.cmd (.writeLine tag line level)) r
  | 0x17 => finish (.cmd (.readLines tag)) ps
  | 0x20 => takeOpenRound tag ps
  | 0x21 => do
    let (n, r) ← take8 ps
    if 1 ≤ n ∧ n ≤ 4 then (takeEntries n r).map fun l => .cmd (.addEntries tag l) else none
  | 0x22 => do
    let (bib, r) ← take16 ps
    finish (.cmd (.withdrawEntry tag bib)) r
  | 0x23 => do
    let (bib, r) ← take16 ps
    let (target, r) ← take16 r
    finish (.cmd (.moveEntry tag bib target)) r
  | 0x24 => finish (.cmd (.confirmRound tag)) ps
  | 0x25 => finish (.cmd (.cancelRound tag)) ps
  | 0x26 => finish (.cmd (.suspendRound tag)) ps
  | 0x27 => finish (.cmd (.resumeRound tag)) ps
  | 0x30 => finish (.cmd (.armNext tag)) ps
  | 0x31 => finish (.cmd (.clear tag)) ps
  | 0x32 => finish (.cmd (.hold tag)) ps
  | 0x33 => finish (.cmd (.stop tag)) ps
  | 0x34 => finish (.cmd (.markLeave tag)) ps
  | 0x35 => do
    let (bib, r) ← take16 ps
    let (k, r) ← take8 r
    finish (.cmd (.coachReduction tag bib k)) r
  | 0x36 => do
    let (target, r) ← take8 ps
    finish (.cmd (.moveGate tag target)) r
  | 0x37 => finish (.cmd (.homeGate tag)) ps
  | 0x40 => do
    let (attempt, r) ← take16 ps
    let (judge, r) ← take8 r
    let (mark, r) ← take8 r
    finish (.cmd (.enterMark tag attempt judge mark)) r
  | 0x41 => do
    let (attempt, r) ← take16 ps
    finish (.cmd (.closeMarks tag attempt)) r
  | 0x42 => do
    let (attempt, r) ← take16 ps
    let (d, r) ← take16 r
    finish (.cmd (.setDistance tag attempt d)) r
  | 0x43 => do
    let (attempt, r) ← take16 ps
    let (w, r) ← takeS16 r
    finish (.cmd (.setWind tag attempt w)) r
  | 0x44 => do
    let (attempt, r) ← take16 ps
    finish (.cmd (.voidAttempt tag attempt)) r
  | 0x45 => do
    let (attempt, r) ← take16 ps
    finish (.cmd (.readAttempt tag attempt)) r
  | 0x50 => do
    let (slot, r) ← take8 ps
    finish (.cmd (.stationStatus tag slot)) r
  | 0x51 => do
    let (slot, r) ← take8 ps
    let (action, r) ← take8 r
    finish (if action = 0 then .cmd (.disableStation tag slot)
      else if action = 1 then .cmd (.enableStation tag slot) else .refuse kind tag .range) r
  | 0x52 => finish (.cmd (.lineTest tag)) ps
  | 0x53 => finish (.cmd (.readWind tag)) ps
  | 0x60 => do
    let (line, r) ← take8 ps
    let (text, r) ← takeText r
    finish (.cmd (.boardMessage tag line text)) r
  | 0x61 => finish (.cmd (.boardRefresh tag)) ps
  | 0x62 => finish (.cmd (.boardStatus tag)) ps
  | 0x70 => do
    let (selector, r) ← take8 ps
    let (position, r) ← take16 r
    let (mode, r) ← take8 r
    finish (.cmd (.setCursor tag selector position mode)) r
  | 0x71 => do
    let (selector, r) ← take8 ps
    finish (.cmd (.readAtCursor tag selector)) r
  | 0x78 => do
    let (time, r) ← take32 ps
    finish (.cmd (.setClock tag time)) r
  | 0x79 => do
    let (mask, r) ← take16 ps
    finish (.cmd (.setNotices tag (BitVec.ofNat 16 mask))) r
  | 0x7A => do
    let (rate, r) ← take8 ps
    let (b, r) ← take8 r
    finish (.cmd (.setLink tag rate b)) r
  | 0x7B => do
    let (counter, r) ← take8 ps
    let (k, r) ← take8 r
    let (qualifier, r) ← take8 r
    finish (.cmd (.selectCounter tag counter k qualifier)) r
  | 0x7C => finish (.cmd (.readCounters tag)) ps
  | 0x7D => finish (.cmd (.readFault tag)) ps
  | 0x7E => some (.cmd (.restart tag))
  | _ => some (.cmd (.unknownKind tag kind))

/-- Reads the body of a received frame: kind, tag and parameters (R155). A known kind whose parameter length does not fit it is
refused with LENGTH; a kind not in the request table is the command UNKNOWN_KIND. The receiver lets no body of fewer than two
bytes through (R154). -/
def decodeRequest : List Byte → Decoded
  | kind :: tag :: ps => (takeParams kind tag ps).getD (.refuse kind tag .length)
  | [kind] => .refuse kind 0 .length
  | [] => .refuse 0 0 .length

/-- The kind, tag and parameter bytes of a request; `none` for a command that is no request. -/
def requestFrame : Instr → Option (Byte × Byte × List Byte)
  | .setHill tag h => some (0x10, tag, hillBytes h)
  | .setStation tag slot presence address bearing roles =>
    some (0x11, tag, byte slot :: byte presence :: byte address :: (be16 bearing ++ [byte roles]))
  | .setSurvey tag points => some (0x12, tag, byte points.length :: pointBytes points)
  | .setLines tag codes => some (0x13, tag, codeBytes codes)
  | .storeProfile tag => some (0x14, tag, [])
  | .readProfile tag selector slot => some (0x15, tag, [byte selector, byte slot])
  | .writeLine tag line level => some (0x16, tag, [byte line, byte level])
  | .readLines tag => some (0x17, tag, [])
  | .openRound tag source q =>
    some (0x20, tag, byte source :: (match q with
      | some n => [byte n]
      | none => []))
  | .addEntries tag entries => some (0x21, tag, byte entries.length :: entryBytes entries)
  | .withdrawEntry tag bib => some (0x22, tag, be16 bib)
  | .moveEntry tag bib target => some (0x23, tag, be16 bib ++ be16 target)
  | .confirmRound tag => some (0x24, tag, [])
  | .cancelRound tag => some (0x25, tag, [])
  | .suspendRound tag => some (0x26, tag, [])
  | .resumeRound tag => some (0x27, tag, [])
  | .armNext tag => some (0x30, tag, [])
  | .clear tag => some (0x31, tag, [])
  | .hold tag => some (0x32, tag, [])
  | .stop tag => some (0x33, tag, [])
  | .markLeave tag => some (0x34, tag, [])
  | .coachReduction tag bib k => some (0x35, tag, be16 bib ++ [byte k])
  | .moveGate tag target => some (0x36, tag, [byte target])
  | .homeGate tag => some (0x37, tag, [])
  | .enterMark tag attempt judge mark => some (0x40, tag, be16 attempt ++ [byte judge, byte mark])
  | .closeMarks tag attempt => some (0x41, tag, be16 attempt)
  | .setDistance tag attempt d => some (0x42, tag, be16 attempt ++ be16 d)
  | .setWind tag attempt w => some (0x43, tag, be16 attempt ++ sbe16 w)
  | .voidAttempt tag attempt => some (0x44, tag, be16 attempt)
  | .readAttempt tag attempt => some (0x45, tag, be16 attempt)
  | .stationStatus tag slot => some (0x50, tag, [byte slot])
  | .disableStation tag slot => some (0x51, tag, [byte slot, 0])
  | .enableStation tag slot => some (0x51, tag, [byte slot, 1])
  | .lineTest tag => some (0x52, tag, [])
  | .readWind tag => some (0x53, tag, [])
  | .boardMessage tag line text => some (0x60, tag, byte line :: textField text)
  | .boardRefresh tag => some (0x61, tag, [])
  | .boardStatus tag => some (0x62, tag, [])
  | .setCursor tag selector position mode => some (0x70, tag, byte selector :: (be16 position ++ [byte mode]))
  | .readAtCursor tag selector => some (0x71, tag, [byte selector])
  | .setClock tag time => some (0x78, tag, be32 time)
  | .setNotices tag mask => some (0x79, tag, be16 mask.toNat)
  | .setLink tag rate b => some (0x7A, tag, [byte rate, byte b])
  | .selectCounter tag counter k qualifier => some (0x7B, tag, [byte counter, byte k, byte qualifier])
  | .readCounters tag => some (0x7C, tag, [])
  | .readFault tag => some (0x7D, tag, [])
  | .restart tag => some (0x7E, tag, [])
  | .unknownKind tag kind => some (kind, tag, [])
  | .hardReset _ | .storeWriteEnd _
  | .debounceEdge _ _ | .debounceExpiry _ | .cellAEdge | .cellBEdge _ | .trapTimerExpiry | .indexPulse | .gateHomeActive _
  | .stepTimeout | .settleExpiry | .homeTimeout | .flashTimerExpiry | .warningPeriodReached | .countdownSecondChange
  | .startWindowExpiry | .carrierClear | .contentionMiss | .turnaroundEnd | .pollSent | .replyTimeout | .replyBegin _
  | .replyCharacter _ | .replyGapExpiry | .noiseByte _ | .cyclePeriodExpiry | .gatingMeanStale | .windDeferExpiry
  | .listenEnd | .echo _ _ | .echoWindowExpiry | .markRecord _ _ | .heartbeat _ _ | .recordGap _ _
  | .silenceTimerExpiry _ | .markLimitExpiry | .secondMarkWaitExpiry _ | .boardFrameEnd
  | .pacingExpiry | .boardReadyChange _ | .stallTimerExpiry | .frameReceived _ | .linkGap _ | .replySent | .noticeSent
  | .breakEnd | .controlByteDiscarded _ => none

/-- The body of the frame that carries a request: kind, tag, parameters. -/
def encodeRequest (i : Instr) : List Byte :=
  match requestFrame i with
  | some (kind, tag, ps) => kind :: tag :: ps
  | none => []

/-- The table gives no row any bits, so no word spells a command. -/
def decodeTableWord (_nbits _w : Nat) : Option Instr := none

end Sys2Proof
end

