-- ==== Sys2Proof/Machine/Defaults.lean ====
section
/-! DEFINITION. The default profile (01, section 1.1) and small readers of the profile's fields. -/

namespace Sys2Proof

/-- "Console B in use" is yes. -/
def HillSection.consoleBInUse (h : HillSection) : Bool := h.consoleB == 1

/-- "Polarity auto-swap" is on. -/
def HillSection.autoSwapOn (h : HillSection) : Bool := h.autoSwap == 1

namespace Machine

/-- The defaults of the hill section table (01, section 1.1). -/
def defaultHill : HillSection where
  name := []
  kh := 240
  hs := 276
  base := 600
  mvh := 9
  gates := 20
  gf := 72
  ch := 256
  hf := 80
  tf := 97
  lo := -300
  hi := 300
  startWindow := 10000
  warning := 3000
  markLimit := 20000
  secondMarkWait := 8000
  tolerance := 1
  consoleB := 1
  settle := 1000
  gateStep := 5000
  leaveDebounce := 10
  baseline := 10000
  cycleMin := 250
  freshness := 1000
  replyTimeout := 30
  turnaround := 5
  cableFactor := 990
  autoSwap := 0
  pacing := 50

/-- The standard board map (01, section 1.4). -/
def standardMap : List Assignment :=
  [⟨.lampRed, .pushPull⟩, ⟨.lampAmber, .pushPull⟩, ⟨.lampGreen, .pushPull⟩, ⟨.leave, .input⟩, ⟨.juryStop, .input⟩,
   ⟨.cellA, .input⟩, ⟨.cellB, .input⟩, ⟨.gateUp, .pushPull⟩, ⟨.gateDown, .pushPull⟩, ⟨.gateIndex, .input⟩,
   ⟨.gateHome, .input⟩, ⟨.windTxen, .pushPull⟩, ⟨.windCd, .input⟩, ⟨.boardReady, .input⟩, ⟨.alert, .openDrain⟩,
   ⟨.none, .input⟩]

/-- The default profile: the default hill section, every slot absent, no survey loaded, the standard board map. -/
def defaultProfile : Profile where
  hill := defaultHill
  slots := List.replicate 8 none
  survey := none
  lines := standardMap

/-- The outside levels with every input of the standard map at its inactive level: JURY_STOP, CELL_A, CELL_B, GATE_INDEX and
GATE_HOME high, the others low (R12). DESIGN CHOICE, log 6. -/
def idleLevels : BitVec 16 := 0x0670#16

end Machine
end Sys2Proof
end

