-- ==== Sys2Proof/Machine/Blocks.lean ====
section
/-! DEFINITION. The state of each block, with its hard reset values. -/

namespace Sys2Proof.Machine

/-! ## PROF and FLD (01) -/

/-- PROF's state (R1). `writing` holds the profile that a store write in progress is writing; the store state is WRITING
exactly while it is there (R8). -/
structure Prof where
  profile : Profile
  image : Image
  valid : Bool
  unsaved : Bool
  writing : Option Profile
  deriving DecidableEq, Repr

/-- A debounced line (R13): its debounced level (high is `true`), its timer, and the stamp of the first edge. -/
structure Debounce where
  level : Bool
  timer : Option Nat
  stamp : Option Nat
  deriving DecidableEq, Repr

/-- FLD's state (R12, R13, R15). `outside` is the level that the circuit outside holds each line at. -/
structure Fld where
  outside : BitVec 16
  written : BitVec 16
  leave : Debounce
  stop : Debounce
  deriving DecidableEq, Repr

/-! ## CST (02) -/

/-- The round state (R17); `opened` is OPEN. -/
inductive RoundState
  | none | opened | suspended | ended | confirmed
  deriving DecidableEq, Repr

/-- A competitor record (R30). `totals` holds the point totals of rounds 1..4. -/
structure Competitor where
  bib : Nat
  name : Text
  nation : Text
  disqualified : Bool
  totals : List (Option Nat)
  deriving DecidableEq, Repr

/-- The states of an attempt (R32, R34). -/
inductive AttemptState
  | waiting | cleared | inRun | flight | scoring | complete | lapsed | voided | cancelled
  deriving DecidableEq, Repr

/-- The four on-hill phases (R34). -/
def AttemptState.onHill : AttemptState → Bool
  | .waiting | .cleared | .inRun | .flight => true
  | .scoring | .complete | .lapsed | .voided | .cancelled => false

/-- The on-hill end cause (R32). -/
inductive EndCause
  | mark | limit
  deriving DecidableEq, Repr

/-- The wind status (R32); "absent" is `none` of its option. -/
inductive WindStatus
  | sampling | computed | absent | jury
  deriving DecidableEq, Repr

/-- A stored console mark (R32): raw coordinate, edit count, converted D. -/
structure ConsoleMark where
  raw : Nat
  edit : Nat
  d : Nat
  deriving DecidableEq, Repr

/-- The distance status (R32). -/
inductive DistanceStatus
  | none | pendingSecond | agreed | single | held | missing | jury
  deriving DecidableEq, Repr

/-- The style status (R32, R122). -/
inductive StyleStatus
  | opened | full | closed4
  deriving DecidableEq, Repr

/-- The computed points of an attempt (R129, R126, R130, R104, R131). They are absent or present together (R121). -/
structure Points where
  pD : Nat
  pS : Nat
  pG : Int
  pW : Int
  total : Nat
  deriving DecidableEq, Repr

/-- An attempt record (R32). `marks` holds the slots of judges 1..5; `faults` holds the fault set in the order the faults
arose, each at most once. -/
structure Attempt where
  number : Nat
  round : Nat
  bib : Nat
  state : AttemptState
  coach : Option Nat
  juryGate : Option Nat
  attemptGate : Option Nat
  greenTime : Option Nat
  leaveTime : Option Nat
  takeoffTime : Option Nat
  endCause : Option EndCause
  speed : Option Nat
  samples : List Int
  windStatus : Option WindStatus
  wind : Option Int
  markA : Option ConsoleMark
  markB : Option ConsoleMark
  distance : Option Nat
  distanceStatus : DistanceStatus
  marks : List (Option Nat)
  style : StyleStatus
  points : Option Points
  faults : List DeferredFault
  earlyLeave : Bool
  manualLeave : Bool
  juryStopped : Bool
  deriving DecidableEq, Repr

/-- CST's state (R17, R25, R30, R32). -/
structure Cst where
  round : Nat
  rstate : RoundState
  startList : List Nat
  directory : List Competitor
  attempts : List Attempt
  deriving DecidableEq, Repr

/-- CST after hard reset and after RESTART. -/
def cstReset : Cst := { round := 0, rstate := .none, startList := [], directory := [], attempts := [] }

/-! ## STC (03) -/

/-- The light state (R39). -/
inductive Light
  | dark | red | amber | green | greenWarn
  deriving DecidableEq, Repr

/-- STC's state (R39). The timers hold their remaining milliseconds. -/
structure Stc where
  light : Light
  heldArm : Bool
  clearPending : Bool
  windWaitSent : Bool
  window : Option Nat
  flashTimer : Option Nat
  flashOn : Bool
  countdown : Option Nat
  coach : Option (Nat × Nat)
  deriving DecidableEq, Repr

/-- STC after hard reset and after RESTART (R39). -/
def stcReset : Stc where
  light := .dark
  heldArm := false
  clearPending := false
  windWaitSent := false
  window := none
  flashTimer := none
  flashOn := false
  countdown := none
  coach := none

/-! ## GATE (04) -/

/-- The positioner states (R60). -/
inductive GateState
  | unknown | idle | movingUp | movingDown | settling | homing | fault | manual
  deriving DecidableEq, Repr

/-- The motion states (R60). -/
def GateState.motion : GateState → Bool
  | .movingUp | .movingDown | .settling | .homing => true
  | .unknown | .idle | .fault | .manual => false

/-- The move kinds (R60). -/
inductive MoveKind
  | move | coach | ret | home
  deriving DecidableEq, Repr

/-- Directions of travel (R60). -/
inductive Direction
  | up | down
  deriving DecidableEq, Repr

/-- GATE's positioner record (R60). -/
structure Gate where
  state : GateState
  current : Option Nat
  target : Option Nat
  kind : Option MoveKind
  jury : Option Nat
  reference : Option Nat
  lastDir : Option Direction
  corrected : Bool
  returnWaiting : Bool
  stepTimer : Option Nat
  settleTimer : Option Nat
  homeTimer : Option Nat
  deriving DecidableEq, Repr

/-- GATE after hard reset (R60): MANUAL at gate 1 if the drive is incomplete, UNKNOWN otherwise. -/
def gateReset (manual : Bool) : Gate where
  state := if manual then .manual else .unknown
  current := if manual then some 1 else none
  target := none
  kind := none
  jury := if manual then some 1 else none
  reference := none
  lastDir := none
  corrected := false
  returnWaiting := false
  stepTimer := none
  settleTimer := none
  homeTimer := none

/-! ## WLN (05, 06) -/

/-- The poll states (R72). -/
inductive PollState
  | stopped | inCycle | between | paused
  deriving DecidableEq, Repr

/-- The exchange phases (R72). -/
inductive Phase
  | none | carrierWait | turnaround | sending | replyWait | receiving
  deriving DecidableEq, Repr

/-- The station states (R82). -/
inductive StationState
  | unknown | online | suspect | offline | disabled
  deriving DecidableEq, Repr

/-- The station statuses that a reply carries (R77; codes in 10, section 10.13). -/
inductive StationStatus
  | ok | heaterFault | iced
  deriving DecidableEq, Repr

/-- A last reading (R82). `time` is the hill-clock time of the judgement, `age` counts the milliseconds since it. -/
structure Reading where
  speed : Nat
  direction : Nat
  status : StationStatus
  t : Int
  time : Nat
  age : Nat
  deriving DecidableEq, Repr

/-- A station record (R82). `newcomer` says that the slot became present in this cycle: it is polled from the next one (R5). -/
structure Station where
  state : StationState
  reading : Option Reading
  misses : Nat
  replies : Nat
  missCount : Nat
  badCount : Nat
  latch : Bool
  clamped : Bool
  good : Bool
  newcomer : Bool
  deriving DecidableEq, Repr

/-- A station record after hard reset (R82). -/
def stationReset : Station where
  state := .unknown
  reading := none
  misses := 0
  replies := 0
  missCount := 0
  badCount := 0
  latch := false
  clamped := false
  good := false
  newcomer := false

/-- Line test results (R92). -/
inductive TestResult
  | normal | opened | short | noise
  deriving DecidableEq, Repr

/-- The line test state (R72). TESTING is its two steps of R92: the 1 ms listen, with what is left of it and whether a carrier
was seen in it, and the watch for an echo. -/
inductive TestState
  | idle
  | waitingExchange
  | listening (remaining : Nat) (heard : Bool)
  | watching
  deriving DecidableEq, Repr

/-- The gating mean record (R97). `staleTaken` says that its becoming stale by age has been taken as a board change (R98).
`staleQueued` says that the clock has put a GATING_MEAN_STALE in the queue, which a cycle end may overtake. -/
structure GatingMean where
  value : Option Int
  time : Option Nat
  age : Nat
  iced : Bool
  staleTaken : Bool
  staleQueued : Bool
  deriving DecidableEq, Repr

/-- WLN's state (R72, R74 to R79, R92, R96 to R99). `txen` is WLN's request to the modem (R75); `txenMoved` says that SET LINES has
given WIND_TXEN another place since the exchange began, so that the request waits for the next exchange (R7, R16). -/
structure Wln where
  poll : PollState
  phase : Phase
  polled : Nat
  polledAddress : Nat
  discard : Bool
  cdLine : Option Nat
  carrierTimer : Option Nat
  turnTimer : Option Nat
  replyTimer : Option Nat
  gapTimer : Option Nat
  reply : List RxChar
  trailing : Option Nat
  txen : Bool
  txenMoved : Bool
  cycle : Nat
  cycleTimer : Option Nat
  nextSlot : Nat
  pausedBetween : Bool
  inverted : Bool
  polarityCount : Nat
  contention : Nat
  noise : Nat
  test : TestState
  lastTest : Option (TestResult × Option Nat)
  stations : List Station
  gating : GatingMean
  scoringMean : Option Int
  nGating : Nat
  nScoring : Nat
  windHold : Option Nat
  windDeferred : Bool
  window : Option (Nat × Bool)
  deriving DecidableEq, Repr

/-- WLN after hard reset, before its first cycle (R72, R82, R96, R97, R98, R99). The gating mean's time is absent, its age 0 and its
iced mark cleared, where R97 gives the value alone (log 43). -/
def wlnReset : Wln where
  poll := .stopped
  phase := .none
  polled := 0
  polledAddress := 0
  discard := false
  cdLine := none
  carrierTimer := none
  turnTimer := none
  replyTimer := none
  gapTimer := none
  reply := []
  trailing := none
  txen := false
  txenMoved := false
  cycle := 0
  cycleTimer := none
  nextSlot := 0
  pausedBetween := false
  inverted := false
  polarityCount := 0
  contention := 0
  noise := 0
  test := .idle
  lastTest := none
  stations := List.replicate 8 stationReset
  gating := { value := none, time := none, age := 0, iced := false, staleTaken := false, staleQueued := false }
  scoringMean := none
  nGating := 0
  nScoring := 0
  windHold := none
  windDeferred := false
  window := none

/-! ## MEAS (07) -/

/-- Speed trap states (R105). -/
inductive TrapState
  | off | ready | counting | spent
  deriving DecidableEq, Repr

/-- Console states (R105). -/
inductive ConsoleState
  | active | silent | disabled
  deriving DecidableEq, Repr

/-- MEAS's state (R105). A record assembly is empty while hunting. `markLimit` and `waits` pair an attempt number with the
remaining milliseconds. -/
structure Meas where
  trap : TrapState
  trapAttempt : Option Nat
  interval : Nat
  trapTimer : Option Nat
  stateA : ConsoleState
  stateB : ConsoleState
  silenceA : Option Nat
  silenceB : Option Nat
  asmA : List RxChar
  asmB : List RxChar
  markLimit : Option (Nat × Nat)
  waits : List (Nat × Nat)
  deriving DecidableEq, Repr

/-- MEAS after hard reset, when the profile has been applied (R105). -/
def measReset (consoleB : Bool) : Meas where
  trap := .off
  trapAttempt := none
  interval := 0
  trapTimer := none
  stateA := .silent
  stateB := if consoleB then .silent else .disabled
  silenceA := some 5000
  silenceB := if consoleB then some 5000 else none
  asmA := []
  asmB := []
  markLimit := none
  waits := []

/-! ## SCR (08) -/

/-- SCR's own state (R121): the ranking list. -/
structure Scr where
  ranking : List Nat
  deriving DecidableEq, Repr

/-! ## BRD (09) -/

/-- The board fields, in the order of their codes 1..12 (R142). -/
inductive BoardField
  | light | countdown | jumper | gate | wind | speed | distance | marks | points | rank | message | top
  deriving DecidableEq, Repr

/-- The classes of fields (R142). -/
inductive KeyClass
  | urgent | normal | background
  deriving DecidableEq, Repr

/-- The class of a field (R142). -/
def BoardField.cls : BoardField → KeyClass
  | .light | .countdown => .urgent
  | .top => .background
  | .jumper | .gate | .wind | .speed | .distance | .marks | .points | .rank | .message => .normal

/-- A board key: a field and a line index (R142). -/
structure Key where
  field : BoardField
  line : Nat
  deriving DecidableEq, Repr

/-- An item of the board queue (R141). -/
structure BoardItem where
  key : Key
  blank : Bool
  deriving DecidableEq, Repr

/-- A frame on the board line (R145): its key and its text as formatted when it was taken. -/
structure BoardFrame where
  key : Key
  text : Text
  deriving DecidableEq, Repr

/-- The subject table (R141). -/
structure Subjects where
  jumper : Option Nat
  speed : Option Nat
  distance : Option Nat
  marks : Option Nat
  points : Option Nat
  rank : Option Nat
  deriving DecidableEq, Repr

/-- Every subject none. -/
def noSubjects : Subjects :=
  { jumper := none, speed := none, distance := none, marks := none, points := none, rank := none }

/-- BRD's state (R141). The sender state is SENDING exactly while `sender` holds the frame on the line. -/
structure Brd where
  queue : List BoardItem
  subjects : Subjects
  messages : List Text
  sender : Option BoardFrame
  pacing : Option Nat
  ready : Bool
  stallTimer : Option Nat
  stalled : Bool
  deriving DecidableEq, Repr

/-- BRD after hard reset (R141), with the ready level it finds. -/
def brdReset (ready : Bool) : Brd where
  queue := []
  subjects := noSubjects
  messages := List.replicate 16 []
  sender := none
  pacing := none
  ready := ready
  stallTimer := none
  stalled := false

/-! ## LINK and DIAG (10) -/

/-- The causes that drop a held arm, in the order of R44. -/
inductive DropCause
  | stop | juryStop | gateFault | suspend | cancel | listEmpty | roundState
  deriving DecidableEq, Repr

/-- The device faults (R163). -/
inductive FaultKind
  | profileCheck | storeWrite | gateDrive | gateHomeLost | lineJam | boardStall
  deriving DecidableEq, Repr

/-- The record in the fault capture (R163). The reporting block follows from the kind. -/
structure Capture where
  kind : FaultKind
  detail : Nat
  time : Nat
  deriving DecidableEq, Repr

/-- The kinds of counted events, in the order of their codes 0..15 (R162). -/
inductive CounterKind
  | none | windGood | windMiss | windBad | noiseByte | linkBad | boardFrame | boardDrop
  | leaveStray | cellStray | gateStray | markStray | markBad | windDelay | greenGiven | attemptLapsed
  deriving DecidableEq, Repr

/-- An event counter (R162). -/
structure Counter where
  kind : CounterKind
  openOnly : Bool
  value : Nat
  deriving DecidableEq, Repr

/-- A counter after hard reset (R152). -/
def counterReset : Counter := { kind := .none, openOnly := false, value := 0 }

/-- DIAG's state (R152). -/
structure Diag where
  counter0 : Counter
  counter1 : Counter
  capture : Option Capture
  seconds : Nat
  deriving DecidableEq, Repr

/-- What a notice carries after its kind, sequence number, subkind and time, by the rule that sends it (10, section 10.6). -/
inductive NoticeBody
  /-- LIGHT (R40). -/
  | light (old new : Light) (attempt : Option Nat)
  /-- ATTEMPT, STATE_CHANGE (R35). -/
  | stateChange (attempt round bib : Nat) (old : Option AttemptState) (new : AttemptState)
  /-- ATTEMPT, ROUND_CANCELLED (R35). -/
  | roundCancelled (round count : Nat)
  /-- ATTEMPT, ARM_DROPPED (R44). -/
  | armDropped (cause : DropCause)
  /-- ATTEMPT_FAULTS (R114). -/
  | attemptFaults (attempt bib : Nat) (cause : EndCause) (faults : List DeferredFault)
  /-- ATTEMPT_COMPLETE, FIRST or RECOMPUTED (R128, R132). -/
  | attemptComplete (recomputed : Bool) (attempt round bib : Nat) (d : Option Nat) (points : Points)
      (rankingTotal : Nat) (rank : Option Nat)
  /-- DISTANCE_HELD (R116). -/
  | distanceHeld (attempt bib da db : Nat)
  /-- MARK_STRAY (R111). -/
  | markStray (console : Console) (bib raw edit : Nat)
  /-- WIND_WAIT (R48). -/
  | windWait (attempt : Nat) (mean : Option Int)
  /-- STATION (R84). -/
  | station (slot address : Nat) (old new : StationState) (misses : Nat)
  /-- POLARITY (R90). -/
  | polarity (inverted : Bool)
  /-- GATE, GATE_BEGUN (R60). -/
  | gateBegun (kind : MoveKind) (current target jury : Option Nat)
  /-- GATE, GATE_DONE (R60). -/
  | gateDone (kind : MoveKind) (current jury : Option Nat)
  /-- GATE, GATE_FAULT (R60). -/
  | gateFault (kind : FaultKind) (last : Option Nat)
  /-- LINE_TEST (R92). -/
  | lineTest (result : TestResult) (distance : Option Nat) (count : Nat)
  /-- CONSOLE (R110). -/
  | console (console : Console) (old new : ConsoleState)
  /-- BOARD, STALL (R147). -/
  | boardStall (length : Nat)
  /-- BOARD, RESUMED (R147). -/
  | boardResumed (length : Nat)
  /-- PROFILE_STORED, OK or FAILED (R9). -/
  | profileStored (failed : Bool)
  /-- COUNTER_OVERFLOW (R162). -/
  | counterOverflow (counter : Nat) (kind : CounterKind)
  /-- RESET_DONE (R165). -/
  | resetDone (cause : ResetCause) (valid : Bool)
  deriving DecidableEq, Repr

/-- A notice in the queue (R158): its sequence number, the hill-clock time of its event, and what it carries. -/
structure Notice where
  seq : BitVec 8
  time : Nat
  body : NoticeBody
  deriving DecidableEq, Repr

/-- One entry of the ranking as READ AT CURSOR gives it (R161). -/
structure RankRecord where
  bib : Nat
  rank : Option Nat
  total : Nat
  disqualified : Bool
  name : Text
  nation : Text
  totals : List (Option Nat)
  deriving DecidableEq, Repr

/-- What READ WIND reports (R93). -/
structure WindReport where
  gating : Option Int
  gatingTime : Option Nat
  fresh : Bool
  scoring : Option Int
  nGating : Nat
  nScoring : Nat
  poll : PollState
  cycle : Nat
  inverted : Bool
  autoSwap : Bool
  contention : Nat
  noise : Nat
  test : TestState
  lastTest : Option (TestResult × Option Nat)
  deriving DecidableEq, Repr

/-- What BOARD STATUS reports (R150). -/
structure BoardReport where
  queue : List BoardItem
  ready : Bool
  hasLine : Bool
  stalled : Bool
  stallTimer : Bool
  sending : Bool
  deriving DecidableEq, Repr

/-- The reply data of the requests that give any (10, section 10.13). -/
inductive ReplyData
  | none
  /-- READ PROFILE (R11). -/
  | hill (h : HillSection)
  | slot (s : Option StationSlot)
  | survey (s : Option (List SurveyPoint))
  | lines (l : List Assignment)
  | profileState (valid unsaved writing loaded : Bool)
  /-- READ LINES (R14). -/
  | levels (sensed : List Bool) (leave stop : Option Bool)
  /-- READ ATTEMPT (R36). -/
  | attempt (a : Attempt)
  /-- STATION STATUS (R87). -/
  | station (address : Nat) (st : Station) (fresh : Bool)
  /-- READ WIND (R93). -/
  | wind (w : WindReport)
  /-- BOARD STATUS (R150). -/
  | board (b : BoardReport)
  /-- READ AT CURSOR (R161). -/
  | cursorAttempt (position : Nat) (a : Attempt)
  | cursorRank (position : Nat) (r : RankRecord)
  /-- READ COUNTERS (R162). -/
  | counters (c0 c1 : Counter)
  /-- READ FAULT (R163). -/
  | fault (c : Option Capture) (seconds : Nat)
  deriving DecidableEq, Repr

/-- A reply that waits for the transmitter (R155, R156). -/
structure Reply where
  kind : Byte
  tag : Byte
  code : ReplyCode
  data : ReplyData
  deriving DecidableEq, Repr

/-- The request in hand (R155): its kind and tag, and the link settings that take effect when the last byte of its reply has
been sent (R153). -/
structure InHand where
  kind : Byte
  tag : Byte
  change : Option (Nat × Bool)
  deriving DecidableEq, Repr

/-- The transmitter (R152, R157), with the frame it is sending. A reply is sent with its status byte. -/
inductive Tx
  | idle
  | brk
  | reply (r : Reply) (status : BitVec 8)
  | notice (n : Notice)
  deriving DecidableEq, Repr

/-- A cursor (R152). -/
structure Cursor where
  position : Nat
  advance : Bool
  deriving DecidableEq, Repr

/-- A cursor after hard reset and after RESTART (R161). -/
def cursorReset : Cursor := { position := 1, advance := false }

/-- LINK's state (R152). `rate` is the rate code of R153; `asm` is empty while the receiver hunts; `seq` is the number that the
next notice takes. -/
structure Link where
  rate : Nat
  brk : Bool
  asm : List RxChar
  buffer : List (List Byte)
  inHand : Option InHand
  tx : Tx
  replyWaiting : Option Reply
  notices : List Notice
  mask : BitVec 16
  seq : BitVec 8
  overrun : Bool
  discard : Bool
  clock : Nat
  clockSet : Bool
  attemptCursor : Cursor
  rankCursor : Cursor
  deriving DecidableEq, Repr

/-- LINK after hard reset, before RESET_DONE is queued (R152, R165). -/
def linkReset : Link where
  rate := 2
  brk := false
  asm := []
  buffer := []
  inHand := none
  tx := .idle
  replyWaiting := none
  notices := []
  mask := 0xFFFF#16
  seq := 0
  overrun := false
  discard := false
  clock := 0
  clockSet := false
  attemptCursor := cursorReset
  rankCursor := cursorReset

end Sys2Proof.Machine
end

