-- ==== Sys2Proof/Machine/State.lean ====
section
/-! DEFINITION. The state of the part, the reasons a step can stop, and the state after reset. -/

namespace Sys2Proof.Machine

/-- The state of the part: its blocks, the counter that the free values of Config are applied to, and the commands that wait,
first in, first out. -/
structure State where
  prof : Prof
  fld : Fld
  cst : Cst
  stc : Stc
  gate : Gate
  wln : Wln
  meas : Meas
  scr : Scr
  brd : Brd
  link : Link
  diag : Diag
  freeCtr : Nat
  pending : List Instr
  deriving DecidableEq, Repr

/-- No command stops the part: a refused request is answered (R156), a device fault fills the fault capture (R163), a deferred
fault joins an attempt's fault set (R34). So there is no fault (log 27). -/
inductive Fault
  deriving DecidableEq, Repr

/-- Why a command has no meaning. -/
inductive Refusal
  /-- Raised by an arm of `exec` whose command has no meaning yet. Safe: nothing is claimed of it. No arm raises it. -/
  | notModelled (mnemonic : String)
  deriving DecidableEq, Repr

def State.onProf (s : State) (f : Prof → Prof) : State := { s with prof := f s.prof }
def State.onFld (s : State) (f : Fld → Fld) : State := { s with fld := f s.fld }
def State.onCst (s : State) (f : Cst → Cst) : State := { s with cst := f s.cst }
def State.onStc (s : State) (f : Stc → Stc) : State := { s with stc := f s.stc }
def State.onGate (s : State) (f : Gate → Gate) : State := { s with gate := f s.gate }
def State.onWln (s : State) (f : Wln → Wln) : State := { s with wln := f s.wln }
def State.onMeas (s : State) (f : Meas → Meas) : State := { s with meas := f s.meas }
def State.onScr (s : State) (f : Scr → Scr) : State := { s with scr := f s.scr }
def State.onBrd (s : State) (f : Brd → Brd) : State := { s with brd := f s.brd }
def State.onLink (s : State) (f : Link → Link) : State := { s with link := f s.link }
def State.onDiag (s : State) (f : Diag → Diag) : State := { s with diag := f s.diag }

/-- The part right after power-on, never stored to before (log 5) and with every input line inactive (log 6): the image fails
its load check, the defaults are in use, and RESET_DONE is queued (R10, R165). -/
def State.reset : State where
  prof := { profile := defaultProfile, image := { profile := defaultProfile, crcMatches := false }, valid := false,
            unsaved := false, writing := none }
  fld := { outside := idleLevels, written := 0#16, leave := { level := false, timer := none, stamp := none },
           stop := { level := true, timer := none, stamp := none } }
  cst := cstReset
  stc := stcReset
  gate := gateReset false
  wln := wlnReset
  meas := measReset true
  scr := { ranking := [] }
  brd := brdReset false
  link := { linkReset with notices := [{ seq := 0#8, time := 0, body := .resetDone .power false }], seq := 1#8 }
  diag := { counter0 := counterReset, counter1 := counterReset,
            capture := some { kind := .profileCheck, detail := 1, time := 0 }, seconds := 0 }
  freeCtr := 0
  pending := []

end Sys2Proof.Machine
end

