-- ==== Sys2Proof/Machine/Ops.lean ====
section
/-! DEFINITION. The operations that several blocks share: field lines, notices, counters, the fault capture, and the records of
CST. -/

namespace Sys2Proof.Machine

/-! ## Field lines (01) -/

/-- A 16-bit word with the level of one line set. -/
def setLevel (w : BitVec 16) (i : Nat) (level : Bool) : BitVec 16 :=
  if level then w ||| (1#16 <<< i) else w &&& ~~~(1#16 <<< i)

/-- The line that an assignment list gives a function. -/
def lineIn (lines : List Assignment) (f : LineFunction) : Option Nat := lines.findIdx? fun a => a.fn == f

/-- The line assigned to a function (R12). -/
def lineOf (s : State) (f : LineFunction) : Option Nat := lineIn s.prof.profile.lines f

/-- The function has a line. -/
def hasLine (s : State) (f : LineFunction) : Bool := (lineOf s f).isSome

/-- The gate drive is complete: GATE_UP, GATE_DOWN and GATE_INDEX all have lines (R10, R16). -/
def driveComplete (lines : List Assignment) : Bool :=
  (lineIn lines .gateUp).isSome && (lineIn lines .gateDown).isSome && (lineIn lines .gateIndex).isSome

/-- Whether an output function is active, as its owner directs (R12, R41, R61, R75, R163). An input function is never active
here: FLD does not drive it. -/
def outputActive (s : State) : LineFunction → Bool
  | .lampRed => s.stc.light == .red
  | .lampAmber => s.stc.light == .amber
  | .lampGreen => s.stc.light == .green || (s.stc.light == .greenWarn && s.stc.flashOn)
  | .gateUp => s.gate.state == .movingUp
  | .gateDown => s.gate.state == .movingDown || s.gate.state == .homing
  | .windTxen => s.wln.txen
  | .alert => s.diag.capture.isSome
  | .leave | .juryStop | .cellA | .cellB | .gateIndex | .gateHome | .windCd | .boardReady | .generalIn | .generalOut
  | .none => false

/-- The level at which a line is driven, high being `true` (R12): a GENERAL_OUT line at its written level, any other output
high when active in push-pull mode and low when active in open-drain mode. An input is not driven. -/
def drivenLevel (s : State) (i : Nat) : Option Bool :=
  match s.prof.profile.lines[i]? with
  | none => none
  | some a =>
    match a.mode with
    | .input => none
    | .pushPull => some (if a.fn = .generalOut then s.fld.written.getLsbD i else outputActive s a.fn)
    | .openDrain => some (if a.fn = .generalOut then s.fld.written.getLsbD i else !(outputActive s a.fn))

/-- The sensed level of a line (R12, R14): the outside level of an input or of a released open-drain line, else the driven
level. -/
def sensed (s : State) (i : Nat) : Bool :=
  match s.prof.profile.lines[i]? with
  | none => s.fld.outside.getLsbD i
  | some a =>
    match a.mode, drivenLevel s i with
    | .pushPull, some l => l
    | .openDrain, some false => false
    | _, _ => s.fld.outside.getLsbD i

/-- The sensed level of the line of a function; `none` without a line. -/
def sensedFn (s : State) (f : LineFunction) : Option Bool := (lineOf s f).map (sensed s)

/-- GATE_HOME is active: its line is sensed low (R12). -/
def gateHomeActive (s : State) : Bool := sensedFn s .gateHome == some false

/-- The outside level of a line becomes `level`. -/
def setOutside (i : Option Nat) (level : Bool) (s : State) : State :=
  match i with
  | some n => s.onFld fun f => { f with outside := setLevel f.outside n level }
  | none => s

/-! ## Notices (R158) -/

/-- The group of a notice, 0..15: its kind is 0xC0 plus the group (10, section 10.6). -/
def NoticeBody.group : NoticeBody → Nat
  | .light .. => 0
  | .stateChange .. | .roundCancelled .. | .armDropped .. => 1
  | .attemptFaults .. => 2
  | .attemptComplete .. => 3
  | .distanceHeld .. => 4
  | .markStray .. => 5
  | .windWait .. => 6
  | .station .. => 7
  | .polarity .. => 8
  | .gateBegun .. | .gateDone .. | .gateFault .. => 9
  | .lineTest .. => 10
  | .console .. => 11
  | .boardStall .. | .boardResumed .. => 12
  | .profileStored .. => 13
  | .counterOverflow .. => 14
  | .resetDone .. => 15

/-- LINK takes a notice (R158): a masked group queues nothing; otherwise it takes a sequence number and joins the queue, or is
dropped with the overrun flag set when the queue holds 32. -/
def queueNotice (b : NoticeBody) (l : Link) : Link :=
  if l.mask.getLsbD b.group then
    if l.notices.length < 32 then
      { l with notices := l.notices ++ [{ seq := l.seq, time := l.clock, body := b }], seq := l.seq + 1 }
    else { l with seq := l.seq + 1, overrun := true }
  else l

/-- A block sends a notice. -/
def notify (b : NoticeBody) (s : State) : State := s.onLink (queueNotice b)

/-! ## Event counters and the fault capture (R162, R163) -/

/-- A counter takes an event: its new value, and whether it wrapped. -/
def Counter.step (c : Counter) (k : CounterKind) (roundOpen : Bool) : Counter × Bool :=
  if c.kind = k ∧ k ≠ .none ∧ (c.openOnly = false ∨ roundOpen = true) then
    if c.value = 4294967295 then ({ c with value := 0 }, true) else ({ c with value := c.value + 1 }, false)
  else (c, false)

/-- Both counters take an event of a kind; a wrap sends COUNTER_OVERFLOW (R162). -/
def count (k : CounterKind) (s : State) : State :=
  let isOpen := s.cst.rstate == .opened
  let r0 := s.diag.counter0.step k isOpen
  let r1 := s.diag.counter1.step k isOpen
  let s := s.onDiag fun d => { d with counter0 := r0.1, counter1 := r1.1 }
  let s := if r0.2 then notify (.counterOverflow 0 k) s else s
  if r1.2 then notify (.counterOverflow 1 k) s else s

/-- A block reports a device fault (R163): it fills an empty capture, or raises the second-fault count. -/
def reportFault (kind : FaultKind) (detail : Nat) (s : State) : State :=
  s.onDiag fun d =>
    match d.capture with
    | none => { d with capture := some { kind, detail, time := s.link.clock } }
    | some _ => { d with seconds := min 255 (d.seconds + 1) }

/-! ## CST's records (02) -/

/-- The attempt record with a number. -/
def attempt? (s : State) (n : Nat) : Option Attempt := s.cst.attempts.find? fun a => a.number == n

/-- The attempt in an on-hill phase; there is at most one (R34). -/
def onHill? (s : State) : Option Attempt := s.cst.attempts.find? fun a => a.state.onHill

/-- Changes the attempt record with a number. -/
def setAttempt (n : Nat) (f : Attempt → Attempt) (s : State) : State :=
  s.onCst fun c => { c with attempts := c.attempts.map fun a => if a.number = n then f a else a }

/-- Adds a deferred fault to an attempt's fault set; one already there stays as it is (R32). -/
def addFault (n : Nat) (f : DeferredFault) (s : State) : State :=
  setAttempt n (fun a => if f ∈ a.faults then a else { a with faults := a.faults ++ [f] }) s

/-- The competitor record of a bib (R30). -/
def competitor? (s : State) (bib : Nat) : Option Competitor := s.cst.directory.find? fun c => c.bib == bib

/-- Changes the competitor record of a bib. -/
def setCompetitor (bib : Nat) (f : Competitor → Competitor) (s : State) : State :=
  s.onCst fun c => { c with directory := c.directory.map fun r => if r.bib = bib then f r else r }

/-- Writes or clears the point total of a round in a competitor's record (R30). -/
def setTotal (bib round : Nat) (v : Option Nat) (s : State) : State :=
  setCompetitor bib (fun c => { c with totals := c.totals.set (round - 1) v }) s

/-- Sets or lifts a competitor's disqualified flag (R31). -/
def setDisqualified (bib : Nat) (v : Bool) (s : State) : State :=
  setCompetitor bib (fun c => { c with disqualified := v }) s

/-- The places held of the start list's 80: its bibs, and the reservation of an attempt on the hill (R25). -/
def placesHeld (s : State) : Nat := s.cst.startList.length + if (onHill? s).isSome then 1 else 0

/-- The round numbered by the record is the open round (R17). -/
def hasOpenRound (s : State) : Bool := s.cst.rstate == .opened || s.cst.rstate == .suspended || s.cst.rstate == .ended

/-- An attempt belongs to a confirmed round (R17). -/
def ofConfirmedRound (s : State) (a : Attempt) : Bool :=
  a.round < s.cst.round || (a.round == s.cst.round && s.cst.rstate == .confirmed)

/-- The end check (R18): an OPEN round with an empty start list and no attempt of the round on the hill or in SCORING becomes
ENDED. -/
def endCheck (s : State) : State :=
  if s.cst.rstate = .opened ∧ s.cst.startList = [] ∧
      s.cst.attempts.all (fun a => !(a.round == s.cst.round && (a.state.onHill || a.state == .scoring))) then
    s.onCst fun c => { c with rstate := .ended }
  else s

/-- An ATTEMPT notice of the STATE_CHANGE kind (R35). -/
def notifyState (n round bib : Nat) (old : Option AttemptState) (new : AttemptState) (s : State) : State :=
  notify (.stateChange n round bib old new) s

end Sys2Proof.Machine
end

