-- ==== Sys2Proof/Machine/WindArith.lean ====
section
/-! DEFINITION. The wind arithmetic (06): cosine table, tangential components, means, the wind figure and the wind points. -/

namespace Sys2Proof.Machine

/-- Rounded to nearest, halves away from zero (conventions, "Rounding"). -/
def roundNearest (n : Int) (d : Nat) : Int := n.sign * ((2 * n.natAbs + d) / (2 * d) : Nat)

/-- The entries C[0] to C[90] of the cosine table: cos δ × 10,000, rounded to nearest (R94). -/
def cosQuarter : List Nat :=
  [10000, 9998, 9994, 9986, 9976, 9962, 9945, 9925, 9903, 9877, 9848, 9816, 9781, 9744, 9703, 9659, 9613, 9563, 9511, 9455,
   9397, 9336, 9272, 9205, 9135, 9063, 8988, 8910, 8829, 8746, 8660, 8572, 8480, 8387, 8290, 8192, 8090, 7986, 7880, 7771,
   7660, 7547, 7431, 7314, 7193, 7071, 6947, 6820, 6691, 6561, 6428, 6293, 6157, 6018, 5878, 5736, 5592, 5446, 5299, 5150,
   5000, 4848, 4695, 4540, 4384, 4226, 4067, 3907, 3746, 3584, 3420, 3256, 3090, 2924, 2756, 2588, 2419, 2250, 2079, 1908,
   1736, 1564, 1392, 1219, 1045, 872, 698, 523, 349, 175, 0]

/-- The cosine table C[0] to C[359], by its two symmetries (R94). -/
def cosTable (δ : Nat) : Int :=
  let e := if δ ≤ 180 then δ else 360 - δ
  if e ≤ 90 then (cosQuarter.getD e 0 : Int) else -(cosQuarter.getD (180 - e) 0 : Int)

/-- The tangential component (R95): clamped speed, direction of the reply, axis bearing of the slot. -/
def tangential (speed direction bearing : Nat) : Int :=
  roundNearest (speed * cosTable ((direction + 360 - bearing) % 360)) 10000

/-- A cycle mean (R96): the sum divided by the number, truncated; none of no readings. -/
def truncatedMean (ts : List Int) : Option Int :=
  if ts = [] then none else some (ts.sum.tdiv ts.length)

/-- The wind figure of a sample set (R102): the sum divided by the number, rounded to nearest; none of no samples. -/
def windFigure (samples : List Int) : Option Int :=
  if samples = [] then none else some (roundNearest samples.sum samples.length)

/-- The wind points of a figure (R104). -/
def windPoints (h : HillSection) (w : Int) : Int :=
  if 0 ≤ w then -(roundNearest (h.hf * w) 100) else roundNearest (h.tf * -w) 100

/-- A reading is fresh while its age is at most the freshness window in force (R85). -/
def readingFresh (s : State) (r : Reading) : Bool := r.age ≤ s.prof.profile.hill.freshness

/-- The gating mean, while it is fresh (R97). -/
def freshGating (s : State) : Option Int :=
  match s.wln.gating.value with
  | some v => if s.wln.gating.age ≤ s.prof.profile.hill.freshness then some v else none
  | none => none

end Sys2Proof.Machine
end

