-- ==== Sys2Proof/Machine/ScoreArith.lean ====
section
/-! DEFINITION. The points arithmetic (08, sections 8.3 and 8.5), the ranking order (8.7) and the survey conversion (R113). -/

namespace Sys2Proof.Machine

/-! ## Style points (R125, R126) -/

/-- The judge numbers of the slots that are present, with their marks. -/
def presentMarks (marks : List (Option Nat)) : List (Nat × Nat) :=
  (marks.zipIdx 1).filterMap fun (m, i) => m.map fun v => (i, v)

/-- The slot dropped as lowest: among the slots of the lowest mark, the lowest-numbered judge (R125). -/
def dropLow (ms : List (Nat × Nat)) : Option Nat :=
  (ms.find? fun m => ms.all fun o => m.2 ≤ o.2).map Prod.fst

/-- The slot dropped as highest: among the slots of the highest mark, the highest-numbered judge (R125). -/
def dropHigh (ms : List (Nat × Nat)) : Option Nat :=
  (ms.reverse.find? fun m => ms.all fun o => o.2 ≤ m.2).map Prod.fst

/-- The two dropped slots (R125). -/
def isDropped (marks : List (Option Nat)) (judge : Nat) : Bool :=
  dropLow (presentMarks marks) == some judge || dropHigh (presentMarks marks) == some judge

/-- The sum in halves of the marks that remain. -/
def remainingSum (marks : List (Option Nat)) : Nat :=
  (((presentMarks marks).filter fun m => !(isDropped marks m.1)).map Prod.snd).sum

/-- The style points in tenths (R126): three marks times 5, or two marks scaled by 3/2, truncated, times 5. -/
def stylePoints (style : StyleStatus) (marks : List (Option Nat)) : Nat :=
  match style with
  | .closed4 => remainingSum marks * 3 / 2 * 5
  | .full | .opened => remainingSum marks * 5

/-! ## The other components (R129, R130, R131) -/

/-- The distance points (R129). -/
def distancePoints (h : HillSection) (d : Nat) : Nat := (h.base + h.mvh * ((d : Int) - h.kh) : Int).toNat

/-- The gate points (R130). All three gates are present when SCR computes (R130); where one is absent the part it enters is 0
(log 24). -/
def gatePoints (h : HillSection) (reference : Option Nat) (a : Attempt) (d : Nat) : Int :=
  let first := match reference, a.juryGate with
    | some r, some j => (h.gf : Int) * ((r : Int) - j)
    | _, _ => 0
  let second := match a.coach, a.juryGate, a.attemptGate with
    | some _, some j, some g => if h.ch ≤ d then (h.gf : Int) * ((j : Int) - g) else 0
    | _, _, _ => 0
  first + second

/-- The total (R131): the sum of the components, clamped to 0..99,999. -/
def clampTotal (sum : Int) : Nat := min 99999 sum.toNat

/-- The points of an attempt from its record, the hill section and the reference gate (R128, step 1). D and W are present when
SCR computes (R127); an absent one counts as 0 (log 24). -/
def computePoints (h : HillSection) (reference : Option Nat) (a : Attempt) : Points :=
  let d := a.distance.getD 0
  let pD := distancePoints h d
  let pS := stylePoints a.style a.marks
  let pG := gatePoints h reference a d
  let pW := windPoints h (a.wind.getD 0)
  { pD, pS, pG, pW, total := clampTotal ((pD : Int) + pS + pG + pW) }

/-- The three questions of the completion check (R127). -/
def settled (a : Attempt) : Bool :=
  (a.distanceStatus == .agreed || a.distanceStatus == .single || a.distanceStatus == .jury)
    && (a.style == .full || a.style == .closed4)
    && (a.windStatus == some .computed || a.windStatus == some .jury)

/-! ## The ranking (R133, R134, R135) -/

/-- A competitor's ranking total: the sum of the round totals present (R133). -/
def rankingTotal (c : Competitor) : Nat := (c.totals.filterMap id).sum

/-- The competitor belongs in the ranking list (R133). -/
def qualifies (c : Competitor) : Bool := c.disqualified || c.totals.any fun t => t.isSome

/-- `a` stands before `b` in the ranking (R134): non-disqualified first, by total descending and bib ascending; then the
disqualified, by bib ascending. -/
def ranksBefore (a b : Competitor) : Bool :=
  if a.disqualified then b.disqualified && a.bib < b.bib
  else b.disqualified || rankingTotal b < rankingTotal a || (rankingTotal a == rankingTotal b && a.bib < b.bib)

/-- The competitor record of a bib in a directory. -/
def findBib (dir : List Competitor) (bib : Nat) : Option Competitor := dir.find? fun c => c.bib == bib

/-- Inserts a competitor's bib before the first entry that it stands before. -/
def insertRanked (dir : List Competitor) (c : Competitor) : List Nat → List Nat
  | [] => [c.bib]
  | b :: r =>
    match findBib dir b with
    | some d => if ranksBefore c d then c.bib :: b :: r else b :: insertRanked dir c r
    | none => b :: insertRanked dir c r

/-- Re-ranking a competitor (R135): the entry is removed, and inserted afresh if the competitor qualifies. -/
def reRanked (dir : List Competitor) (bib : Nat) (ranking : List Nat) : List Nat :=
  let rest := ranking.filter fun b => b != bib
  match findBib dir bib with
  | some c => if qualifies c then insertRanked dir c rest else rest
  | none => rest

/-- The whole list built anew from a directory (R135, R140). -/
def rankingOf (dir : List Competitor) : List Nat :=
  dir.foldl (fun r c => if qualifies c then insertRanked dir c r else r) []

/-- The non-disqualified entries of the ranking, in its order. -/
def rankedRecords (dir : List Competitor) (ranking : List Nat) : List Competitor :=
  (ranking.filterMap (findBib dir)).filter fun c => !c.disqualified

/-- A competitor's rank (R134): 1 plus the number of non-disqualified entries with a strictly greater ranking total; none for a
disqualified one. -/
def rankOf (dir : List Competitor) (ranking : List Nat) (c : Competitor) : Option Nat :=
  if c.disqualified then none
  else some (1 + ((rankedRecords dir ranking).filter fun o => rankingTotal c < rankingTotal o).length)

/-- The start list built from the ranking (R138): the first Q non-disqualified entries and every further one tied with the
Q-th, in reverse ranking order. -/
def fromRanking (dir : List Competitor) (ranking : List Nat) (q : Nat) : List Nat :=
  let rs := rankedRecords dir ranking
  let first := rs.take q
  let ties := match first.getLast? with
    | some l => (rs.drop q).filter fun c => rankingTotal c == rankingTotal l
    | none => []
  (first ++ ties).reverse.map Competitor.bib

/-! ## Survey conversion (R113) -/

/-- The position in millimetres inside the table: the first pair of neighbouring points around `r`. -/
def surveyPosition (r : Nat) : List SurveyPoint → Option Nat
  | p :: q :: rest =>
    if p.raw ≤ r ∧ r ≤ q.raw then some (p.mm + (r - p.raw) * (q.mm - p.mm) / (q.raw - p.raw))
    else surveyPosition r (q :: rest)
  | [_] => none
  | [] => none

/-- A raw coordinate as D, and whether BEYOND_SURVEY is added (R113). A mark is never matched without a survey table (R113);
with an empty one the position is 0 (log 24). -/
def convertMark (survey : List SurveyPoint) (r : Nat) : Nat × Bool :=
  let (pos, out) := match surveyPosition r survey with
    | some p => (p, false)
    | none =>
      match survey.head?, survey.getLast? with
      | some f, some l => (if r < f.raw then f.mm else l.mm, true)
      | _, _ => (0, true)
  let d := pos / 500
  if 1000 < d then (1000, true) else (d, out)

/-- The take-off speed in tenths of km/h (R107). -/
def trapSpeed (baseline interval : Nat) : Nat := (baseline * 3600 + interval / 2) / interval

end Sys2Proof.Machine
end

