-- ==== Sys2Proof/Machine/BoardQueue.lean ====
section
/-! DEFINITION. The board queue, the texts of the items, the beginning of a frame and the stall timer (09). -/

namespace Sys2Proof.Machine

/-! ## Enqueueing (R142, R144) -/

/-- The key of a field without lines. -/
def key (f : BoardField) : Key := { field := f, line := 0 }

/-- The queue without its first BACKGROUND item. A full queue holds one (R144); were there none, the first item would go
(log 24). -/
def dropBackground (q : List BoardItem) : List BoardItem :=
  match q.findIdx? fun i => i.key.field.cls == .background with
  | some n => q.eraseIdx n
  | none => q.drop 1

/-- An enqueue of a key (R144): the queue after it, and whether an item was dropped. -/
def enqueued (k : Key) (blank : Bool) (q : List BoardItem) : List BoardItem × Bool :=
  if q.any fun i => i.key == k then (q.map fun i => if i.key = k then { i with blank := blank } else i, false)
  else if q.length < 32 then (q ++ [{ key := k, blank := blank }], false)
  else (dropBackground q ++ [{ key := k, blank := blank }], true)

/-- An enqueue with its blank flag; a dropped item counts BOARD_DROP (R144). -/
def enqueueWith (k : Key) (blank : Bool) (s : State) : State :=
  let r := enqueued k blank s.brd.queue
  let s := s.onBrd fun b => { b with queue := r.1 }
  if r.2 then count .boardDrop s else s

/-- An ordinary enqueue. -/
def enqueue (k : Key) (s : State) : State := enqueueWith k false s

/-- An enqueue that names a subject (R142). -/
def enqueueSubject (f : BoardField) (n : Nat) (s : State) : State :=
  enqueue (key f) (s.onBrd fun b => { b with subjects :=
    match f with
    | .jumper => { b.subjects with jumper := some n }
    | .speed => { b.subjects with speed := some n }
    | .distance => { b.subjects with distance := some n }
    | .marks => { b.subjects with marks := some n }
    | .points => { b.subjects with points := some n }
    | .rank => { b.subjects with rank := some n }
    | .light | .countdown | .gate | .wind | .message | .top => b.subjects })

/-- Enqueues several keys in order. -/
def enqueueAll (ks : List Key) (blank : Bool) (s : State) : State := ks.foldl (fun s k => enqueueWith k blank s) s

/-- The ten single fields in the order of R149. -/
def singleKeys : List Key :=
  [key .light, key .countdown, key .jumper, key .gate, key .wind, key .speed, key .distance, key .marks, key .points,
   key .rank]

/-- The keys of the message lines that hold text, in ascending order. -/
def messageKeys (messages : List Text) : List Key :=
  (messages.zipIdx 1).filterMap fun (t, n) => if t = [] then none else some { field := .message, line := n }

/-- The TOP keys from line 10 down to 1. -/
def topKeys : List Key := [10, 9, 8, 7, 6, 5, 4, 3, 2, 1].map fun n => { field := .top, line := n }

/-- Every key of a refresh, in the order of R149. -/
def refreshKeys (messages : List Text) : List Key := singleKeys ++ messageKeys messages ++ topKeys

/-! ## Texts (R143) -/

/-- The decimal digits of a number below 10 to the power of the fuel, without leading zeros. -/
def digits : Nat → Nat → Text
  | 0, n => [byte (0x30 + n % 10)]
  | fuel + 1, n => if n < 10 then [byte (0x30 + n)] else digits fuel (n / 10) ++ [byte (0x30 + n % 10)]

/-- A number in decimal. -/
def decimal (n : Nat) : Text := digits 12 n

/-- Tenths with one decimal place. -/
def tenths (n : Nat) : Text := decimal (n / 10) ++ ascii ['.'] ++ [byte (0x30 + n % 10)]

/-- Signed tenths, with a sign for 0 and above too. -/
def signedTenths (i : Int) : Text := ascii [if i < 0 then '-' else '+'] ++ tenths i.natAbs

/-- A wind in m/s with two decimals and a sign. -/
def windText (i : Int) : Text :=
  ascii [if i < 0 then '-' else '+'] ++ decimal (i.natAbs / 100) ++ ascii ['.']
    ++ [byte (0x30 + i.natAbs / 10 % 10), byte (0x30 + i.natAbs % 10)]

/-- A gate, or "--". -/
def gateText : Option Nat → Text
  | some g => decimal g
  | none => ascii ['-', '-']

/-- Texts with a space between. -/
def spaced : List Text → Text
  | [] => []
  | [t] => t
  | t :: r => t ++ ascii [' '] ++ spaced r

/-- The light state's name. -/
def lightName : Light → Text
  | .dark => ascii ['D', 'A', 'R', 'K']
  | .red => ascii ['R', 'E', 'D']
  | .amber => ascii ['A', 'M', 'B', 'E', 'R']
  | .green => ascii ['G', 'R', 'E', 'E', 'N']
  | .greenWarn => ascii ['G', 'R', 'E', 'E', 'N', '_', 'W', 'A', 'R', 'N']

/-- The gate that the GATE item shows: the attempt gate of the attempt on the hill when it has one, else the current gate. -/
def shownGate (s : State) : Option Nat :=
  match (onHill? s).bind Attempt.attemptGate with
  | some g => some g
  | none => s.gate.current

/-- The text of the MARKS item: the slots as points, the two dropped ones starred once the style is FULL or CLOSED4. -/
def marksText (a : Attempt) : Text :=
  spaced ((a.marks.zipIdx 1).map fun (m, i) =>
    match m with
    | some v => tenths (v * 5) ++ if a.style ≠ .opened ∧ isDropped a.marks i then ascii ['*'] else []
    | none => ascii ['-', '-'])

/-- A rank, or "DSQ". -/
def rankText (dir : List Competitor) (ranking : List Nat) (c : Competitor) : Text :=
  match rankOf dir ranking c with
  | some r => decimal r
  | none => ascii ['D', 'S', 'Q']

/-- The text of an item's key from the owners' state (R143), before it is cut to 32 characters. -/
def keyText (s : State) (k : Key) : Text :=
  let dir := s.cst.directory
  let sub := s.brd.subjects
  match k.field with
  | .light => lightName s.stc.light
  | .countdown => (s.stc.countdown.map decimal).getD []
  | .jumper =>
    (do let a ← attempt? s (← sub.jumper)
        let c ← findBib dir a.bib
        some (spaced [decimal c.bib, c.name, c.nation])).getD []
  | .gate => gateText (shownGate s) ++ ascii [' ', '/', ' '] ++ gateText s.gate.reference
  | .wind =>
    match freshGating s with
    | some v => windText v ++ if s.wln.gating.iced then ascii [' ', 'I', 'C', 'E'] else []
    | none => ascii ['-', '-', '-', '-']
  | .speed => (do let a ← attempt? s (← sub.speed); some (tenths (← a.speed))).getD []
  | .distance => (do let a ← attempt? s (← sub.distance); some (tenths ((← a.distance) * 5))).getD []
  | .marks => (do let a ← attempt? s (← sub.marks); some (marksText a)).getD []
  | .points =>
    (do let a ← attempt? s (← sub.points)
        let p ← a.points
        some (spaced [tenths p.pD, tenths p.pS, signedTenths p.pG, signedTenths p.pW, tenths p.total])).getD []
  | .rank =>
    (do let b ← sub.rank
        let c ← findBib dir b
        if b ∈ s.scr.ranking then some (spaced [rankText dir s.scr.ranking c, tenths (rankingTotal c)]) else none).getD []
  | .message => s.brd.messages.getD (k.line - 1) []
  | .top =>
    (do let b ← s.scr.ranking[k.line - 1]?
        let c ← findBib dir b
        some (spaced [rankText dir s.scr.ranking c, decimal c.bib, c.name, tenths (rankingTotal c)])).getD []

/-- The text of an item as it is taken for sending: empty for a blank item, cut to 32 characters (R143). -/
def itemText (s : State) (i : BoardItem) : Text := if i.blank then [] else (keyText s i.key).take 32

/-! ## Sending (R145, R146, R147) -/

/-- The queue in send order: the URGENT items, then the NORMAL ones, then the BACKGROUND ones, each in enqueue order (R145). -/
def sendOrder (q : List BoardItem) : List BoardItem :=
  (q.filter fun i => i.key.field.cls == .urgent) ++ (q.filter fun i => i.key.field.cls == .normal)
    ++ q.filter fun i => i.key.field.cls == .background

/-- A frame begins when the sender is IDLE, the pacing timer is stopped, the queue is not empty and the board is ready: the
first item in send order leaves the queue and is formatted (R145). -/
def beginFrame (s : State) : State :=
  if s.brd.sender = none ∧ s.brd.pacing = none ∧ s.brd.ready = true then
    match sendOrder s.brd.queue with
    | i :: _ =>
      let text := itemText s i
      s.onBrd fun b => { b with queue := b.queue.erase i, sender := some { key := i.key, text } }
    | [] => s
  else s

/-- The stall timer runs while the board is not ready and the queue is not empty (R147): it starts with 10,000 ms when both come
to hold, and stops when either ends. After its expiry, in STALLED, it does not start again. A RESTART that fills an
empty queue while the board is not ready starts it like any enqueue (log 45). -/
def stallRule (s : State) : State :=
  if s.brd.ready = false ∧ s.brd.queue ≠ [] ∧ hasLine s .boardReady then
    if s.brd.stallTimer = none ∧ s.brd.stalled = false then s.onBrd fun b => { b with stallTimer := some 10000 } else s
  else s.onBrd fun b => { b with stallTimer := none }

/-- The ready level changes (R146): becoming active ends a stall with a BOARD notice of kind RESUMED (R147). -/
def setReady (level : Bool) (s : State) : State :=
  let s := s.onBrd fun b => { b with ready := level }
  if level = true ∧ s.brd.stalled = true then
    notify (.boardResumed s.brd.queue.length) (s.onBrd fun b => { b with stalled := false })
  else s

end Sys2Proof.Machine
end

