-- ==== Sys2Proof/Machine/Flags.lean ====
section
/-! DEFINITION. The status byte of a reply (R156; 10, section 10.13). -/

namespace Sys2Proof.Machine

/-- The code of the round and the light together, bits 0..2 of the status byte. -/
def roundLight (r : RoundState) (l : Light) : BitVec 8 :=
  match r with
  | .none => 0
  | .opened =>
    match l with
    | .amber => 2
    | .green => 3
    | .greenWarn => 4
    | .red | .dark => 1
  | .suspended => 5
  | .ended => 6
  | .confirmed => 7

/-- A flag at a bit of the status byte. -/
def flagBit (b : Bool) (n : Nat) : BitVec 8 := if b then 1#8 <<< n else 0

/-- The status byte as it stands (R156). -/
def statusByte (s : State) : BitVec 8 :=
  roundLight s.cst.rstate s.stc.light ||| flagBit s.prof.valid 3 ||| flagBit s.diag.capture.isSome 4
    ||| flagBit s.link.overrun 5 ||| flagBit s.link.discard 6 ||| flagBit s.link.clockSet 7

end Sys2Proof.Machine
end

