-- ==== Sys2Proof/Machine/Service.lean ====
section
/-! DEFINITION. What every command ends with (frames that may begin), and how a request is served and answered (R145, R155,
R156, R157). -/

namespace Sys2Proof.Machine

/-- The transmitter chooses when it is IDLE (R157): the reply waiting, with the status byte as it stands, whose overrun and
discard flags are then cleared (R156); else the oldest notice, which leaves the queue, or the break before it. -/
def startTx (s : State) : State :=
  match s.link.tx with
  | .idle =>
    match s.link.replyWaiting with
    | some r =>
      let status := statusByte s
      s.onLink fun l => { l with tx := .reply r status, replyWaiting := none, overrun := false, discard := false }
    | none =>
      match s.link.notices with
      | n :: rest =>
        if s.link.brk then s.onLink fun l => { l with tx := .brk }
        else s.onLink fun l => { l with tx := .notice n, notices := rest }
      | [] => s
  | .brk | .reply _ _ | .notice _ => s

/-- What follows every command's effect: a board frame begins, the stall timer follows its rule, the transmitter chooses
(log 9). -/
def settle (s : State) : State := startTx (stallRule (beginFrame s))

/-- A command: what the transmitter had to begin before it, its effect, and what follows (log 9). -/
def command (f : State → State) (s : State) : Host.Outcome State Fault Refusal := .next (settle (f (startTx s)))

/-- What a block hands back to LINK for a request: the state after its effects, the reply code and the reply data (R155). -/
structure Served where
  st : State
  code : ReplyCode
  data : ReplyData

/-- A request refused with a code: no state changes and no data go back (R156). -/
def refuse (code : ReplyCode) (s : State) : Served := { st := s, code, data := .none }

/-- A request answered DONE without data. -/
def done (s : State) : Served := { st := s, code := .done, data := .none }

/-- A request answered ACCEPTED. -/
def accepted (s : State) : Served := { st := s, code := .accepted, data := .none }

/-- A request answered DONE with data. -/
def doneWith (data : ReplyData) (s : State) : Served := { st := s, code := .done, data }

/-- The kind byte of a reply (R156): the request's kind plus 0x80, or 0xFF for a kind 0x80..0xFF. -/
def replyKind (kind : Byte) : Byte := if kind.toNat < 0x80 then kind + 0x80#8 else 0xFF#8

/-- LINK takes a request in hand, its block serves it, and the reply becomes the reply waiting (R155). -/
def takeInHand (kind tag : Byte) (serve : State → Served) (s : State) : State :=
  let r := serve (s.onLink fun l => { l with inHand := some { kind, tag, change := none } })
  r.st.onLink fun l => { l with replyWaiting := some { kind := replyKind kind, tag, code := r.code, data := r.data } }

/-- A received frame joins the input buffer when the buffer holds fewer than 4 frames; otherwise it is discarded and the discard
flag is set (R155). -/
def joinBuffer (body : List Byte) (s : State) : State :=
  s.onLink fun l => if l.buffer.length < 4 then { l with buffer := l.buffer ++ [body] } else { l with discard := true }

/-- The effect of a request: it is taken and served when no request is in hand, and its frame waits in the input buffer while
one is (R155, log 4). -/
def requestEffect (kind tag : Byte) (body : List Byte) (serve : State → Served) (s : State) : State :=
  match s.link.inHand with
  | none => takeInHand kind tag serve s
  | some _ => joinBuffer body s

/-- A request command. -/
def request (i : Instr) (serve : State → Served) (s : State) : Host.Outcome State Fault Refusal :=
  match requestFrame i with
  | some (kind, tag, ps) => command (requestEffect kind tag (kind :: tag :: ps) serve) s
  | none => command id s

end Sys2Proof.Machine
end

