-- ==== Sys2Proof/Machine/Lights.lean ====
section
/-! DEFINITION. STC's light state, the start window's stop, an arm taking effect and the held arm (03), with the timer events
of the light. -/

namespace Sys2Proof.Machine

/-! ## The light state (R40, R41) -/

/-- The light state that R40 gives for the round state and the attempt on the hill. A warning period of 0 gives no GREEN_WARN
(R50). -/
def lightFor (s : State) : Light :=
  match s.cst.rstate with
  | .none | .confirmed => .dark
  | .opened | .suspended | .ended =>
    match onHill? s with
    | none => .red
    | some a =>
      match a.state with
      | .waiting => .amber
      | .cleared =>
        match s.stc.window with
        | some r => if r ≤ s.prof.profile.hill.warning ∧ 0 < s.prof.profile.hill.warning then .greenWarn else .green
        | none => .green
      | .inRun | .flight | .scoring | .complete | .lapsed | .voided | .cancelled => .red

/-- STC's record with a light state: entry to GREEN_WARN starts the flash with phase on, any other light stops it (R41). -/
def lit (l : Light) (c : Stc) : Stc :=
  { c with light := l, flashOn := l == .greenWarn, flashTimer := if l = .greenWarn then some 250 else none }

/-- A light state is set (R40): a change sends a LIGHT notice and enqueues the LIGHT key; no change does nothing. -/
def setLight (l : Light) (s : State) : State :=
  if l = s.stc.light then s
  else enqueue (key .light) (notify (.light s.stc.light l ((onHill? s).map Attempt.number)) (s.onStc (lit l)))

/-- STC sets the light that R40 gives now. -/
def updateLight (s : State) : State := setLight (lightFor s) s

/-! ## The start window's stop (R50) -/

/-- The start window timer stops without an expiry: if it was running, the countdown seconds become absent and COUNTDOWN is
enqueued. -/
def stopWindow (s : State) : State :=
  if s.stc.window.isSome then enqueue (key .countdown) (s.onStc fun c => { c with window := none, countdown := none }) else s

/-- Clear pending and wind-wait sent become clear. -/
def dropClear (s : State) : State := s.onStc fun c => { c with clearPending := false, windWaitSent := false }

/-! ## Arming (R32, R43, R44, R45) -/

/-- A new attempt record (R32). -/
def newAttempt (n round bib : Nat) (coach : Option Nat) : Attempt where
  number := n
  round := round
  bib := bib
  state := .waiting
  coach := coach
  juryGate := none
  attemptGate := none
  greenTime := none
  leaveTime := none
  takeoffTime := none
  endCause := none
  speed := none
  samples := []
  windStatus := none
  wind := none
  markA := none
  markB := none
  distance := none
  distanceStatus := .none
  marks := List.replicate 5 none
  style := .opened
  points := none
  faults := []
  earlyLeave := false
  manualLeave := false
  juryStopped := false

/-- The steps of the coach-pending record, if it holds the bib. -/
def coachSteps (s : State) (bib : Nat) : Option Nat :=
  match s.stc.coach with
  | some (b, k) => if b = bib then some k else none
  | none => none

/-- An arm takes effect for the head of the start list (R43). -/
def armEffect (s : State) : State :=
  match s.cst.startList with
  | [] => s
  | bib :: rest =>
    let n := s.cst.attempts.length + 1
    let coach := coachSteps s bib
    let s := s.onCst fun c =>
      { c with startList := rest, attempts := c.attempts ++ [newAttempt n c.round bib coach] }
    let s := s.onStc fun c => { c with coach := if coach.isSome then none else c.coach }
    let s := updateLight (dropClear s)
    let s := notifyState n s.cst.round bib none .waiting s
    enqueueSubject .jumper n s

/-- A held arm is discarded with an ARM_DROPPED notice (R44); an empty slot changes nothing. -/
def dropHeldArm (cause : DropCause) (s : State) : State :=
  if s.stc.heldArm then notify (.armDropped cause) (s.onStc fun c => { c with heldArm := false }) else s

/-- A held arm when the positioner has reached IDLE and no return move has started (R45). -/
def takeHeldArm (s : State) : State :=
  if s.stc.heldArm then
    if s.cst.rstate ≠ .opened then dropHeldArm .roundState s
    else if s.cst.startList = [] then dropHeldArm .listEmpty s
    else armEffect (s.onStc fun c => { c with heldArm := false })
  else s

/-! ## Timer events of the light (R41, R50) -/

/-- The flash timer expires (R41): the flash phase changes and the timer restarts. A stopped timer does not expire. -/
def flashExpired (s : State) : State :=
  if s.stc.flashTimer.isSome then s.onStc fun c => { c with flashOn := !c.flashOn, flashTimer := some 250 } else s

/-- FLASH_TIMER_EXPIRY (R41). -/
def execFlashTimerExpiry (s : State) : Host.Outcome State Fault Refusal := command flashExpired s

/-- The remaining time falls to the warning period (R50): the light goes from GREEN to GREEN_WARN. -/
def warningReached (s : State) : State :=
  match s.stc.window with
  | some r =>
    if 0 < s.prof.profile.hill.warning then
      updateLight (s.onStc fun c => { c with window := some (min r s.prof.profile.hill.warning) })
    else s
  | none => s

/-- WARNING_PERIOD_REACHED (R50). -/
def execWarningPeriodReached (s : State) : Host.Outcome State Fault Refusal := command warningReached s

/-- The remaining whole seconds change (R50): the countdown seconds take the new number, and COUNTDOWN is enqueued. The change
from 1 to 0 is the expiry itself. -/
def countdownChanged (s : State) : State :=
  match s.stc.window, s.stc.countdown with
  | some r, some n =>
    if 1 < n then
      enqueue (key .countdown)
        (s.onStc fun c => { c with window := some (min r ((n - 1) * 1000)), countdown := some (n - 1) })
    else s
  | _, _ => s

/-- COUNTDOWN_SECOND_CHANGE (R50). -/
def execCountdownSecondChange (s : State) : Host.Outcome State Fault Refusal := command countdownChanged s

end Sys2Proof.Machine
end

