-- ==== Sys2Proof/Machine/Operands.lean ====
section
/-! DEFINITION. The checks of request operands that the entries' tables call RANGE. -/

namespace Sys2Proof.Machine

/-- A printable character, 0x20..0x7E. -/
def printable (b : Byte) : Bool := 0x20 ≤ b.toNat && b.toNat ≤ 0x7E

/-- `n` lies in `lo..hi`. -/
def within (lo hi n : Nat) : Bool := lo ≤ n && n ≤ hi

/-- A bib of the start list (R25). -/
def bibOk (b : Nat) : Bool := within 1 999 b

/-- An attempt number (R32). -/
def attemptOk (n : Nat) : Bool := within 1 400 n

/-- Three capital letters (R26). -/
def nationOk (t : Text) : Bool := t.length == 3 && t.all fun b => 0x41 ≤ b.toNat && b.toNat ≤ 0x5A

/-- The fields of an entry of ADD ENTRIES (R26, order 3). -/
def entryOk (e : Entry) : Bool := bibOk e.bib && e.name.length ≤ 20 && e.name.all printable && nationOk e.nation

/-- Every field of a hill section lies in its range (01, section 1.1), the fields taken together (R4). -/
def hillOk (h : HillSection) : Bool :=
  h.name.length ≤ 24 && h.name.all printable && within 40 500 h.kh && within h.kh 520 h.hs && within 0 2000 h.base
    && within 1 20 h.mvh && within 1 40 h.gates && within 0 200 h.gf && within h.kh h.hs h.ch && within 0 500 h.hf
    && within 0 500 h.tf && decide (-1500 ≤ h.lo) && decide (h.lo ≤ h.hi) && decide (h.hi ≤ 1500)
    && within 3000 60000 h.startWindow && within 0 10000 h.warning && decide (h.warning < h.startWindow)
    && within 5000 60000 h.markLimit && within 1000 30000 h.secondMarkWait && within 0 10 h.tolerance
    && within 0 1 h.consoleB && within 500 5000 h.settle && within 1000 20000 h.gateStep && within 5 50 h.leaveDebounce
    && within 1000 20000 h.baseline && within 100 2000 h.cycleMin && within 200 5000 h.freshness
    && within 5 100 h.replyTimeout && within 2 20 h.turnaround && within 500 1200 h.cableFactor && within 0 1 h.autoSwap
    && within 20 500 h.pacing

/-- An optional gate is not above the gate count (R4). -/
def notAbove (g : Nat) : Option Nat → Bool
  | some n => n ≤ g
  | none => true

/-- The fields of a present station slot, taken by itself (R5). -/
def slotOk (x : StationSlot) : Bool := within 1 31 x.address && within 0 359 x.bearing && (x.gating || x.scoring)

/-- Raw coordinates strictly ascending and distances non-decreasing (R6). -/
def pointsAscend : List SurveyPoint → Bool
  | p :: q :: r => decide (p.raw < q.raw) && decide (p.mm ≤ q.mm) && pointsAscend (q :: r)
  | [_] => true
  | [] => true

/-- A survey table (R6): 2..32 points, each in range, in order. -/
def surveyOk (ps : List SurveyPoint) : Bool :=
  within 2 32 ps.length && (ps.all fun p => within 0 65535 p.raw && within 0 600000 p.mm) && pointsAscend ps

/-- The line functions by their codes 0..17 (10, section 10.13). -/
def functionTable : List LineFunction :=
  [.lampRed, .lampAmber, .lampGreen, .leave, .juryStop, .cellA, .cellB, .gateUp, .gateDown, .gateIndex, .gateHome,
   .windTxen, .windCd, .boardReady, .alert, .generalIn, .generalOut, .none]

/-- The line modes by their codes 0..2 (10, section 10.13). -/
def modeTable : List LineMode := [.input, .pushPull, .openDrain]

/-- The assignments that codes spell; `none` where a code is outside its values. -/
def assignmentsOf (codes : List (Nat × Nat)) : Option (List Assignment) :=
  codes.mapM fun c => do some { fn := ← functionTable[c.1]?, mode := ← modeTable[c.2]? }

/-- An output function or GENERAL_OUT, which needs push-pull or open-drain (R7, R12). -/
def needsOutput : LineFunction → Bool
  | .lampRed | .lampAmber | .lampGreen | .gateUp | .gateDown | .windTxen | .alert | .generalOut => true
  | .leave | .juryStop | .cellA | .cellB | .gateIndex | .gateHome | .windCd | .boardReady | .generalIn | .none => false

/-- A function that may be assigned to more than one line (R7). -/
def repeatable : LineFunction → Bool
  | .generalIn | .generalOut | .none => true
  | .lampRed | .lampAmber | .lampGreen | .leave | .juryStop | .cellA | .cellB | .gateUp | .gateDown | .gateIndex
  | .gateHome | .windTxen | .windCd | .boardReady | .alert => false

/-- The checks of R7 on sixteen assignments taken together. -/
def assignmentsOk (l : List Assignment) : Bool :=
  (l.all fun a => if needsOutput a.fn then a.mode != .input else a.mode == .input)
    && l.all fun a => repeatable a.fn || (l.filter fun b => b.fn == a.fn).length == 1

/-- The cross-checks that make a profile storable and VALID (R1, R8). -/
def crossChecks (p : Profile) : Bool :=
  (p.slots.any fun x => x.isSome) && p.survey.isSome && decide (p.hill.kh ≤ p.hill.hs) && within p.hill.kh p.hill.hs p.hill.ch

/-- Every field of a profile lies in its range, each section by the checks of its SET request (R4 to R7, R10). -/
def rangesOk (p : Profile) : Bool :=
  hillOk p.hill && p.slots.length == 8 && (p.slots.all fun x => (x.map slotOk).getD true)
    && ((p.slots.filterMap fun x => x.map StationSlot.address).Nodup : Bool)
    && ((p.survey.map surveyOk).getD true) && p.lines.length == 16 && assignmentsOk p.lines

end Sys2Proof.Machine
end

