-- ==== Sys2Proof/Machine/Gate.lean ====
section
/-! DEFINITION. The gate positioner (04): moves, faults, returns, homing, and the requests MOVE GATE, HOME GATE and COACH
REDUCTION. -/

namespace Sys2Proof.Machine

/-! ## Moves (R62, R65, R69) -/

/-- The state and direction that travel from one gate toward another takes. -/
def travel (current target : Nat) : GateState × Direction :=
  if current < target then (.movingUp, .up) else (.movingDown, .down)

/-- A move by the drive starts (R62): target, kind, correction made no, travel toward the target, step timer, GATE_BEGUN. -/
def startMove (kind : MoveKind) (current target : Nat) (s : State) : State :=
  let t := travel current target
  notify (.gateBegun kind (some current) (some target) s.gate.jury)
    (s.onGate fun g =>
      { g with state := t.1, target := some target, kind := some kind, lastDir := some t.2, corrected := false,
               stepTimer := some s.prof.profile.hill.gateStep })

/-- A change of the current gate in MANUAL (R68): GATE_DONE of the kind and the GATE key. -/
def manualMove (kind : MoveKind) (target : Nat) (s : State) : State :=
  let s := s.onGate fun g => { g with current := some target }
  enqueue (key .gate) (notify (.gateDone kind s.gate.current s.gate.jury) s)

/-- A return move is judged in IDLE (R69): nothing at the jury gate, a move of kind RETURN otherwise. -/
def returnInIdle (s : State) : State :=
  match s.gate.current, s.gate.jury with
  | some c, some j => if c = j then s else startMove .ret c j s
  | _, _ => s

/-- STC asks for a return move to the jury gate (R69). The request is discarded in HOMING too, for which its table has no
row (log 46). -/
def requestReturn (s : State) : State :=
  match s.gate.state with
  | .idle => returnInIdle s
  | .manual =>
    match s.gate.current, s.gate.jury with
    | some c, some j => if c = j then s else manualMove .ret j s
    | _, _ => s
  | .movingUp | .movingDown | .settling => s.onGate fun g => { g with returnWaiting := true }
  | .unknown | .fault | .homing => s

/-- The coach-pending record's bib is no longer the head: the record becomes none and a return move is asked for (R25, R57). -/
def afterHeadChange (s : State) : State :=
  match s.stc.coach with
  | some (b, _) =>
    if s.cst.startList.head? = some b then s else requestReturn (s.onStc fun c => { c with coach := none })
  | none => s

/-- Entry to FAULT (R65, R67). -/
def enterFault (kind : FaultKind) (last : Option Nat) (s : State) : State :=
  let s := s.onGate fun g =>
    { g with state := .fault, current := none, target := none, kind := none, returnWaiting := false, stepTimer := none,
             settleTimer := none, homeTimer := none }
  let s := reportFault kind (last.getD 0) s
  let s := enqueue (key .gate) (notify (.gateFault kind last) s)
  (dropHeldArm .gateFault s).onStc fun c => { c with coach := none }

/-! ## Index pulses and timers (R63 to R67) -/

/-- The gate one step in a direction. -/
def stepped (d : Direction) (g : Nat) : Nat :=
  match d with
  | .up => g + 1
  | .down => g - 1

/-- An index pulse in MOVING_UP or MOVING_DOWN (R63). -/
def pulseMoving (d : Direction) (s : State) : State :=
  match s.gate.current with
  | some c =>
    if some (stepped d c) = s.gate.target then
      s.onGate fun g => { g with current := some (stepped d c), state := .settling, stepTimer := none,
                                 settleTimer := some s.prof.profile.hill.settle }
    else s.onGate fun g => { g with current := some (stepped d c), stepTimer := some s.prof.profile.hill.gateStep }
  | none => s

/-- An index pulse in SETTLING, an overrun (R64). -/
def pulseSettling (s : State) : State :=
  let s := count .gateStray s
  match s.gate.current, s.gate.lastDir with
  | some c, some d =>
    if within 1 s.prof.profile.hill.gates (stepped d c) then
      s.onGate fun g => { g with current := some (stepped d c), settleTimer := some s.prof.profile.hill.settle }
    else enterFault .gateDrive (some c) s
  | _, _ => s

/-- GATE takes an index pulse (R63). Without a GATE_INDEX line there is none. -/
def indexPulse (s : State) : State :=
  if hasLine s .gateIndex then
    let s := setOutside (lineOf s .gateIndex) false s
    match s.gate.state with
    | .movingUp => pulseMoving .up s
    | .movingDown => pulseMoving .down s
    | .settling => pulseSettling s
    | .homing => s
    | .idle | .unknown | .fault | .manual => count .gateStray s
  else s

/-- INDEX_PULSE (R63). -/
def execIndexPulse (s : State) : Host.Outcome State Fault Refusal := command indexPulse s

/-- The settle timer's expiry at the target (R64): IDLE, GATE_DONE, the GATE key; then a return waiting (R69), else a held arm
(R45). -/
def arrive (s : State) : State :=
  let kind := s.gate.kind.getD .move
  let waiting := s.gate.returnWaiting
  let s := s.onGate fun g => { g with state := .idle, target := none, kind := none, returnWaiting := false }
  let s := enqueue (key .gate) (notify (.gateDone kind s.gate.current s.gate.jury) s)
  let s := if waiting then returnInIdle s else s
  if s.gate.state = .idle then takeHeldArm s else s

/-- The settle timer expires (R64). -/
def settleExpired (s : State) : State :=
  if s.gate.settleTimer.isSome ∧ s.gate.state = .settling then
    let s := s.onGate fun g => { g with settleTimer := none }
    if s.gate.current = s.gate.target then arrive s
    else if s.gate.corrected then enterFault .gateDrive s.gate.current s
    else
      match s.gate.current, s.gate.target with
      | some c, some t =>
        s.onGate fun g => { g with state := (travel c t).1, lastDir := some (travel c t).2, corrected := true,
                                   stepTimer := some s.prof.profile.hill.gateStep }
      | _, _ => s
  else s

/-- SETTLE_EXPIRY (R64). -/
def execSettleExpiry (s : State) : Host.Outcome State Fault Refusal := command settleExpired s

/-- The step timer expires while the drive runs (R65). -/
def stepTimedOut (s : State) : State :=
  if s.gate.stepTimer.isSome ∧ (s.gate.state = .movingUp ∨ s.gate.state = .movingDown) then
    enterFault .gateDrive s.gate.current s
  else s

/-- STEP_TIMEOUT (R65). -/
def execStepTimeout (s : State) : Host.Outcome State Fault Refusal := command stepTimedOut s

/-- The home timer expires in HOMING (R67). -/
def homeTimedOut (s : State) : State :=
  if s.gate.homeTimer.isSome ∧ s.gate.state = .homing then enterFault .gateHomeLost none s else s

/-- HOME_TIMEOUT (R67). -/
def execHomeTimeout (s : State) : Host.Outcome State Fault Refusal := command homeTimedOut s

/-- GATE_HOME takes a level; becoming active in HOMING it stops the drive, sets gate 1 and starts settling (R67). Without a
GATE_HOME line there is no such event. -/
def gateHome (active : Bool) (s : State) : State :=
  if hasLine s .gateHome then
    let s := setOutside (lineOf s .gateHome) (!active) s
    if active = true ∧ s.gate.state = .homing then
      s.onGate fun g =>
        { g with state := .settling, current := some 1, jury := some (g.jury.getD 1), homeTimer := none,
                 settleTimer := some s.prof.profile.hill.settle }
    else s
  else s

/-- GATE_HOME_ACTIVE (R67). -/
def execGateHomeActive (active : Bool) (s : State) : Host.Outcome State Fault Refusal := command (gateHome active) s

/-! ## Requests (R56, R62, R66) -/

/-- MOVE GATE (R62, R68). -/
def serveMoveGate (target : Nat) (s : State) : Served :=
  if !(within 1 s.prof.profile.hill.gates target) then refuse .range s
  else if (onHill? s).isSome then refuse .state s
  else if s.stc.coach.isSome then refuse .state s
  else if s.gate.state.motion then refuse .busy s
  else if s.gate.state = .unknown ∨ s.gate.state = .fault then refuse .state s
  else
    let moved := s.gate.current ≠ some target
    let manual := s.gate.state = .manual
    let s := s.onGate fun g => { g with jury := some target }
    if moved then
      if manual then done (manualMove .move target s)
      else accepted (startMove .move (s.gate.current.getD target) target s)
    else done s

/-- MOVE_GATE (R62). -/
def execMoveGate (tag : Byte) (target : Nat) (s : State) : Host.Outcome State Fault Refusal :=
  request (.moveGate tag target) (serveMoveGate target) s

/-- HOME GATE (R66). -/
def serveHomeGate (s : State) : Served :=
  if s.gate.state = .manual ∨ hasLine s .gateHome = false then refuse .state s
  else if s.gate.state.motion then refuse .busy s
  else if (onHill? s).isSome then refuse .state s
  else if s.stc.coach.isSome then refuse .state s
  else if gateHomeActive s then
    let s := s.onGate fun g => { g with state := .idle, current := some 1, jury := some (g.jury.getD 1) }
    done (enqueue (key .gate) (notify (.gateDone .home s.gate.current s.gate.jury) s))
  else
    let s := s.onGate fun g =>
      { g with state := .homing, current := none, target := some 1, kind := some .home, lastDir := some .down,
               homeTimer := some (s.prof.profile.hill.gates * s.prof.profile.hill.gateStep) }
    accepted (notify (.gateBegun .home none s.gate.target s.gate.jury) s)

/-- HOME_GATE (R66). -/
def execHomeGate (tag : Byte) (s : State) : Host.Outcome State Fault Refusal := request (.homeGate tag) serveHomeGate s

/-- COACH REDUCTION (R56). -/
def serveCoachReduction (bib k : Nat) (s : State) : Served :=
  if !(bibOk bib) || !(within 1 5 k) then refuse .range s
  else if s.cst.rstate ≠ .opened then refuse .state s
  else if (onHill? s).isSome then refuse .state s
  else if s.stc.coach.isSome then refuse .state s
  else if s.cst.startList.head? ≠ some bib then refuse .state s
  else if s.gate.state.motion then refuse .busy s
  else
    match s.gate.jury with
    | none => refuse .state s
    | some j =>
      if s.gate.state = .unknown ∨ s.gate.state = .fault then refuse .state s
      else if j ≤ k then refuse .range s
      else
        let moved := s.gate.current ≠ some (j - k)
        let s := s.onStc fun c => { c with coach := some (bib, k) }
        if moved then
          if s.gate.state = .manual then done (manualMove .coach (j - k) s)
          else accepted (startMove .coach (s.gate.current.getD (j - k)) (j - k) s)
        else done s

/-- COACH_REDUCTION (R56). -/
def execCoachReduction (tag : Byte) (bib k : Nat) (s : State) : Host.Outcome State Fault Refusal :=
  request (.coachReduction tag bib k) (serveCoachReduction bib k) s

end Sys2Proof.Machine
end

