-- ==== Sys2Proof/Machine/Scoring.lean ====
section
/-! DEFINITION. Judges' marks, completion, recomputation and the ranking list (08), the jury's distance (R119) and wind figure
(R103), and READ ATTEMPT (R36). -/

namespace Sys2Proof.Machine

/-! ## The ranking list and its board lines (R135, R136) -/

/-- What position `p` of the ranking shows: bib, rank and ranking total (R136). -/
def positionShown (s : State) (p : Nat) : Option (Nat × Option Nat × Nat) := do
  let b ← s.scr.ranking[p - 1]?
  let c ← findBib s.cst.directory b
  some (b, rankOf s.cst.directory s.scr.ranking c, rankingTotal c)

/-- What positions 1 to 10 show. -/
def topTen (s : State) : List (Option (Nat × Option Nat × Nat)) :=
  [1, 2, 3, 4, 5, 6, 7, 8, 9, 10].map (positionShown s)

/-- The TOP keys of the lines whose position shows something else than before (R136). -/
def changedLines (before after : List (Option (Nat × Option Nat × Nat))) : List Key :=
  (((before.zip after).zipIdx 1).filter fun (p, _) => p.1 != p.2).map fun (_, n) => { field := .top, line := n }

/-- The RANK key, with the competitor re-ranked, and the TOP keys of the changed lines (R136, R142). -/
def announceRanking (before : List (Option (Nat × Option Nat × Nat))) (subject : Option Nat) (s : State) : State :=
  let s := match subject with
    | some b => enqueueSubject .rank b s
    | none => enqueue (key .rank) s
  enqueueAll (changedLines before (topTen s)) false s

/-- SCR re-ranks a competitor (R135). -/
def reRank (bib : Nat) (s : State) : State := s.onScr fun r => { r with ranking := reRanked s.cst.directory bib r.ranking }

/-- A change of a competitor's record that re-ranks the competitor and is shown on the board (R136, R137, R139). -/
def reRankAfter (bib : Nat) (change : State → State) (s : State) : State :=
  let before := topTen s
  announceRanking before (some bib) (reRank bib (change s))

/-! ## Completion and recomputation (R127, R128, R132) -/

/-- An ATTEMPT_COMPLETE notice (R128, R132): the competitor's ranking total and rank as they stand. -/
def notifyComplete (recomputed : Bool) (a : Attempt) (p : Points) (s : State) : State :=
  let c := findBib s.cst.directory a.bib
  notify (.attemptComplete recomputed a.number a.round a.bib a.distance p ((c.map rankingTotal).getD 0)
    (c.bind fun c => rankOf s.cst.directory s.scr.ranking c)) s

/-- The points of an attempt now (R128, step 1). -/
def pointsNow (s : State) (a : Attempt) : Points := computePoints s.prof.profile.hill s.gate.reference a

/-- SCR completes an attempt, in the seven steps of R128. No time of it is kept in the record: R32's table has none (log 44). -/
def completeAttempt (a : Attempt) (s : State) : State :=
  let before := topTen s
  let p := pointsNow s a
  let s := setAttempt a.number (fun r => { r with points := some p, state := .complete }) s
  let s := reRank a.bib (setTotal a.bib a.round (some p.total) s)
  let s := announceRanking before (some a.bib) (enqueueSubject .points a.number s)
  endCheck (notifyComplete false a p s)

/-- SCR checks completion of an attempt in SCORING (R127). -/
def checkCompletion (n : Nat) (s : State) : State :=
  match attempt? s n with
  | some a => if a.state = .scoring ∧ settled a = true then completeAttempt a s else s
  | none => s

/-- The total that a directory record holds for a round. -/
def slotTotal (s : State) (bib round : Nat) : Option Nat := do
  let c ← competitor? s bib
  (c.totals[round - 1]?).join

/-- SCR recomputes a COMPLETE attempt (R132). The RANK subject is the attempt's bib, also where a component changes without the
total and nobody is re-ranked, for which R142 names no subject (log 50). -/
def recompute (n : Nat) (s : State) : State :=
  match attempt? s n with
  | none => s
  | some a =>
    let before := topTen s
    let p := pointsNow s a
    let changed := a.points ≠ some p
    let s := setAttempt n (fun r => { r with points := some p }) s
    let s := if slotTotal s a.bib a.round = some p.total then s else reRank a.bib (setTotal a.bib a.round (some p.total) s)
    if changed then
      notifyComplete true a p (announceRanking before (some a.bib) (enqueueSubject .points n s))
    else s

/-- What SCR does after a change to an input: a completion check in SCORING, a recompute in COMPLETE (R123, R119, R103). -/
def afterInput (n : Nat) (s : State) : State :=
  match attempt? s n with
  | none => s
  | some a =>
    match a.state with
    | .scoring => checkCompletion n s
    | .complete => recompute n s
    | .waiting | .cleared | .inRun | .flight | .lapsed | .voided | .cancelled => s

/-! ## Judges' marks (R122, R123, R124) -/

/-- The judges' marks may be given in this state (R123, R124). -/
def marksOpen (a : Attempt) : Bool :=
  a.state == .inRun || a.state == .flight || a.state == .scoring || a.state == .complete

/-- The style status after a mark is stored (R122). -/
def styleAfter (old : StyleStatus) (marks : List (Option Nat)) : StyleStatus :=
  if (presentMarks marks).length = 5 then .full else old

/-- A mark stored into a judge's slot (R123). -/
def withMark (judge mark : Nat) (a : Attempt) : Attempt :=
  let ms := a.marks.set (judge - 1) (some mark)
  { a with marks := ms, style := styleAfter a.style ms }

/-- ENTER MARK (R123). -/
def serveEnterMark (n judge mark : Nat) (s : State) : Served :=
  if !(attemptOk n) || !(within 1 5 judge) || 40 < mark then refuse .range s
  else
    match attempt? s n with
    | none => refuse .notFound s
    | some a =>
      if ofConfirmedRound s a then refuse .locked s
      else if !(marksOpen a) then refuse .state s
      else
        let changed := (a.marks[judge - 1]?).join ≠ some mark
        let s := setAttempt n (withMark judge mark) s
        let s := if changed then enqueueSubject .marks n s else s
        done (afterInput n s)

/-- ENTER_MARK (R123). -/
def execEnterMark (tag : Byte) (attempt judge mark : Nat) (s : State) : Host.Outcome State Fault Refusal :=
  request (.enterMark tag attempt judge mark) (serveEnterMark attempt judge mark) s

/-- CLOSE MARKS (R124). -/
def serveCloseMarks (n : Nat) (s : State) : Served :=
  if !(attemptOk n) then refuse .range s
  else
    match attempt? s n with
    | none => refuse .notFound s
    | some a =>
      if ofConfirmedRound s a then refuse .locked s
      else if !(marksOpen a) then refuse .state s
      else if (presentMarks a.marks).length < 4 then refuse .state s
      else if (presentMarks a.marks).length = 4 ∧ a.style = .opened then
        let s := setAttempt n (fun r => { r with style := .closed4 }) s
        done (checkCompletion n (enqueueSubject .marks n s))
      else done s

/-- CLOSE_MARKS (R124). -/
def execCloseMarks (tag : Byte) (attempt : Nat) (s : State) : Host.Outcome State Fault Refusal :=
  request (.closeMarks tag attempt) (serveCloseMarks attempt) s

/-! ## The jury's distance and wind figure (R119, R103) -/

/-- DISTANCE is enqueued when D has changed (R116, R119). -/
def announceDistance (n : Nat) (old new : Option Nat) (s : State) : State :=
  if old = new then s else enqueueSubject .distance n s

/-- SET DISTANCE (R119). -/
def serveSetDistance (n d : Nat) (s : State) : Served :=
  if !(attemptOk n) || !(within 0 1000 d) then refuse .range s
  else
    match attempt? s n with
    | none => refuse .notFound s
    | some a =>
      if ofConfirmedRound s a then refuse .locked s
      else if a.state ≠ .scoring ∧ a.state ≠ .complete then refuse .state s
      else
        let s := setAttempt n (fun r => { r with distance := some d, distanceStatus := .jury }) s
        let s := s.onMeas fun m => { m with waits := m.waits.filter fun w => w.1 != n }
        done (afterInput n (announceDistance n a.distance (some d) s))

/-- SET_DISTANCE (R119). -/
def execSetDistance (tag : Byte) (attempt d : Nat) (s : State) : Host.Outcome State Fault Refusal :=
  request (.setDistance tag attempt d) (serveSetDistance attempt d) s

/-- SET WIND (R103). -/
def serveSetWind (n : Nat) (w : Int) (s : State) : Served :=
  if !(attemptOk n) || w < -6000 || 6000 < w then refuse .range s
  else
    match attempt? s n with
    | none => refuse .notFound s
    | some a =>
      if ofConfirmedRound s a then refuse .locked s
      else if a.state ≠ .scoring ∧ a.state ≠ .complete then refuse .state s
      else done (afterInput n (setAttempt n (fun r => { r with wind := some w, windStatus := some .jury }) s))

/-- SET_WIND (R103). -/
def execSetWind (tag : Byte) (attempt : Nat) (w : Int) (s : State) : Host.Outcome State Fault Refusal :=
  request (.setWind tag attempt w) (serveSetWind attempt w) s

/-! ## READ ATTEMPT (R36) -/

/-- READ ATTEMPT (R36). -/
def serveReadAttempt (n : Nat) (s : State) : Served :=
  if !(attemptOk n) then refuse .range s
  else
    match attempt? s n with
    | none => refuse .notFound s
    | some a => doneWith (.attempt a) s

/-- READ_ATTEMPT (R36). -/
def execReadAttempt (tag : Byte) (attempt : Nat) (s : State) : Host.Outcome State Fault Refusal :=
  request (.readAttempt tag attempt) (serveReadAttempt attempt) s

end Sys2Proof.Machine
end

