-- ==== Sys2Proof/Machine/Void.lean ====
section
/-! DEFINITION. Voids (02, section 2.6; R55): the bookkeeping of R29 and R38, and VOID ATTEMPT. -/

namespace Sys2Proof.Machine

/-- A bib returns to the head of the start list; an ENDED round becomes OPEN (R29, R38). -/
def returnToHead (bib : Nat) (s : State) : State :=
  s.onCst fun c =>
    { c with startList := bib :: c.startList, rstate := if c.rstate = .ended then .opened else c.rstate }

/-- MEAS's operations for the attempt that has left the bar stop, without an expiry and without a fault (R108, R120). -/
def stopMeasuring (s : State) : State :=
  s.onMeas fun m => { m with trap := .off, trapAttempt := none, trapTimer := none, markLimit := none }

/-- The wind window closes without a figure (R101). -/
def dropWindow (s : State) : State := s.onWln fun w => { w with window := none }

/-- What an attempt held elsewhere is taken back, by the state it was voided in (R38). -/
def takeBack (a : Attempt) (s : State) : State :=
  match a.state with
  | .waiting | .cleared => updateLight (stopWindow (dropClear s))
  | .inRun | .flight => updateLight (dropWindow (stopMeasuring s))
  | .scoring =>
    let s := s.onMeas fun m => { m with waits := m.waits.filter fun w => w.1 != a.number }
    if s.wln.window.map Prod.fst = some a.number then dropWindow s else s
  | .complete => reRankAfter a.bib (setTotal a.bib a.round none) s
  | .lapsed => reRankAfter a.bib (setDisqualified a.bib false) s
  | .voided | .cancelled => s

/-- An attempt with the coach flag that has left the on-hill phases asks for the return move (R58). -/
def coachReturn (a : Attempt) (s : State) : State :=
  if a.state.onHill ∧ a.coach.isSome then requestReturn s else s

/-- A void (R38): the attempt becomes VOIDED, its bib returns to the head, what it held is taken back, an ATTEMPT notice
reports it, and the return moves of R58 and R57 are asked for. -/
def voidAttempt (a : Attempt) (s : State) : State :=
  let s := setAttempt a.number (fun r => { r with state := .voided }) s
  let s := takeBack a (returnToHead a.bib s)
  let s := notifyState a.number a.round a.bib (some a.state) .voided s
  afterHeadChange (coachReturn a s)

/-- VOID ATTEMPT (R37). -/
def serveVoidAttempt (n : Nat) (s : State) : Served :=
  if !(attemptOk n) then refuse .range s
  else
    match attempt? s n with
    | none => refuse .notFound s
    | some a =>
      if ofConfirmedRound s a then refuse .locked s
      else if a.state = .voided ∨ a.state = .cancelled then refuse .state s
      else if (a.state = .scoring ∨ a.state = .complete ∨ a.state = .lapsed) ∧ 80 ≤ placesHeld s then refuse .full s
      else done (voidAttempt a s)

/-- VOID_ATTEMPT (R37). -/
def execVoidAttempt (tag : Byte) (attempt : Nat) (s : State) : Host.Outcome State Fault Refusal :=
  request (.voidAttempt tag attempt) (serveVoidAttempt attempt) s

end Sys2Proof.Machine
end

