-- ==== Sys2Proof/Machine/Measuring.lean ====
section
/-! DEFINITION. MEAS (07): the speed trap, the console lines, mark matching, the end of the on-hill phase and the distance
resolution. -/

namespace Sys2Proof.Machine

/-! ## The speed trap (R106, R107, R108) -/

/-- CELL_A's effect by the trap state (R106). -/
def breakA (s : State) : State :=
  match s.meas.trap with
  | .ready => s.onMeas fun m => { m with trap := .counting, interval := 0, trapTimer := some 2000 }
  | .off | .counting | .spent => s

/-- MEAS takes a high-to-low edge of CELL_A. Without the line there is none. -/
def cellA (s : State) : State :=
  if hasLine s .cellA then breakA (setOutside (lineOf s .cellA) false s) else s

/-- CELL_A_EDGE (R106). -/
def execCellAEdge (s : State) : Host.Outcome State Fault Refusal := command cellA s

/-- The speed of an interval, where it is valid (R107). -/
def validSpeed (baseline interval : Nat) : Option Nat :=
  if within 1000 200000 interval ∧ trapSpeed baseline interval ≤ 3600 then some (trapSpeed baseline interval) else none

/-- The interval ends (R107): speed or SPEED_RANGE, FLIGHT with the takeoff time, trap OFF, the SPEED key, an ATTEMPT notice. -/
def endInterval (interval : Nat) (s : State) : State :=
  let s := s.onMeas fun m => { m with trap := .off, trapAttempt := none, interval, trapTimer := none }
  match onHill? s with
  | some a =>
    let speed := validSpeed s.prof.profile.hill.baseline interval
    let s := setAttempt a.number
      (fun r => { r with state := .flight, takeoffTime := some s.link.clock, speed := speed }) s
    let s := if speed.isSome then s else addFault a.number .speedRange s
    notifyState a.number a.round a.bib (some a.state) .flight (enqueueSubject .speed a.number s)
  | none => s

/-- CELL_B's effect by the trap state (R106). -/
def breakB (interval : Nat) (s : State) : State :=
  match s.meas.trap with
  | .off => s
  | .ready | .spent => count .cellStray s
  | .counting => endInterval interval s

/-- MEAS takes a high-to-low edge of CELL_B at an interval count. Without the line there is none. -/
def cellB (interval : Nat) (s : State) : State :=
  if hasLine s .cellB then breakB (min interval 200000) (setOutside (lineOf s .cellB) false s) else s

/-- CELL_B_EDGE (R106, R107). -/
def execCellBEdge (interval : Nat) (s : State) : Host.Outcome State Fault Refusal := command (cellB interval) s

/-- A fault joins the set of the attempt on the hill. -/
def faultOnHill (f : DeferredFault) (s : State) : State :=
  match onHill? s with
  | some a => addFault a.number f s
  | none => s

/-- The trap timer expires in COUNTING (R108). -/
def trapTimedOut (s : State) : State :=
  if s.meas.trapTimer.isSome ∧ s.meas.trap = .counting then
    faultOnHill .speedMissing (s.onMeas fun m => { m with trap := .spent, trapTimer := none })
  else s

/-- TRAP_TIMER_EXPIRY (R108). -/
def execTrapTimerExpiry (s : State) : Host.Outcome State Fault Refusal := command trapTimedOut s

/-- The trap ends for an attempt that enters SCORING (R108). -/
def endTrap (n : Nat) (s : State) : State :=
  let s := if s.meas.trap = .ready ∨ s.meas.trap = .counting then addFault n .speedMissing s else s
  s.onMeas fun m => { m with trap := .off, trapAttempt := none, trapTimer := none }

/-! ## The end of the on-hill phase (R101, R102, R114, R115) -/

/-- WLN closes the wind window with a figure (R102); the change of wind status is followed by SCR's check (R101, R127). -/
def closeWindow (n : Nat) (s : State) : State :=
  let s := dropWindow s
  match attempt? s n with
  | some a =>
    let s :=
      match windFigure a.samples with
      | some w => setAttempt n (fun r => { r with windStatus := some .computed, wind := some w }) s
      | none => addFault n .noWind (setAttempt n (fun r => { r with windStatus := some .absent, wind := none }) s)
    checkCompletion n s
  | none => s

/-- One ATTEMPT_FAULTS notice, if the fault set is not empty (R114, step 6). -/
def reportFaults (n : Nat) (cause : EndCause) (s : State) : State :=
  match attempt? s n with
  | some a => if a.faults = [] then s else notify (.attemptFaults n a.bib cause a.faults) s
  | none => s

/-- Steps 2 to 6 of R114, for an attempt `a` as it stood on the hill. -/
def leaveHill (a : Attempt) (cause : EndCause) (s : State) : State :=
  let s := closeWindow a.number (endTrap a.number s)
  let s := notifyState a.number a.round a.bib (some a.state) .scoring (coachReturn a s)
  reportFaults a.number cause s

/-- The mark limit stops. -/
def stopMarkLimit (s : State) : State := s.onMeas fun m => { m with markLimit := none }

/-- The first stored mark ends the on-hill phase (R114). -/
def enterScoring (a : Attempt) (s : State) : State :=
  leaveHill a .mark
    (stopMarkLimit (setAttempt a.number (fun r => { r with state := .scoring, endCause := some .mark }) s))

/-- The mark limit ends the on-hill phase (R115). -/
def limitReached (a : Attempt) (s : State) : State :=
  let s := setAttempt a.number
    (fun r => { r with state := .scoring, endCause := some .limit, distance := none, distanceStatus := .missing }) s
  leaveHill a .limit (addFault a.number .noMark (stopMarkLimit s))

/-- The mark limit expires (R115). -/
def markLimitExpired (s : State) : State :=
  match s.meas.markLimit with
  | some (n, _) =>
    match attempt? s n with
    | some a => if a.state = .inRun ∨ a.state = .flight then limitReached a s else stopMarkLimit s
    | none => stopMarkLimit s
  | none => s

/-- MARK_LIMIT_EXPIRY (R115). -/
def execMarkLimitExpiry (s : State) : Host.Outcome State Fault Refusal := command markLimitExpired s

/-! ## Distance resolution (R116, R117, R118) -/

/-- One mark alone: `other` is the state of the console whose slot is empty (R116). -/
def resolveOne (inUse : Bool) (other : ConsoleState) (old : DistanceStatus) (d : Nat) : Option Nat × DistanceStatus :=
  if old = .single ∨ inUse = false ∨ other ≠ .active then (some d, .single) else (none, .pendingSecond)

/-- Two marks against the distance tolerance (R116). -/
def resolveTwo (tolerance da db : Nat) : Option Nat × DistanceStatus :=
  if da - db ≤ tolerance ∧ db - da ≤ tolerance then (some da, .agreed) else (none, .held)

/-- D and the distance status that R116 gives. -/
def resolution (h : HillSection) (m : Meas) (a : Attempt) : Option Nat × DistanceStatus :=
  match a.markA, a.markB with
  | some x, some y => resolveTwo h.tolerance x.d y.d
  | some x, none => resolveOne h.consoleBInUse m.stateB a.distanceStatus x.d
  | none, some y => resolveOne h.consoleBInUse m.stateA a.distanceStatus y.d
  | none, none => (a.distance, a.distanceStatus)

/-- The entry to HELD from another status (R116). -/
def reportHeld (a : Attempt) (s : State) : State :=
  notify (.distanceHeld a.number a.bib ((a.markA.map ConsoleMark.d).getD 0) ((a.markB.map ConsoleMark.d).getD 0))
    (addFault a.number .consoleDisagree s)

/-- The wait of an attempt stops. -/
def stopWait (n : Nat) (s : State) : State := s.onMeas fun m => { m with waits := m.waits.filter fun w => w.1 != n }

/-- The second-mark wait follows the status (R116, R117). -/
def followWait (n : Nat) (old new : DistanceStatus) (s : State) : State :=
  if new = .pendingSecond then
    if old = .pendingSecond then s
    else s.onMeas fun m => { m with waits := m.waits ++ [(n, s.prof.profile.hill.secondMarkWait)] }
  else stopWait n s

/-- MEAS resolves an attempt's distance (R116), and SCR checks completion after it. -/
def resolve (n : Nat) (s : State) : State :=
  match attempt? s n with
  | some a =>
    let r := resolution s.prof.profile.hill s.meas a
    let s := setAttempt n (fun x => { x with distance := r.1, distanceStatus := r.2 }) s
    let s := if r.2 = .held ∧ a.distanceStatus ≠ .held then reportHeld a s else s
    checkCompletion n (announceDistance n a.distance r.1 (followWait n a.distanceStatus r.2 s))
  | none => s

/-- An attempt in PENDING_SECOND becomes SINGLE with the present mark's D (R117, R118). -/
def settleSingle (n : Nat) (s : State) : State :=
  match attempt? s n with
  | some a =>
    let d := (a.markA.orElse fun _ => a.markB).map ConsoleMark.d
    let s := setAttempt n (fun x => { x with distance := d, distanceStatus := .single }) s
    checkCompletion n (announceDistance n a.distance d (stopWait n s))
  | none => stopWait n s

/-- The second-mark wait of an attempt expires (R117). -/
def waitExpired (n : Nat) (s : State) : State :=
  if s.meas.waits.any fun w => w.1 == n then settleSingle n s else s

/-- SECOND_MARK_WAIT_EXPIRY (R117). -/
def execSecondMarkWaitExpiry (attempt : Nat) (s : State) : Host.Outcome State Fault Refusal :=
  command (waitExpired attempt) s

/-! ## Mark records (R111, R112) -/

/-- The open round's attempt that a mark of a bib belongs to (R111). -/
def takesMark (s : State) (bib : Nat) (a : Attempt) : Bool :=
  a.round == s.cst.round && a.bib == bib && (a.state == .inRun || a.state == .flight || a.state == .scoring)
    && a.distanceStatus != .jury

/-- The attempt that matches a mark of a bib (R111). -/
def matchMark (s : State) (bib : Nat) : Option Attempt :=
  if hasOpenRound s then s.cst.attempts.find? (takesMark s bib) else none

/-- The mark slot of a console. -/
def markOf (c : Console) (a : Attempt) : Option ConsoleMark :=
  match c with
  | .a => a.markA
  | .b => a.markB

/-- A record is stale when the slot holds a mark with a higher edit count (R112). -/
def staleMark (old : Option ConsoleMark) (edit : Nat) : Bool :=
  match old with
  | some m => edit < m.edit
  | none => false

/-- The attempt with a mark stored in the slot of a console. -/
def withConsoleMark (c : Console) (m : ConsoleMark) (a : Attempt) : Attempt :=
  match c with
  | .a => { a with markA := some m }
  | .b => { a with markB := some m }

/-- A mark is stored with its converted distance (R112, R113). -/
def storeMark (c : Console) (n raw edit : Nat) (s : State) : State :=
  let r := convertMark (s.prof.profile.survey.getD []) raw
  let s := setAttempt n (withConsoleMark c { raw, edit, d := r.1 }) s
  if r.2 then addFault n .beyondSurvey s else s

/-- A mark for a matching attempt (R112): stale ones are ignored; a stored one ends the on-hill phase and is resolved. -/
def matchedMark (c : Console) (raw edit : Nat) (a : Attempt) (s : State) : State :=
  if staleMark (markOf c a) edit then s
  else
    let s := storeMark c a.number raw edit s
    resolve a.number (if a.state = .scoring then s else enterScoring a s)

/-- A valid mark record (R111). -/
def handleMark (c : Console) (bib raw edit : Nat) (s : State) : State :=
  match matchMark s bib with
  | some a => matchedMark c raw edit a s
  | none => notify (.markStray c bib raw edit) (count .markStray s)

/-! ## The console lines (R109, R110) -/

/-- The id that a console's records carry. -/
def consoleId : Console → Byte
  | .a => 0x41
  | .b => 0x42

/-- The state of a console. -/
def consoleState (c : Console) (m : Meas) : ConsoleState :=
  match c with
  | .a => m.stateA
  | .b => m.stateB

/-- MEAS's record with the state of a console. -/
def Meas.withState (m : Meas) (c : Console) (x : ConsoleState) : Meas :=
  match c with
  | .a => { m with stateA := x }
  | .b => { m with stateB := x }

/-- The record assembly of a console. -/
def assembly (c : Console) (m : Meas) : List RxChar :=
  match c with
  | .a => m.asmA
  | .b => m.asmB

/-- MEAS's record with the record assembly of a console. -/
def Meas.withAssembly (m : Meas) (c : Console) (x : List RxChar) : Meas :=
  match c with
  | .a => { m with asmA := x }
  | .b => { m with asmB := x }

/-- The silence timer of a console. -/
def silence (c : Console) (m : Meas) : Option Nat :=
  match c with
  | .a => m.silenceA
  | .b => m.silenceB

/-- MEAS's record with the silence timer of a console. -/
def Meas.withSilence (m : Meas) (c : Console) (x : Option Nat) : Meas :=
  match c with
  | .a => { m with silenceA := x }
  | .b => { m with silenceB := x }

/-- A valid arrival restarts the silence timer and makes a SILENT console ACTIVE (R110). -/
def validArrival (c : Console) (s : State) : State :=
  let s := s.onMeas fun m => m.withSilence c (some 5000)
  if consoleState c s.meas = .silent then
    notify (.console c .silent .active) (s.onMeas fun m => m.withState c .active)
  else s

/-- The three tests of a completed record (R109). -/
def recordOk (c : Console) (r : List RxChar) : Bool :=
  r.all (fun x => !x.framing) && (r.map fun x => x.byte).sum == 0 && (r[1]?.map RxChar.byte) == some (consoleId c)

/-- A valid record: a valid arrival, and a mark's handling (R109, R110, R111). -/
def takeRecord (c : Console) (r : List Byte) (s : State) : State :=
  let s := validArrival c s
  match r with
  | [_, _, h, l, rh, rl, _] => handleMark c (u16 h l % 1024) (u16 rh rl) (u16 h l / 1024) s
  | _ => s

/-- A completed record is judged (R109). -/
def judgeRecord (c : Console) (r : List RxChar) (s : State) : State :=
  if recordOk c r then takeRecord c (r.map RxChar.byte) s else count .markBad s

/-- The length of a record by its lead: 7 bytes for a mark record and 3 for a heartbeat; none for another byte (R109). -/
def recordLength (lead : Byte) : Option Nat :=
  if lead = 0xE5 then some 7 else if lead = 0xE6 then some 3 else none

/-- A byte comes in on a console line (R109). A DISABLED console's line is not received. -/
def consoleByte (c : Console) (s : State) (x : RxChar) : State :=
  if consoleState c s.meas = .disabled then s
  else
    match assembly c s.meas with
    | [] => if (recordLength x.byte).isSome then s.onMeas fun m => m.withAssembly c [x] else s
    | lead :: rest =>
      let r := lead :: (rest ++ [x])
      if r.length < (recordLength lead.byte).getD 0 then s.onMeas fun m => m.withAssembly c r
      else judgeRecord c r (s.onMeas fun m => m.withAssembly c [])

/-- Bytes come in on a console line. -/
def consoleBytes (c : Console) (xs : List RxChar) (s : State) : State := xs.foldl (consoleByte c) s

/-- A gap discards a partial record, with one MARK_BAD event (R109). -/
def dropPartialRecord (c : Console) (s : State) : State :=
  if consoleState c s.meas = .disabled ∨ assembly c s.meas = [] then s
  else count .markBad (s.onMeas fun m => m.withAssembly c [])

/-- MARK_RECORD (R109 to R116). -/
def execMarkRecord (console : Console) (chars : List RxChar) (s : State) : Host.Outcome State Fault Refusal :=
  command (consoleBytes console chars) s

/-- HEARTBEAT (R109, R110). -/
def execHeartbeat (console : Console) (chars : List RxChar) (s : State) : Host.Outcome State Fault Refusal :=
  command (fun s => consoleBytes console chars s) s

/-- RECORD_GAP (R109): the byte that ended the gap is judged afresh as a possible lead. -/
def execRecordGap (console : Console) (c : RxChar) (s : State) : Host.Outcome State Fault Refusal :=
  command (fun s => consoleByte console (dropPartialRecord console s) c) s

/-- The attempts whose waits end when a console becomes SILENT, in the order of their waits (R118). -/
def waitingOn (c : Console) (s : State) : List Nat :=
  (s.meas.waits.map Prod.fst).filter fun n => ((attempt? s n).map fun a => (markOf c a).isNone).getD false

/-- A console becomes SILENT (R110, R118). -/
def becomeSilent (c : Console) (s : State) : State :=
  let s := notify (.console c .active .silent) (s.onMeas fun m => m.withState c .silent)
  (waitingOn c s).foldl (fun s n => settleSingle n s) s

/-- A console's silence timer expires (R110). -/
def silenceExpired (c : Console) (s : State) : State :=
  if (silence c s.meas).isSome then
    let s := s.onMeas fun m => m.withSilence c none
    if consoleState c s.meas = .active then becomeSilent c s else s
  else s

/-- SILENCE_TIMER_EXPIRY (R110, R118). -/
def execSilenceTimerExpiry (console : Console) (s : State) : Host.Outcome State Fault Refusal :=
  command (silenceExpired console) s

end Sys2Proof.Machine
end

