-- ==== Sys2Proof/Machine/Start.lean ====
section
/-! DEFINITION. STC (03): ARM NEXT, clearing and green, the start window's expiry, leave and stop; and the debounced lines that
carry leave and stop (R13). -/

namespace Sys2Proof.Machine

/-! ## ARM NEXT (R42) -/

/-- ARM NEXT (R42). -/
def serveArmNext (s : State) : Served :=
  if s.cst.rstate ≠ .opened then refuse .state s
  else if s.stc.heldArm then refuse .busy s
  else if (onHill? s).isSome then refuse .state s
  else if s.prof.valid = false then refuse .noProfile s
  else if s.cst.startList = [] then refuse .state s
  else if 400 ≤ s.cst.attempts.length then refuse .full s
  else
    match s.gate.state with
    | .unknown | .fault => refuse .state s
    | .idle | .manual => done (armEffect s)
    | .movingUp | .movingDown | .settling | .homing => accepted (s.onStc fun c => { c with heldArm := true })

/-- ARM_NEXT (R42). -/
def execArmNext (tag : Byte) (s : State) : Host.Outcome State Fault Refusal := request (.armNext tag) serveArmNext s

/-! ## Clearing and green (R46 to R49) -/

/-- The gating mean allows green: fresh, and within lo..hi (R46, R48). -/
def windAllows (s : State) : Bool :=
  match freshGating s with
  | some v => decide (s.prof.profile.hill.lo ≤ v) && decide (v ≤ s.prof.profile.hill.hi)
  | none => false

/-- GATE supplies the gates (R49, R70): an absent jury gate takes the current gate, the attempt takes both gates, and an absent
reference gate becomes the attempt gate. -/
def copyGates (n : Nat) (s : State) : State :=
  let s := s.onGate fun g => { g with jury := g.jury.orElse fun _ => g.current }
  let s := setAttempt n (fun a => { a with attemptGate := s.gate.current, juryGate := s.gate.jury }) s
  s.onGate fun g => { g with reference := g.reference.orElse fun _ => g.current }

/-- Milliseconds in whole seconds, rounded up (R50). -/
def wholeSeconds (ms : Nat) : Nat := (ms + 999) / 1000

/-- The start window and the countdown seconds begin; clear pending is cleared (R49, R50). -/
def openStartWindow (length : Nat) (c : Stc) : Stc :=
  { c with clearPending := false, window := some length, countdown := some (wholeSeconds length) }

/-- Green is given to the attempt in WAITING, in the order of R49. -/
def giveGreen (a : Attempt) (s : State) : State :=
  let s := copyGates a.number s
  let s := setAttempt a.number (fun r => { r with state := .cleared, greenTime := some s.link.clock }) s
  let s := updateLight (s.onStc (openStartWindow s.prof.profile.hill.startWindow))
  let s := enqueue (key .countdown) (enqueue (key .gate) s)
  notifyState a.number a.round a.bib (some a.state) .cleared (count .greenGiven s)

/-- CLEAR (R46). -/
def serveClear (s : State) : Served :=
  match onHill? s with
  | none => refuse .state s
  | some a =>
    if a.state ≠ .waiting then refuse .state s
    else if s.stc.clearPending then accepted s
    else
      let s := s.onStc fun c => { c with clearPending := true, windWaitSent := false }
      if windAllows s then done (giveGreen a s) else accepted s

/-- CLEAR (R46). -/
def execClear (tag : Byte) (s : State) : Host.Outcome State Fault Refusal := request (.clear tag) serveClear s

/-- HOLD (R47). -/
def serveHold (s : State) : Served :=
  match onHill? s with
  | none => refuse .state s
  | some a => if a.state = .waiting then done (dropClear s) else refuse .state s

/-- HOLD (R47). -/
def execHold (tag : Byte) (s : State) : Host.Outcome State Fault Refusal := request (.hold tag) serveHold s

/-- A cycle end withholds green (R48): WIND_DELAY is counted, and one WIND_WAIT notice is sent for each clear. -/
def withholdGreen (a : Attempt) (s : State) : State :=
  let s := count .windDelay s
  if s.stc.windWaitSent then s
  else notify (.windWait a.number (freshGating s)) (s.onStc fun c => { c with windWaitSent := true })

/-- STC judges the new gating mean at a cycle end (R48). -/
def judgeClear (s : State) : State :=
  if s.stc.clearPending then
    match onHill? s with
    | some a => if windAllows s then giveGreen a s else withholdGreen a s
    | none => s
  else s

/-! ## The start window expires (R51) -/

/-- The attempt in CLEARED lapses, in the order of R51. -/
def lapse (a : Attempt) (s : State) : State :=
  let s := setAttempt a.number (fun r => { r with state := .lapsed }) s
  let s := stopWindow (updateLight s)
  let s := count .attemptLapsed (reRankAfter a.bib (setDisqualified a.bib true) s)
  coachReturn a (endCheck (notifyState a.number a.round a.bib (some a.state) .lapsed s))

/-- The start window expires with the attempt still CLEARED (R51). -/
def windowExpired (s : State) : State :=
  if s.stc.window.isSome then
    match onHill? s with
    | some a => if a.state = .cleared then lapse a s else s
    | none => s
  else s

/-- START_WINDOW_EXPIRY (R51). -/
def execStartWindowExpiry (s : State) : Host.Outcome State Fault Refusal := command windowExpired s

/-! ## Leave (R52, R54) -/

/-- STC hands the leave to WLN, which opens the wind window (R99), and to MEAS, which starts the mark limit (R115) and begins
watching the cells (R106). -/
def handLeave (n : Nat) (s : State) : State :=
  let s := s.onWln fun w => { w with window := some (n, true) }
  let s := setAttempt n (fun r => { r with windStatus := some .sampling, samples := [], wind := none }) s
  let s := s.onMeas fun m => { m with markLimit := some (n, s.prof.profile.hill.markLimit) }
  if hasLine s .cellA ∧ hasLine s .cellB then s.onMeas fun m => { m with trap := .ready, trapAttempt := some n } else s

/-- What the leave of an attempt from WAITING does beyond the leave itself (R52). -/
def leaveEarly (n : Nat) (s : State) : State :=
  let s := setAttempt n (fun r => { r with earlyLeave := true }) (dropClear s)
  enqueue (key .gate) (copyGates n s)

/-- The attempt in WAITING or CLEARED leaves the bar (R52). -/
def leaveBar (a : Attempt) (stamp : Nat) (manual : Bool) (s : State) : State :=
  let s := setAttempt a.number (fun r => { r with state := .inRun, leaveTime := some stamp, manualLeave := manual }) s
  let s := if a.state = .waiting then leaveEarly a.number s else stopWindow s
  notifyState a.number a.round a.bib (some a.state) .inRun (handLeave a.number (updateLight s))

/-- The attempt that a leave event finds at the bar (R52). -/
def atBar? (s : State) : Option Attempt := (onHill? s).filter fun a => a.state == .waiting || a.state == .cleared

/-- A leave event with its stamp (R52): a stray one is counted. -/
def leaveEvent (stamp : Nat) (s : State) : State :=
  match atBar? s with
  | some a => leaveBar a stamp false s
  | none => count .leaveStray s

/-- MARK LEAVE (R54). -/
def serveMarkLeave (s : State) : Served :=
  if hasLine s .leave then refuse .state s
  else
    match atBar? s with
    | some a => done (leaveBar a s.link.clock true s)
    | none => { st := count .leaveStray s, code := .state, data := .none }

/-- MARK_LEAVE (R54). -/
def execMarkLeave (tag : Byte) (s : State) : Host.Outcome State Fault Refusal := request (.markLeave tag) serveMarkLeave s

/-! ## Stop (R55) -/

/-- A stop event (R55), with the cause that it gives a dropped arm. -/
def stopEvent (cause : DropCause) (s : State) : State :=
  match onHill? s with
  | some a =>
    if a.state = .waiting ∨ a.state = .cleared then voidAttempt a s
    else setAttempt a.number (fun r => { r with juryStopped := true }) s
  | none => dropHeldArm cause s

/-- STOP (R55). -/
def serveStop (s : State) : Served := done (stopEvent .stop s)

/-- STOP (R55). -/
def execStop (tag : Byte) (s : State) : Host.Outcome State Fault Refusal := request (.stop tag) serveStop s

/-! ## The debounced lines (R13) -/

/-- The function of a debounced line. -/
def lineFunction : DebouncedLine → LineFunction
  | .leave => .leave
  | .juryStop => .juryStop

/-- The debounce of a line. -/
def debounce (l : DebouncedLine) (f : Fld) : Debounce :=
  match l with
  | .leave => f.leave
  | .juryStop => f.stop

/-- FLD's record with the debounce of a line. -/
def Fld.withDebounce (f : Fld) (l : DebouncedLine) (d : Debounce) : Fld :=
  match l with
  | .leave => { f with leave := d }
  | .juryStop => { f with stop := d }

/-- The debounce after the sensed level has become `level` (R13): a departure starts the timer with its stamp, a return stops
it. -/
def debounceEdge (time clock : Nat) (level : Bool) (d : Debounce) : Debounce :=
  if level = d.level then { d with timer := none, stamp := none }
  else if d.timer.isSome then d
  else { d with timer := some time, stamp := some clock }

/-- FLD takes a change of the sensed level of LEAVE or JURY_STOP. Without a line there is none. -/
def lineEdge (l : DebouncedLine) (level : Bool) (s : State) : State :=
  if hasLine s (lineFunction l) then
    (setOutside (lineOf s (lineFunction l)) level s).onFld fun f =>
      f.withDebounce l (debounceEdge s.prof.profile.hill.leaveDebounce s.link.clock level (debounce l f))
  else s

/-- DEBOUNCE_EDGE (R13). -/
def execDebounceEdge (line : DebouncedLine) (level : Bool) (s : State) : Host.Outcome State Fault Refusal :=
  command (lineEdge line level) s

/-- The event that a line's new debounced level raises (R12, R13): LEAVE is active high, JURY_STOP active low. -/
def debounced (l : DebouncedLine) (level : Bool) (stamp : Nat) (s : State) : State :=
  match l, level with
  | .leave, true => leaveEvent stamp s
  | .juryStop, false => stopEvent .juryStop s
  | .leave, false => s
  | .juryStop, true => s

/-- A debounce timer expires (R13). It runs only while the sensed level is departed, so the debounced level changes. -/
def debounceExpired (l : DebouncedLine) (s : State) : State :=
  let d := debounce l s.fld
  if d.timer.isSome then
    debounced l (!d.level) (d.stamp.getD s.link.clock)
      (s.onFld fun f => f.withDebounce l { level := !d.level, timer := none, stamp := none })
  else s

/-- DEBOUNCE_EXPIRY (R13, R52, R55). -/
def execDebounceExpiry (line : DebouncedLine) (s : State) : Host.Outcome State Fault Refusal :=
  command (debounceExpired line) s

end Sys2Proof.Machine
end

