-- ==== Sys2Proof/Machine/WindLine.lean ====
section
/-! DEFINITION. WLN's cycles, exchanges and outcomes (05, sections 5.2 to 5.5), and what a cycle end does (06). -/

namespace Sys2Proof.Machine

/-! ## Stations -/

/-- The profile's slot, if present. -/
def slot? (s : State) (k : Nat) : Option StationSlot := (s.prof.profile.slots[k]?).join

/-- The station record of a slot. -/
def station (s : State) (k : Nat) : Station := s.wln.stations.getD k stationReset

/-- Changes the station record of a slot. -/
def setStation (k : Nat) (f : Station → Station) (s : State) : State :=
  s.onWln fun w => { w with stations := w.stations.modify k f }

/-- A station can be polled when its slot is present and not DISABLED (R80). -/
def canBePolled (s : State) (k : Nat) : Bool := (slot? s k).isSome && (station s k).state != .disabled

/-- Some station can be polled. -/
def anyPollable (s : State) : Bool := [0, 1, 2, 3, 4, 5, 6, 7].any (canBePolled s)

/-- A slot is due as its turn comes up (R79). One that became present in this cycle waits for the next (R5). -/
def due (s : State) (k : Nat) : Bool :=
  canBePolled s k && !(station s k).newcomer && ((station s k).state != .offline || s.wln.cycle % 8 == 0)

/-- STATION_LOST joins the fault set of the attempt whose wind window is open, when the slot has the scoring role (R86). -/
def stationLost (k : Nat) (s : State) : State :=
  match slot? s k, s.wln.window with
  | some x, some (n, _) => if x.scoring then addFault n .stationLost s else s
  | _, _ => s

/-- A station's state moves (R84): a change sends a STATION notice, and R86 applies to OFFLINE and DISABLED. -/
def moveStation (k : Nat) (new : StationState) (s : State) : State :=
  let st := station s k
  if st.state = new then s
  else
    let s := setStation k (fun x => { x with state := new }) s
    let s := notify (.station k (((slot? s k).map StationSlot.address).getD 0) st.state new st.misses) s
    if new = .offline ∨ new = .disabled then stationLost k s else s

/-! ## The wind line's pieces -/

/-- WIND_CD is active on the line that the exchange uses, the one assigned when it began (R74, R76, R16, log 22). -/
def carrier (s : State) : Bool := (s.wln.cdLine.map (sensed s)).getD false

/-- A noise byte (R89). -/
def noise (s : State) : State := count .noiseByte (s.onWln fun w => { w with noise := min 255 (w.noise + 1) })

/-- The exchange goes on to TURNAROUND (R74, R75) and raises WIND_TXEN, unless SET LINES has moved that line since the exchange
began: a new assignment is used from the next exchange (R7, R16). The turnaround delay is the one of this moment (R75, log 48). -/
def enterTurnaround (s : State) : State :=
  s.onWln fun w => { w with phase := .turnaround, carrierTimer := none, txen := !w.txenMoved,
                            turnTimer := some s.prof.profile.hill.turnaround }

/-- An exchange with a slot begins in CARRIER_WAIT, and goes on at once without a carrier (R74). It keeps the slot's address as it
is now for its poll and its judgement, also where SET STATION changes the slot before the poll is sent (log 41). -/
def beginExchange (k : Nat) (s : State) : State :=
  let s := s.onWln fun w =>
    { w with phase := .carrierWait, polled := k, polledAddress := ((slot? s k).map StationSlot.address).getD 0,
             discard := false, cdLine := lineOf s .windCd, txenMoved := false, carrierTimer := some 100, nextSlot := k + 1 }
  if carrier s then s else enterTurnaround s

/-! ## The cycle end (R81, R96, R97, R98, R100) -/

/-- The contributing reading of a slot (R81). -/
def contributing (s : State) (k : Nat) : Option (StationSlot × Reading) := do
  let x ← slot? s k
  let st := station s k
  let r ← st.reading
  if st.good && (st.state == .online || st.state == .suspect) && readingFresh s r then some (x, r) else none

/-- The cycle's contributing readings, in slot order. -/
def contributors (s : State) : List (StationSlot × Reading) :=
  [0, 1, 2, 3, 4, 5, 6, 7].filterMap (contributing s)

/-- The readings of the contributors with the scoring role. -/
def scoringReadings (s : State) : List Reading := ((contributors s).filter fun c => c.1.scoring).map Prod.snd

/-- The readings of the contributors with the gating role. -/
def gatingReadings (s : State) : List Reading := ((contributors s).filter fun c => c.1.gating).map Prod.snd

/-- The gating mean record that a cycle end stores (R97). Its age is 0 without a value too (log 43). -/
def newGating (clock : Nat) (queued : Bool) (rs : List Reading) : GatingMean :=
  { value := truncatedMean (rs.map Reading.t), time := some clock, age := 0,
    iced := rs.any fun r => r.status == .iced, staleTaken := false, staleQueued := queued }

/-- The means of a cycle end are formed and stored (R96, R97). -/
def storeMeans (s : State) : State :=
  s.onWln fun w =>
    { w with gating := newGating s.link.clock w.gating.staleQueued (gatingReadings s),
             scoringMean := truncatedMean ((scoringReadings s).map Reading.t),
             nGating := (gatingReadings s).length, nScoring := (scoringReadings s).length }

/-- The scoring mean goes to the attempt whose wind window is open (R100). -/
def appendSample (s : State) : State :=
  match s.wln.window, s.wln.scoringMean with
  | some (n, true), some m =>
    match attempt? s n with
    | some a =>
      if a.samples.length < 64 then setAttempt n (fun r => { r with samples := r.samples ++ [m] }) s
      else addFault n .windOverflow (s.onWln fun w => { w with window := some (n, false) })
    | none => s
  | _, _ => s

/-- A board change (R98): WIND is enqueued, or deferred within 1,000 ms of the last enqueue. -/
def windChange (s : State) : State :=
  if s.wln.windHold.isSome then s.onWln fun w => { w with windDeferred := true }
  else enqueue (key .wind) (s.onWln fun w => { w with windHold := some 1000 })

/-- The board knows nothing yet of the gating mean's end: the mean is fresh, or its becoming stale by age has not been taken
(R98). -/
def owesStale (s : State) : Bool := (freshGating s).isSome || (s.wln.gating.value.isSome && !s.wln.gating.staleTaken)

/-- The work of a cycle end, in the order of R96: means, sample, STC's judgement, board decision. A cycle end that forms no mean is
a board change where the record it replaces was fresh, or was stale by age without that having been taken (R98). -/
def cycleEndWork (s : State) : State :=
  let owed := owesStale s
  let s := judgeClear (appendSample (storeMeans s))
  if s.wln.gating.value.isSome ∨ owed = true then windChange s else s

/-- The cycle ends (R79, R80): BETWEEN, or STOPPED where no station can be polled. -/
def endCycle (s : State) : State :=
  let s := cycleEndWork s
  if anyPollable s then s.onWln fun w => { w with poll := .between }
  else s.onWln fun w => { w with poll := .stopped, cycleTimer := none }

/-! ## The poll cycle (R79, R80) -/

/-- The next due slot of the cycle. -/
def nextDue (s : State) : Option Nat :=
  [0, 1, 2, 3, 4, 5, 6, 7].find? fun k => decide (s.wln.nextSlot ≤ k) && due s k

/-- The exchange with the next due slot begins, or the cycle ends (R79). -/
def runSlots (s : State) : State :=
  match nextDue s with
  | some k => beginExchange k s
  | none => endCycle (s.onWln fun w => { w with nextSlot := 8 })

/-- A cycle begins with a number (R79). -/
def beginCycle (number : Nat) (s : State) : State :=
  runSlots (s.onWln fun w =>
    { w with poll := .inCycle, cycle := number, cycleTimer := some s.prof.profile.hill.cycleMin, nextSlot := 0,
             stations := w.stations.map fun x => { x with good := false, newcomer := false } })

/-- The next cycle begins, with the cycle number raised by one (R79). -/
def nextCycle (s : State) : State := beginCycle ((s.wln.cycle + 1) % 65536) s

/-- The next-cycle moment (R79, R80). -/
def cycleMoment (s : State) : State :=
  if anyPollable s then nextCycle s else s.onWln fun w => { w with poll := .stopped, cycleTimer := none }

/-- After a cycle end that came after the period timer's expiry, the next cycle begins (R79). -/
def followOn (s : State) : State := if s.wln.poll = .between ∧ s.wln.cycleTimer = none then cycleMoment s else s

/-- The cycle goes on after an exchange, or after a line test. -/
def continueCycle (s : State) : State := followOn (runSlots s)

/-- A station has become able to be polled (R80): a STOPPED poll state begins a cycle, unless a line test runs. -/
def pollable (s : State) : State :=
  if s.wln.poll = .stopped ∧ s.wln.test = .idle ∧ anyPollable s = true then nextCycle s else s

/-! ## Outcomes (R77, R78, R83, R84, R90) -/

/-- The outcomes of an exchange whose poll was sent (R77). BAD says whether the lead byte carries a framing-error mark. -/
inductive Answer
  | good (speed direction : Nat) (status : StationStatus)
  | bad (leadMarked : Bool)
  | wrongAddress
  | miss
  deriving DecidableEq, Repr

/-- The station status that a code carries. -/
def statusOf (code : Byte) : Option StationStatus :=
  if code = 0 then some .ok else if code = 1 then some .heaterFault else if code = 2 then some .iced else none

/-- The tests 5 to 7 of R77, on a reply of sound form. -/
def judgeContent (address : Nat) (addressByte : Byte) (speed direction : Nat) (status : Byte) : Answer :=
  if addressByte.toNat ≠ address then .wrongAddress
  else if 359 < direction then .bad false
  else
    match statusOf status with
    | some x => .good speed direction x
    | none => .bad false

/-- A closed reply is judged (R77). -/
def judgeReply (address : Nat) (r : List RxChar) : Answer :=
  let marked := (r.head?.map RxChar.framing).getD false
  match r.map RxChar.byte with
  | [lead, a, sh, sl, dh, dl, st, check] =>
    if r.any RxChar.framing then .bad marked
    else if lead ≠ 0xD1 then .bad marked
    else if lead + a + sh + sl + dh + dl + st + check ≠ 0 then .bad marked
    else judgeContent address a (u16 sh sl) (u16 dh dl) st
  | _ => .bad marked

/-- A count that saturates. -/
def saturating (top n : Nat) : Nat := min top (n + 1)

/-- The reading that a GOOD reply gives (R83). -/
def readingOf (s : State) (k speed direction : Nat) (status : StationStatus) : Reading :=
  { speed := min 6000 speed, direction, status,
    t := tangential (min 6000 speed) direction (((slot? s k).map StationSlot.bearing).getD 0),
    time := s.link.clock, age := 0 }

/-- The polarity count after an outcome (R90). -/
def movePolarity (a : Answer) (s : State) : State :=
  if s.prof.profile.hill.autoSwapOn then
    match a with
    | .miss => s
    | .bad true =>
      if 2 ≤ s.wln.polarityCount then
        let s := s.onWln fun w => { w with polarityCount := 0, inverted := !w.inverted }
        notify (.polarity s.wln.inverted) s
      else s.onWln fun w => { w with polarityCount := w.polarityCount + 1 }
    | .bad false | .good _ _ _ | .wrongAddress => s.onWln fun w => { w with polarityCount := 0 }
  else s

/-- A failed outcome moves the station by its consecutive miss count (R84). -/
def afterFailure (k : Nat) (s : State) : State :=
  let st := station s k
  match st.state with
  | .unknown | .online => if st.misses = 2 then moveStation k .suspect s else s
  | .suspect => if st.misses = 5 then moveStation k .offline s else s
  | .offline | .disabled => s

/-- An outcome is applied to the polled slot's record and the event counters (R78, R83, R84). -/
def applyAnswer (k : Nat) (a : Answer) (s : State) : State :=
  match a with
  | .good speed direction status =>
    let r := readingOf s k speed direction status
    let s := setStation k (fun x => { x with misses := 0, replies := saturating 65535 x.replies, reading := some r,
                                              clamped := decide (6000 < speed), good := true }) s
    moveStation k .online (count .windGood s)
  | .miss =>
    let s := setStation k (fun x => { x with misses := saturating 255 x.misses,
                                              missCount := saturating 65535 x.missCount, latch := true }) s
    afterFailure k (count .windMiss s)
  | .bad _ | .wrongAddress =>
    let s := setStation k (fun x => { x with misses := saturating 255 x.misses,
                                              badCount := saturating 65535 x.badCount, latch := true }) s
    afterFailure k (count .windBad s)

/-- An outcome is applied, unless it is discarded (R78, R90). -/
def takeAnswer (a : Answer) (s : State) : State :=
  if s.wln.discard then s else movePolarity a (applyAnswer s.wln.polled a s)

/-- A contention miss raises the contention count; the third reports LINE_JAM (R74). -/
def contend (s : State) : State :=
  if s.wln.discard then s
  else if 2 ≤ s.wln.contention then
    reportFault .lineJam s.wln.polledAddress (s.onWln fun w => { w with contention := 0 })
  else s.onWln fun w => { w with contention := w.contention + 1 }

/-! ## The line test's beginning, and what follows an exchange (R91) -/

/-- The measurement begins (R91): polling pauses, and the 1 ms listen starts. -/
def beginMeasurement (s : State) : State :=
  s.onWln fun w =>
    { w with test := .listening 1 (sensedFn s .windCd == some true),
             pausedBetween := w.poll == .between,
             poll := match w.poll with
               | .inCycle | .between | .paused => .paused
               | .stopped => .stopped }

/-- The exchange's phase and timers are over. -/
def closeExchange (s : State) : State :=
  s.onWln fun w => { w with phase := .none, carrierTimer := none, turnTimer := none, replyTimer := none, gapTimer := none,
                            reply := [] }

/-- What comes when an outcome has been applied: a waiting line test, or the next due slot or the cycle end (R77, R79, R91). -/
def afterExchange (s : State) : State :=
  if s.wln.test = .waitingExchange then beginMeasurement s else continueCycle s

/-- The exchange ends with an answer. -/
def endExchange (a : Answer) (s : State) : State := afterExchange (takeAnswer a (closeExchange s))

/-- A reply is closed and judged (R76, R77). -/
def closeReply (s : State) : State := endExchange (judgeReply s.wln.polledAddress s.wln.reply) s

end Sys2Proof.Machine
end

