-- ==== Sys2Proof/Machine/Wind.lean ====
section
/-! DEFINITION. The events of the wind line, the line test, and WLN's requests (05); the timers of the gating mean (06). -/

namespace Sys2Proof.Machine

/-! ## Exchange events (R74, R75, R76) -/

/-- The line that CARRIER_CLEAR, and REPLY_BEGIN without a character, speak of: the exchange's own, or the assigned one between
exchanges. R16 has a new WIND_CD line used from the next exchange. That until then these commands speak of the exchange's old line
alone (of none where it began without one), so that the new line's level stands until the exchange ends, is the model's choice
(log 22). -/
def carrierLine (s : State) : Option Nat :=
  match s.wln.phase with
  | .none => lineOf s .windCd
  | .carrierWait | .turnaround | .sending | .replyWait | .receiving => s.wln.cdLine

/-- WIND_CD becomes inactive (R74). -/
def carrierCleared (s : State) : State :=
  let s := setOutside (carrierLine s) false s
  match s.wln.phase with
  | .carrierWait => enterTurnaround s
  | .none | .turnaround | .sending | .replyWait | .receiving => s

/-- CARRIER_CLEAR (R74). -/
def execCarrierClear (s : State) : Host.Outcome State Fault Refusal := command carrierCleared s

/-- The carrier is still present 100 ms into the carrier wait (R74). -/
def contentionMissed (s : State) : State :=
  match s.wln.phase with
  | .carrierWait => afterExchange (contend (closeExchange s))
  | .none | .turnaround | .sending | .replyWait | .receiving => s

/-- CONTENTION_MISS (R74). -/
def execContentionMiss (s : State) : Host.Outcome State Fault Refusal := command contentionMissed s

/-- The turnaround delay ends (R75): SENDING, which sets the contention count to 0 (R74). -/
def turnaroundEnded (s : State) : State :=
  match s.wln.phase with
  | .turnaround => s.onWln fun w => { w with phase := .sending, turnTimer := none, contention := 0 }
  | .none | .carrierWait | .sending | .replyWait | .receiving => s

/-- TURNAROUND_END (R75). -/
def execTurnaroundEnd (s : State) : Host.Outcome State Fault Refusal := command turnaroundEnded s

/-- The reply begins, with the characters it holds so far (R76). -/
def beginReply (first : List RxChar) (s : State) : State :=
  s.onWln fun w => { w with phase := .receiving, replyTimer := none, reply := first, gapTimer := some 5 }

/-- The stop bit of the last poll byte has been sent (R75): WIND_TXEN falls; a carrier already there begins the reply (R76).
The reply timeout is the one of this moment (R76, log 48). -/
def pollWasSent (s : State) : State :=
  match s.wln.phase with
  | .sending =>
    let s := s.onWln fun w =>
      { w with txen := false, phase := .replyWait, replyTimer := some s.prof.profile.hill.replyTimeout }
    if carrier s then beginReply [] s else s
  | .none | .carrierWait | .turnaround | .replyWait | .receiving => s

/-- POLL_SENT (R75, R76). -/
def execPollSent (s : State) : Host.Outcome State Fault Refusal := command pollWasSent s

/-- The reply timer expires (R76). -/
def replyTimedOut (s : State) : State :=
  match s.wln.phase with
  | .replyWait => endExchange .miss s
  | .none | .carrierWait | .turnaround | .sending | .receiving => s

/-- REPLY_TIMEOUT (R76). -/
def execReplyTimeout (s : State) : Host.Outcome State Fault Refusal := command replyTimedOut s

/-! ## The line test's end (R92) -/

/-- Polling resumes after a line test (R92). Where no station can be polled any longer, the kept cycle has no cycle end: R92 says only
that the poll state becomes STOPPED (log 51). -/
def resumePolling (s : State) : State :=
  match s.wln.poll with
  | .stopped => pollable s
  | .inCycle | .between | .paused =>
    if !(anyPollable s) then s.onWln fun w => { w with poll := .stopped, cycleTimer := none }
    else if s.wln.pausedBetween then followOn (s.onWln fun w => { w with poll := .between })
    else continueCycle (s.onWln fun w => { w with poll := .inCycle })

/-- The measurement ends (R92): result, IDLE, LINE_TEST notice; then polling resumes. -/
def endTest (result : TestResult) (distance : Option Nat) (n : Nat) (s : State) : State :=
  let s := s.onWln fun w => { w with test := .idle, lastTest := some (result, distance) }
  resumePolling (notify (.lineTest result distance n) s)

/-- The measurement ends in NOISE. No echo count was started, so the count carried is a free value (log 19). -/
def endInNoise (s : State) : State :=
  let n := min 4096 (Config.noiseEchoCount s.freeCtr)
  endTest .noise none n { s with freeCtr := s.freeCtr + 1 }

/-- The 1 ms listen ends (R92): NOISE if a carrier was there at any time, else the pulse is sent and the watch begins. -/
def listenEnded (s : State) : State :=
  match s.wln.test with
  | .listening _ heard =>
    if heard = true ∨ sensedFn s .windCd = some true then endInNoise s else s.onWln fun w => { w with test := .watching }
  | .idle | .waitingExchange | .watching => s

/-- LISTEN_END (R92). -/
def execListenEnd (s : State) : Host.Outcome State Fault Refusal := command listenEnded s

/-- The first echo, with its sign, at a count up to 4,096 (R92). -/
def echoHeard (positive : Bool) (n : Nat) (s : State) : State :=
  match s.wln.test with
  | .watching =>
    if n ≤ 4096 then
      endTest (if positive then .opened else .short) (some (n * s.prof.profile.hill.cableFactor / 1000)) n s
    else s
  | .idle | .waitingExchange | .listening _ _ => s

/-- ECHO (R92). -/
def execEcho (positive : Bool) (n : Nat) (s : State) : Host.Outcome State Fault Refusal := command (echoHeard positive n) s

/-- The echo count passes 4,096 without an echo (R92): NORMAL. -/
def echoWindowEnded (s : State) : State :=
  match s.wln.test with
  | .watching => endTest .normal none 4096 s
  | .idle | .waitingExchange | .listening _ _ => s

/-- ECHO_WINDOW_EXPIRY (R92). -/
def execEchoWindowExpiry (s : State) : Host.Outcome State Fault Refusal := command echoWindowEnded s

/-! ## Characters and the carrier (R73, R76, R89) -/

/-- A noise byte, which in the 1 ms listen also ends the test in NOISE (R89, R92). -/
def noiseTaken (s : State) : State :=
  let s := noise s
  match s.wln.test with
  | .listening _ _ => endInNoise s
  | .idle | .waitingExchange | .watching => s

/-- A character joins the reply (R76); the 32nd closes it, and what follows until a gap of 5 ms is noise. -/
def joinReply (x : RxChar) (s : State) : State :=
  let s := s.onWln fun w => { w with reply := w.reply ++ [x], gapTimer := some 5 }
  if 32 ≤ s.wln.reply.length then closeReply (s.onWln fun w => { w with trailing := some 5 }) else s

/-- A character that the receiver takes outside TURNAROUND and SENDING, by the exchange phase. -/
def heardCharacter (x : RxChar) (s : State) : State :=
  match s.wln.phase with
  | .replyWait => if s.wln.cdLine.isSome then noiseTaken s else beginReply [x] s
  | .receiving => joinReply x s
  | .none | .carrierWait | .turnaround | .sending => noiseTaken s

/-- A character as the receive polarity gives it (R73): with INVERTED polarity every level sensed on the line is taken inverted,
the stop bit's among them. The command carries the levels on the line (log 47). -/
def polarized (inverted : Bool) (x : RxChar) : RxChar :=
  if inverted then { byte := ~~~x.byte, framing := !x.framing } else x

/-- A character that the receiver takes: characters after a closed 32-character reply are noise (R76). -/
def takenCharacter (x : RxChar) (s : State) : State :=
  if s.wln.trailing.isSome then noiseTaken (s.onWln fun w => { w with trailing := some 5 }) else heardCharacter x s

/-- A character comes in on the wind line (R73): the receiver is deaf in TURNAROUND and SENDING, and takes the character as the
receive polarity gives it otherwise. -/
def windCharacter (x : RxChar) (s : State) : State :=
  match s.wln.phase with
  | .turnaround | .sending => s
  | .none | .carrierWait | .replyWait | .receiving => takenCharacter (polarized s.wln.inverted x) s

/-- WIND_CD becomes active (R76): it begins the reply in REPLY_WAIT, and the 1 ms listen notes it (R92). -/
def carrierRose (s : State) : State :=
  let s := setOutside (carrierLine s) true s
  match s.wln.phase, s.wln.test with
  | .replyWait, _ => if carrier s then beginReply [] s else s
  | _, .listening r heard => s.onWln fun w => { w with test := .listening r (heard || sensedFn s .windCd == some true) }
  | _, _ => s

/-- What may begin a reply (R76): the carrier, or a first character. -/
def replyBegun (first : Option RxChar) (s : State) : State :=
  match first with
  | none => carrierRose s
  | some x => windCharacter x s

/-- REPLY_BEGIN (R76). -/
def execReplyBegin (first : Option RxChar) (s : State) : Host.Outcome State Fault Refusal := command (replyBegun first) s

/-- REPLY_CHARACTER (R76). -/
def execReplyCharacter (c : RxChar) (s : State) : Host.Outcome State Fault Refusal := command (windCharacter c) s

/-- NOISE_BYTE (R89). -/
def execNoiseByte (c : RxChar) (s : State) : Host.Outcome State Fault Refusal := command (fun s => windCharacter c s) s

/-- The 5 ms gap timer expires (R76). -/
def replyGap (s : State) : State :=
  match s.wln.phase with
  | .receiving => closeReply s
  | .none | .carrierWait | .turnaround | .sending | .replyWait => s

/-- REPLY_GAP_EXPIRY (R76, R77). -/
def execReplyGapExpiry (s : State) : Host.Outcome State Fault Refusal := command replyGap s

/-! ## The cycle period and the gating mean's timers (R79, R97, R98) -/

/-- The cycle period timer expires (R79, R80). -/
def cyclePeriodExpired (s : State) : State :=
  if s.wln.cycleTimer.isSome then
    let s := s.onWln fun w => { w with cycleTimer := none }
    match s.wln.poll with
    | .between => cycleMoment s
    | .stopped | .inCycle | .paused => s
  else s

/-- CYCLE_PERIOD_EXPIRY (R79). -/
def execCyclePeriodExpiry (s : State) : Host.Outcome State Fault Refusal := command cyclePeriodExpired s

/-- The gating mean record once its becoming stale has been taken. -/
def staleGating (freshness : Nat) (g : GatingMean) : GatingMean :=
  { g with age := max g.age (freshness + 1), staleTaken := true, staleQueued := false }

/-- The age of the gating mean passes the freshness window (R97, R98): a board change, once for a record. An event of the clock
that a cycle end has overtaken finds a new record, whose age has not passed, and does nothing. -/
def gatingStale (s : State) : State :=
  if s.wln.gating.staleQueued = true ∧ s.wln.gating.age ≤ s.prof.profile.hill.freshness then
    s.onWln fun w => { w with gating := { w.gating with staleQueued := false } }
  else if s.wln.gating.value.isSome ∧ s.wln.gating.staleTaken = false then
    windChange (s.onWln fun w => { w with gating := staleGating s.prof.profile.hill.freshness w.gating })
  else s

/-- GATING_MEAN_STALE (R97, R98). -/
def execGatingMeanStale (s : State) : Host.Outcome State Fault Refusal := command gatingStale s

/-- 1,000 ms have passed since the last WIND enqueue (R98): a deferred WIND is enqueued. -/
def windDeferExpired (s : State) : State :=
  if s.wln.windHold.isSome then
    let s := s.onWln fun w => { w with windHold := none }
    if s.wln.windDeferred then windChange (s.onWln fun w => { w with windDeferred := false }) else s
  else s

/-- WIND_DEFER_EXPIRY (R98). -/
def execWindDeferExpiry (s : State) : Host.Outcome State Fault Refusal := command windDeferExpired s

/-! ## Requests (R87, R88, R91, R93) -/

/-- STATION STATUS (R87): the record as it stood goes back, and the fault latch is cleared. While the reading is absent it is
reported as held (log 42). -/
def serveStationStatus (k : Nat) (s : State) : Served :=
  if 7 < k then refuse .range s
  else
    match slot? s k with
    | none => refuse .notFound s
    | some x =>
      let st := station s k
      doneWith (.station x.address st ((st.reading.map (readingFresh s)).getD false))
        (setStation k (fun r => { r with latch := false }) s)

/-- STATION_STATUS (R87). -/
def execStationStatus (tag : Byte) (slot : Nat) (s : State) : Host.Outcome State Fault Refusal :=
  request (.stationStatus tag slot) (serveStationStatus slot) s

/-- The slot's exchange in progress loses its outcome (R5, R78, R88). -/
def discardExchange (k : Nat) (s : State) : State :=
  if s.wln.phase ≠ .none ∧ s.wln.polled = k then s.onWln fun w => { w with discard := true } else s

/-- DISABLE STATION (R88). While a line test runs the record changes and the notice goes at once, and only polling waits (log 53). -/
def serveDisableStation (k : Nat) (s : State) : Served :=
  if 7 < k then refuse .range s
  else
    match slot? s k with
    | none => refuse .notFound s
    | some _ =>
      if (station s k).state = .disabled then done s else done (discardExchange k (moveStation k .disabled s))

/-- DISABLE_STATION (R88). -/
def execDisableStation (tag : Byte) (slot : Nat) (s : State) : Host.Outcome State Fault Refusal :=
  request (.disableStation tag slot) (serveDisableStation slot) s

/-- ENABLE STATION (R88). While a line test runs the record changes and the notice goes at once, and only polling waits (log 53). -/
def serveEnableStation (k : Nat) (s : State) : Served :=
  if 7 < k then refuse .range s
  else
    match slot? s k with
    | none => refuse .notFound s
    | some _ =>
      if (station s k).state = .disabled then
        done (pollable (moveStation k .unknown (setStation k (fun x => { x with misses := 0 }) s)))
      else done s

/-- ENABLE_STATION (R88). -/
def execEnableStation (tag : Byte) (slot : Nat) (s : State) : Host.Outcome State Fault Refusal :=
  request (.enableStation tag slot) (serveEnableStation slot) s

/-- LINE TEST (R91). With an attempt on the hill it is STATE also while a test runs, where R92's table says BUSY (log 52). -/
def serveLineTest (s : State) : Served :=
  if (onHill? s).isSome then refuse .state s
  else
    match s.wln.test with
    | .waitingExchange | .listening _ _ | .watching => refuse .busy s
    | .idle =>
      match s.wln.phase with
      | .none => accepted (beginMeasurement s)
      | .carrierWait | .turnaround | .sending | .replyWait | .receiving =>
        accepted (s.onWln fun w => { w with test := .waitingExchange })

/-- LINE_TEST (R91). -/
def execLineTest (tag : Byte) (s : State) : Host.Outcome State Fault Refusal := request (.lineTest tag) serveLineTest s

/-- What READ WIND reports (R93). -/
def windReport (s : State) : WindReport where
  gating := s.wln.gating.value
  gatingTime := s.wln.gating.time
  fresh := (freshGating s).isSome
  scoring := s.wln.scoringMean
  nGating := s.wln.nGating
  nScoring := s.wln.nScoring
  poll := s.wln.poll
  cycle := s.wln.cycle
  inverted := s.wln.inverted
  autoSwap := s.prof.profile.hill.autoSwapOn
  contention := s.wln.contention
  noise := s.wln.noise
  test := s.wln.test
  lastTest := s.wln.lastTest

/-- READ WIND (R93): the noise count is then set to 0. -/
def serveReadWind (s : State) : Served :=
  doneWith (.wind (windReport s)) (s.onWln fun w => { w with noise := 0 })

/-- READ_WIND (R93). -/
def execReadWind (tag : Byte) (s : State) : Host.Outcome State Fault Refusal := request (.readWind tag) serveReadWind s

end Sys2Proof.Machine
end

