-- ==== Sys2Proof/Machine/Profile.lean ====
section
/-! DEFINITION. PROF and FLD (01): the SET requests, the store write, the reads, and what an assignment of lines does. -/

namespace Sys2Proof.Machine

/-! ## The edits (R2, R3) -/

/-- The refusals that come before an edit's own checks (R2, orders 2 and 3). -/
def editBlocked (s : State) : Option ReplyCode :=
  if hasOpenRound s then some .locked else if s.prof.writing.isSome then some .busy else none

/-- An accepted SET replaces its section and sets the unsaved flag (R1, R3). -/
def edit (f : Profile → Profile) (s : State) : State :=
  s.onProf fun p => { p with profile := f p.profile, unsaved := true }

/-! ### SET HILL (R4) -/

/-- Console B follows its setting (R110): off makes it DISABLED, on makes it SILENT with its timer running. A partial record is
dropped at both (log 49). -/
def followConsoleB (inUse : Bool) (s : State) : State :=
  let was := s.meas.stateB
  if inUse then
    if was = .disabled then
      notify (.console .b .disabled .silent)
        (s.onMeas fun m => { m with stateB := .silent, silenceB := some 5000, asmB := [] })
    else s
  else if was = .disabled then s
  else
    notify (.console .b was .disabled) (s.onMeas fun m => { m with stateB := .disabled, silenceB := none, asmB := [] })

/-- What WLN takes from a new hill section at once: the polarity count is 0 with auto-swap off (R90), and a gating mean that the
new freshness window makes fresh can become stale by age again (R97, R98). -/
def followWindSettings (h : HillSection) (w : Wln) : Wln :=
  { w with polarityCount := if h.autoSwapOn then w.polarityCount else 0,
           gating := { w.gating with staleTaken := w.gating.staleTaken && decide (h.freshness < w.gating.age) } }

/-- The whole check of SET HILL (R4). -/
def hillAcceptable (h : HillSection) (g : Gate) : Bool :=
  hillOk h && notAbove h.gates g.current && notAbove h.gates g.jury

/-- SET HILL (R4). -/
def serveSetHill (h : HillSection) (s : State) : Served :=
  match editBlocked s with
  | some code => refuse code s
  | none =>
    if hillAcceptable h s.gate then
      done (followConsoleB h.consoleBInUse ((edit (fun p => { p with hill := h }) s).onWln (followWindSettings h)))
    else refuse .range s

/-- SET_HILL (R4). -/
def execSetHill (tag : Byte) (h : HillSection) (s : State) : Host.Outcome State Fault Refusal :=
  request (.setHill tag h) (serveSetHill h) s

/-! ### SET STATION (R5) -/

/-- The roles byte: bit 0 gating, bit 1 scoring (10, section 10.13). -/
def slotOf (address bearing roles : Nat) : StationSlot :=
  { address, bearing, gating := roles % 2 == 1, scoring := roles / 2 % 2 == 1 }

/-- The other slots than `k`, where present. -/
def otherSlots (slots : List (Option StationSlot)) (k : Nat) : List StationSlot := (slots.set k none).filterMap id

/-- The checks of SET STATION (R5). -/
def stationOk (valid : Bool) (slots : List (Option StationSlot)) (k presence : Nat) (x : StationSlot) : Bool :=
  k ≤ 7 &&
    (match presence with
     | 0 => !valid || !(otherSlots slots k).isEmpty
     | 1 => slotOk x && (otherSlots slots k).all fun o => o.address != x.address
     | _ => false)

/-- A station record returns to its hard reset values when the presence or the address of its slot changes, and its exchange in
progress is discarded (R5). A slot that becomes present is polled from the next cycle, also where its address changes again before
that (log 32). -/
def followSlot (k : Nat) (old new : Option StationSlot) (s : State) : State :=
  if old.map StationSlot.address = new.map StationSlot.address then s
  else discardExchange k (setStation k (fun _ => { stationReset with newcomer := old.isNone || (station s k).newcomer }) s)

/-- SET STATION (R5). While a line test runs the slot's record changes at once, and only polling waits (log 53). -/
def serveSetStation (k presence address bearing roles : Nat) (s : State) : Served :=
  match editBlocked s with
  | some code => refuse code s
  | none =>
    let x := slotOf address bearing roles
    if stationOk s.prof.valid s.prof.profile.slots k presence x then
      let new := if presence = 1 then some x else none
      let old := slot? s k
      done (pollable (followSlot k old new (edit (fun p => { p with slots := p.slots.set k new }) s)))
    else refuse .range s

/-- SET_STATION (R5). -/
def execSetStation (tag : Byte) (slot presence address bearing roles : Nat) (s : State) :
    Host.Outcome State Fault Refusal :=
  request (.setStation tag slot presence address bearing roles) (serveSetStation slot presence address bearing roles) s

/-! ### SET SURVEY (R6) -/

/-- SET SURVEY (R6). -/
def serveSetSurvey (points : List SurveyPoint) (s : State) : Served :=
  match editBlocked s with
  | some code => refuse code s
  | none =>
    if surveyOk points then done (edit (fun p => { p with survey := some points }) s) else refuse .range s

/-- SET_SURVEY (R6). -/
def execSetSurvey (tag : Byte) (points : List SurveyPoint) (s : State) : Host.Outcome State Fault Refusal :=
  request (.setSurvey tag points) (serveSetSurvey points) s

/-! ### SET LINES (R7, R12, R16) -/

/-- The written level that a line starts with: high for an open-drain GENERAL_OUT line, low otherwise (R12). -/
def startLevel (a : Assignment) : Bool := a.fn == .generalOut && a.mode == .openDrain

/-- The written levels after an assignment: a line whose assignment is unchanged keeps its own (R7, R12). -/
def writtenAfter (old new : List Assignment) (w : BitVec 16) : BitVec 16 :=
  (List.range 16).foldl (fun w i =>
    match new[i]? with
    | some a => if old[i]? = some a then w else setLevel w i (startLevel a)
    | none => w) w

/-- The line and mode that a function has. -/
def placeOf (lines : List Assignment) (f : LineFunction) : Option (Nat × Option LineMode) :=
  (lineIn lines f).map fun i => (i, (lines[i]?).map Assignment.mode)

/-- The inactive level of a debounced line (R12). -/
def restLevel : DebouncedLine → Bool
  | .leave => false
  | .juryStop => true

/-- A debounced line that receives its function starts with its debounced level equal to its sensed level, without an event
(R7, R10). A line without the function rests at its inactive level (log 21). -/
def startDebounce (l : DebouncedLine) (s : State) : State :=
  s.onFld fun f => f.withDebounce l
    { level := (sensedFn s (lineFunction l)).getD (restLevel l), timer := none, stamp := none }

/-- The debounce starts afresh when the function has moved to another line, or has gained or lost its line. -/
def followDebounce (old : List Assignment) (l : DebouncedLine) (s : State) : State :=
  if lineIn old (lineFunction l) = lineOf s (lineFunction l) then s else startDebounce l s

/-- GATE follows the assignment (R16): MANUAL while the drive is incomplete, UNKNOWN when it becomes complete. -/
def followDrive (complete : Bool) (g : Gate) : Gate :=
  if complete then
    if g.state = .manual then { g with state := .unknown, current := none } else g
  else if g.state = .manual then g
  else
    let c := g.current.getD 1
    { g with state := .manual, current := some c, jury := some (g.jury.getD c) }

/-- The ready level that the assignment gives (R146, R16). -/
def readyLevel (s : State) : Bool := (sensedFn s .boardReady).getD true

/-- WIND_TXEN becomes inactive until the next exchange raises it, where its place has changed (R7, R16, log 40). -/
def followTxen (old new : List Assignment) (w : Wln) : Wln :=
  if placeOf old .windTxen = placeOf new .windTxen then w else { w with txen := false, txenMoved := true }

/-- What an accepted SET LINES does beyond the assignment itself (R7, R16, R146). -/
def followLines (old : List Assignment) (s : State) : State :=
  let new := s.prof.profile.lines
  let s := s.onFld fun f => { f with written := writtenAfter old new f.written }
  let s := followDebounce old .juryStop (followDebounce old .leave s)
  let s := s.onWln (followTxen old new)
  let s := s.onGate (followDrive (driveComplete new))
  if readyLevel s = s.brd.ready then s else setReady (readyLevel s) s

/-- SET LINES (R7). -/
def serveSetLines (codes : List (Nat × Nat)) (s : State) : Served :=
  if codes.length ≠ 16 then refuse .length s
  else
    match editBlocked s with
    | some code => refuse code s
    | none =>
      if s.gate.state.motion = true ∨ s.wln.test ≠ .idle then refuse .busy s
      else
        match assignmentsOf codes with
        | some l =>
          if assignmentsOk l then
            done (followLines s.prof.profile.lines (edit (fun p => { p with lines := l }) s))
          else refuse .range s
        | none => refuse .range s

/-- SET_LINES (R7). -/
def execSetLines (tag : Byte) (codes : List (Nat × Nat)) (s : State) : Host.Outcome State Fault Refusal :=
  request (.setLines tag codes) (serveSetLines codes) s

/-! ## The store write (R8, R9) -/

/-- STORE PROFILE (R8). The one copy of the image is incomplete from then on (R9). -/
def serveStoreProfile (s : State) : Served :=
  match editBlocked s with
  | some code => refuse code s
  | none =>
    if crossChecks s.prof.profile then
      accepted (s.onProf fun p =>
        { p with writing := some p.profile, image := { p.image with crcMatches := false } })
    else refuse .range s

/-- STORE_PROFILE (R8). -/
def execStoreProfile (tag : Byte) (s : State) : Host.Outcome State Fault Refusal :=
  request (.storeProfile tag) serveStoreProfile s

/-- The store write ends (R9). Without one in progress there is no such event. -/
def writeEnded (verified : Bool) (s : State) : State :=
  match s.prof.writing with
  | some p =>
    if verified then
      notify (.profileStored false) (s.onProf fun q =>
        { q with image := { profile := p, crcMatches := true }, valid := true, unsaved := false, writing := none })
    else
      let s := s.onProf fun q => { q with image := { profile := p, crcMatches := false }, writing := none }
      notify (.profileStored true) (reportFault .storeWrite 0 s)
  | none => s

/-- STORE_WRITE_END (R9). -/
def execStoreWriteEnd (verified : Bool) (s : State) : Host.Outcome State Fault Refusal := command (writeEnded verified) s

/-! ## The reads, and WRITE LINE (R11, R14, R15) -/

/-- READ PROFILE (R11). -/
def serveReadProfile (selector k : Nat) (s : State) : Served :=
  match selector with
  | 0 => doneWith (.hill s.prof.profile.hill) s
  | 1 => if 7 < k then refuse .range s else doneWith (.slot (slot? s k)) s
  | 2 => doneWith (.survey s.prof.profile.survey) s
  | 3 => doneWith (.lines s.prof.profile.lines) s
  | 4 => doneWith (.profileState s.prof.valid s.prof.unsaved s.prof.writing.isSome s.prof.profile.survey.isSome) s
  | _ => refuse .range s

/-- READ_PROFILE (R11). -/
def execReadProfile (tag : Byte) (selector slot : Nat) (s : State) : Host.Outcome State Fault Refusal :=
  request (.readProfile tag selector slot) (serveReadProfile selector slot) s

/-- WRITE LINE (R15). -/
def serveWriteLine (line level : Nat) (s : State) : Served :=
  if 15 < line ∨ 1 < level then refuse .range s
  else if (s.prof.profile.lines[line]?.map Assignment.fn) = some .generalOut then
    done (s.onFld fun f => { f with written := setLevel f.written line (level == 1) })
  else refuse .state s

/-- WRITE_LINE (R15). -/
def execWriteLine (tag : Byte) (line level : Nat) (s : State) : Host.Outcome State Fault Refusal :=
  request (.writeLine tag line level) (serveWriteLine line level) s

/-- The debounced level that READ LINES gives: absent without a line (R14). -/
def reportedLevel (l : DebouncedLine) (s : State) : Option Bool :=
  if hasLine s (lineFunction l) then some (debounce l s.fld).level else none

/-- READ LINES (R14). -/
def serveReadLines (s : State) : Served :=
  doneWith (.levels ((List.range 16).map (sensed s)) (reportedLevel .leave s) (reportedLevel .juryStop s)) s

/-- READ_LINES (R14). -/
def execReadLines (tag : Byte) (s : State) : Host.Outcome State Fault Refusal := request (.readLines tag) serveReadLines s

end Sys2Proof.Machine
end

