-- ==== Sys2Proof/Machine/Rounds.lean ====
section
/-! DEFINITION. CST's requests (02): the rounds, and the start list. -/

namespace Sys2Proof.Machine

/-! ## Rounds (R19 to R24) -/

/-- Sets the round state. -/
def setRoundState (r : RoundState) (s : State) : State := s.onCst fun c => { c with rstate := r }

/-- A new round may be opened (R19, order 2). -/
def mayOpen (c : Cst) : Bool := c.rstate == .none || (c.rstate == .confirmed && decide (c.round < 4))

/-- The next round opens with a start list (R19): the reference gate is cleared, and the light goes from DARK to RED. -/
def openWith (list : List Nat) (s : State) : State :=
  let s := s.onCst fun c => { c with round := c.round + 1, rstate := .opened, startList := list }
  updateLight (afterHeadChange (s.onGate fun g => { g with reference := none }))

/-- The parameters do not fit the source: EMPTY carries no Q, and FROM_RANKING carries one (R19, order 1). -/
def sourceMisfit (source : Nat) (q : Option Nat) : Bool := (source == 0 && q.isSome) || (source == 1 && q.isNone)

/-- OPEN ROUND (R19, R138). -/
def serveOpenRound (source : Nat) (q : Option Nat) (s : State) : Served :=
  if sourceMisfit source q then refuse .length s
  else if !(mayOpen s.cst) then refuse .state s
  else if s.prof.writing.isSome then refuse .busy s
  else
    match source, q with
    | 0, _ => done (openWith [] s)
    | 1, some n =>
      if within 1 80 n then
        let list := fromRanking s.cst.directory s.scr.ranking n
        if 80 < list.length then refuse .full s else done (openWith list s)
      else refuse .range s
    | _, _ => refuse .range s

/-- OPEN_ROUND (R19). -/
def execOpenRound (tag : Byte) (source : Nat) (q : Option Nat) (s : State) : Host.Outcome State Fault Refusal :=
  request (.openRound tag source q) (serveOpenRound source q) s

/-- CONFIRM ROUND (R20). -/
def serveConfirmRound (s : State) : Served :=
  if s.cst.rstate = .ended then done (updateLight (setRoundState .confirmed s)) else refuse .state s

/-- CONFIRM_ROUND (R20). -/
def execConfirmRound (tag : Byte) (s : State) : Host.Outcome State Fault Refusal :=
  request (.confirmRound tag) serveConfirmRound s

/-- The attempt in WAITING or CLEARED is voided (R21). -/
def voidAtBar (s : State) : State :=
  match atBar? s with
  | some a => voidAttempt a s
  | none => s

/-- SUSPEND ROUND (R21). -/
def serveSuspendRound (s : State) : Served :=
  if s.cst.rstate ≠ .opened then refuse .state s
  else if (onHill? s).any fun a => a.state == .inRun || a.state == .flight then refuse .state s
  else done (updateLight (setRoundState .suspended (dropHeldArm .suspend (voidAtBar s))))

/-- SUSPEND_ROUND (R21). -/
def execSuspendRound (tag : Byte) (s : State) : Host.Outcome State Fault Refusal :=
  request (.suspendRound tag) serveSuspendRound s

/-- RESUME ROUND (R22). -/
def serveResumeRound (s : State) : Served :=
  if s.cst.rstate = .suspended then done (endCheck (setRoundState .opened s)) else refuse .state s

/-- RESUME_ROUND (R22). -/
def execResumeRound (tag : Byte) (s : State) : Host.Outcome State Fault Refusal :=
  request (.resumeRound tag) serveResumeRound s

/-- The attempt becomes CANCELLED with its round (R23). -/
def cancelled (round : Nat) (a : Attempt) : Bool := a.round == round && a.state != .voided && a.state != .cancelled

/-- The bibs whose disqualification a cancelled round lifts (R23, R31). -/
def lapsedBibs (round : Nat) (as : List Attempt) : List Nat :=
  (as.filter fun a => a.round == round && a.state == .lapsed).map Attempt.bib

/-- CST's records after a CANCEL ROUND (R23). -/
def cancelRecords (c : Cst) : Cst :=
  { round := c.round - 1
    rstate := if c.round - 1 = 0 then .none else .confirmed
    startList := []
    directory := c.directory.map fun r =>
      { r with totals := r.totals.set (c.round - 1) none,
               disqualified := r.disqualified && !((lapsedBibs c.round c.attempts).contains r.bib) }
    attempts := c.attempts.map fun a => if cancelled c.round a then { a with state := .cancelled } else a }

/-- What MEAS and WLN had in flight for the round stops (R24, R101, R120). -/
def stopFlights (s : State) : State := dropWindow ((stopMeasuring s).onMeas fun m => { m with waits := [] })

/-- The return move that a cancelled attempt on the hill asks for (R58, R59). -/
def cancelledReturn (a : Option Attempt) (s : State) : State :=
  match a with
  | some x => coachReturn x s
  | none => s

/-- The ranking is rebuilt from the directory (R140). -/
def rebuildRanking (s : State) : State := s.onScr fun r => { r with ranking := rankingOf s.cst.directory }

/-- A CANCEL ROUND (R23, R24, R59, R140). -/
def cancelOpenRound (s : State) : State :=
  let round := s.cst.round
  let n := (s.cst.attempts.filter (cancelled round)).length
  let before := topTen s
  let jumper := onHill? s
  let s := stopFlights (s.onCst cancelRecords)
  let s := dropHeldArm .cancel (stopWindow (dropClear s))
  let s := updateLight (cancelledReturn jumper (afterHeadChange s))
  notify (.roundCancelled round n) (announceRanking before none (rebuildRanking s))

/-- CANCEL ROUND (R23). -/
def serveCancelRound (s : State) : Served :=
  if hasOpenRound s then done (cancelOpenRound s) else refuse .state s

/-- CANCEL_ROUND (R23). -/
def execCancelRound (tag : Byte) (s : State) : Host.Outcome State Fault Refusal :=
  request (.cancelRound tag) serveCancelRound s

/-! ## The start list (R25 to R28) -/

/-- A bib that is in the list already, or has an attempt of the open round that is neither VOIDED nor CANCELLED (R26). -/
def duplicateBib (s : State) (bib : Nat) : Bool :=
  s.cst.startList.contains bib || s.cst.attempts.any fun a => a.bib == bib && cancelled s.cst.round a

/-- The number of entries whose bibs are not in the directory. -/
def newBibs (s : State) (es : List Entry) : Nat := (es.filter fun e => (competitor? s e.bib).isNone).length

/-- An entry in the directory (R26): a new record, or a new name and nation for an old one. -/
def enterCompetitor (dir : List Competitor) (e : Entry) : List Competitor :=
  if dir.any fun c => c.bib == e.bib then
    dir.map fun c => if c.bib = e.bib then { c with name := e.name, nation := e.nation } else c
  else dir ++ [{ bib := e.bib, name := e.name, nation := e.nation, disqualified := false,
                 totals := List.replicate 4 none }]

/-- CST's records with entries added (R26): an ENDED round becomes OPEN. -/
def addToList (es : List Entry) (c : Cst) : Cst :=
  { c with startList := c.startList ++ es.map Entry.bib, directory := es.foldl enterCompetitor c.directory,
           rstate := if c.rstate = .ended then .opened else c.rstate }

/-- ADD ENTRIES (R26). -/
def serveAddEntries (es : List Entry) (s : State) : Served :=
  if !(within 1 4 es.length) then refuse .length s
  else if !(hasOpenRound s) then refuse .state s
  else if !(es.all entryOk) then refuse .range s
  else if es.any fun e => ((competitor? s e.bib).map Competitor.disqualified).getD false then refuse .state s
  else if ¬(es.map Entry.bib).Nodup ∨ (es.any fun e => duplicateBib s e.bib) = true then refuse .duplicate s
  else if 80 < placesHeld s + es.length ∨ 120 < s.cst.directory.length + newBibs s es then refuse .full s
  else done (afterHeadChange (s.onCst (addToList es)))

/-- ADD_ENTRIES (R26). -/
def execAddEntries (tag : Byte) (entries : List Entry) (s : State) : Host.Outcome State Fault Refusal :=
  request (.addEntries tag entries) (serveAddEntries entries) s

/-- WITHDRAW ENTRY (R27). -/
def serveWithdrawEntry (bib : Nat) (s : State) : Served :=
  if !(bibOk bib) then refuse .range s
  else if !(hasOpenRound s) then refuse .state s
  else if !(s.cst.startList.contains bib) then refuse .notFound s
  else
    let s := s.onCst fun c => { c with startList := c.startList.erase bib }
    done (endCheck (afterHeadChange s))

/-- WITHDRAW_ENTRY (R27). -/
def execWithdrawEntry (tag : Byte) (bib : Nat) (s : State) : Host.Outcome State Fault Refusal :=
  request (.withdrawEntry tag bib) (serveWithdrawEntry bib) s

/-- A bib inserted just before another one; at the tail where that one is not there. -/
def insertBefore (bib target : Nat) : List Nat → List Nat
  | [] => [bib]
  | b :: r => if b = target then bib :: b :: r else b :: insertBefore bib target r

/-- A bib moved before a target, or to the tail for target 0 (R28). -/
def moved (bib target : Nat) (l : List Nat) : List Nat :=
  if bib = target then l
  else if target = 0 then l.erase bib ++ [bib] else insertBefore bib target (l.erase bib)

/-- MOVE ENTRY (R28). -/
def serveMoveEntry (bib target : Nat) (s : State) : Served :=
  if !(bibOk bib) || 999 < target then refuse .range s
  else if !(hasOpenRound s) then refuse .state s
  else if !(s.cst.startList.contains bib) || (target != 0 && !(s.cst.startList.contains target)) then refuse .notFound s
  else done (afterHeadChange (s.onCst fun c => { c with startList := moved bib target c.startList }))

/-- MOVE_ENTRY (R28). -/
def execMoveEntry (tag : Byte) (bib target : Nat) (s : State) : Host.Outcome State Fault Refusal :=
  request (.moveEntry tag bib target) (serveMoveEntry bib target) s

end Sys2Proof.Machine
end

