-- ==== Sys2Proof/Machine/Scoreboard.lean ====
section
/-! DEFINITION. BRD's requests and events (09). The beginning of a frame and the stall timer's rule stand in BoardQueue.lean. -/

namespace Sys2Proof.Machine

/-- BOARD MESSAGE (R148). -/
def serveBoardMessage (line : Nat) (text : Text) (s : State) : Served :=
  if !(within 1 16 line) || !(text.all printable) then refuse .range s
  else
    let s := s.onBrd fun b => { b with messages := b.messages.set (line - 1) (text.take 32) }
    done (enqueue { field := .message, line } s)

/-- BOARD_MESSAGE (R148). -/
def execBoardMessage (tag : Byte) (line : Nat) (text : Text) (s : State) : Host.Outcome State Fault Refusal :=
  request (.boardMessage tag line text) (serveBoardMessage line text) s

/-- BOARD REFRESH (R149). -/
def serveBoardRefresh (s : State) : Served := done (enqueueAll (refreshKeys s.brd.messages) false s)

/-- BOARD_REFRESH (R149). -/
def execBoardRefresh (tag : Byte) (s : State) : Host.Outcome State Fault Refusal :=
  request (.boardRefresh tag) serveBoardRefresh s

/-- What BOARD STATUS reports (R150). -/
def boardReport (s : State) : BoardReport where
  queue := sendOrder s.brd.queue
  ready := s.brd.ready
  hasLine := hasLine s .boardReady
  stalled := s.brd.stalled
  stallTimer := s.brd.stallTimer.isSome
  sending := s.brd.sender.isSome

/-- BOARD STATUS (R150). -/
def serveBoardStatus (s : State) : Served := doneWith (.board (boardReport s)) s

/-- BOARD_STATUS (R150). -/
def execBoardStatus (tag : Byte) (s : State) : Host.Outcome State Fault Refusal :=
  request (.boardStatus tag) serveBoardStatus s

/-- The last byte of the frame has been sent (R145): IDLE, one BOARD_FRAME event, the pacing timer. -/
def frameEnded (s : State) : State :=
  match s.brd.sender with
  | some _ =>
    count .boardFrame (s.onBrd fun b => { b with sender := none, pacing := some s.prof.profile.hill.pacing })
  | none => s

/-- BOARD_FRAME_END (R145). -/
def execBoardFrameEnd (s : State) : Host.Outcome State Fault Refusal := command frameEnded s

/-- The pacing timer expires (R145). -/
def pacingExpired (s : State) : State := s.onBrd fun b => { b with pacing := none }

/-- PACING_EXPIRY (R145). -/
def execPacingExpiry (s : State) : Host.Outcome State Fault Refusal := command pacingExpired s

/-- The sensed level of BOARD_READY changes (R146). Without a line there is no such event. -/
def readyChanged (level : Bool) (s : State) : State :=
  if hasLine s .boardReady then setReady level (setOutside (lineOf s .boardReady) level s) else s

/-- BOARD_READY_CHANGE (R146, R147). -/
def execBoardReadyChange (level : Bool) (s : State) : Host.Outcome State Fault Refusal := command (readyChanged level) s

/-- The stall timer expires (R147): STALLED, BOARD_STALL with the queue length, a BOARD notice of kind STALL. -/
def stallExpired (s : State) : State :=
  if s.brd.stallTimer.isSome then
    let n := s.brd.queue.length
    let s := s.onBrd fun b => { b with stallTimer := none, stalled := true }
    notify (.boardStall n) (reportFault .boardStall n s)
  else s

/-- STALL_TIMER_EXPIRY (R147). -/
def execStallTimerExpiry (s : State) : Host.Outcome State Fault Refusal := command stallExpired s

end Sys2Proof.Machine
end

