-- ==== Sys2Proof/Machine/Diagnostics.lean ====
section
/-! DEFINITION. LINK's and DIAG's requests (10): cursors, clock, notices, link settings, counters, the fault capture. -/

namespace Sys2Proof.Machine

/-! ## The cursors (R160, R161) -/

/-- SET CURSOR (R160). -/
def serveSetCursor (selector position mode : Nat) (s : State) : Served :=
  if 1 < mode then refuse .range s
  else
    match selector with
    | 0 =>
      if within 1 400 position then
        done (s.onLink fun l => { l with attemptCursor := { position, advance := mode == 1 } })
      else refuse .range s
    | 1 =>
      if within 1 120 position then
        done (s.onLink fun l => { l with rankCursor := { position, advance := mode == 1 } })
      else refuse .range s
    | _ => refuse .range s

/-- SET_CURSOR (R160). -/
def execSetCursor (tag : Byte) (selector position mode : Nat) (s : State) : Host.Outcome State Fault Refusal :=
  request (.setCursor tag selector position mode) (serveSetCursor selector position mode) s

/-- A cursor after a read: with mode ADVANCE its position rises by one (R161). -/
def Cursor.next (c : Cursor) : Cursor := if c.advance then { c with position := c.position + 1 } else c

/-- The entry of the ranking at a position (R161). -/
def rankRecord (s : State) (p : Nat) : Option RankRecord := do
  let b ← s.scr.ranking[p - 1]?
  let c ← findBib s.cst.directory b
  some { bib := b, rank := rankOf s.cst.directory s.scr.ranking c, total := rankingTotal c,
         disqualified := c.disqualified, name := c.name, nation := c.nation, totals := c.totals }

/-- READ AT CURSOR (R161). -/
def serveReadAtCursor (selector : Nat) (s : State) : Served :=
  match selector with
  | 0 =>
    match attempt? s s.link.attemptCursor.position with
    | some a =>
      doneWith (.cursorAttempt s.link.attemptCursor.position a)
        (s.onLink fun l => { l with attemptCursor := l.attemptCursor.next })
    | none => refuse .notFound s
  | 1 =>
    match rankRecord s s.link.rankCursor.position with
    | some r =>
      doneWith (.cursorRank s.link.rankCursor.position r) (s.onLink fun l => { l with rankCursor := l.rankCursor.next })
    | none => refuse .notFound s
  | _ => refuse .range s

/-- READ_AT_CURSOR (R161). -/
def execReadAtCursor (tag : Byte) (selector : Nat) (s : State) : Host.Outcome State Fault Refusal :=
  request (.readAtCursor tag selector) (serveReadAtCursor selector) s

/-! ## Clock, notices, link settings (R159, R158, R153) -/

/-- SET CLOCK (R159). -/
def serveSetClock (time : Nat) (s : State) : Served :=
  if 86399999 < time then refuse .range s
  else done (s.onLink fun l => { l with clock := time, clockSet := true })

/-- SET_CLOCK (R159). -/
def execSetClock (tag : Byte) (time : Nat) (s : State) : Host.Outcome State Fault Refusal :=
  request (.setClock tag time) (serveSetClock time) s

/-- SET NOTICES (R158). -/
def serveSetNotices (mask : BitVec 16) (s : State) : Served := done (s.onLink fun l => { l with mask })

/-- SET_NOTICES (R158). -/
def execSetNotices (tag : Byte) (mask : BitVec 16) (s : State) : Host.Outcome State Fault Refusal :=
  request (.setNotices tag mask) (serveSetNotices mask) s

/-- The request in hand carries new link settings (R153). -/
def withChange (rate : Nat) (brk : Bool) (h : InHand) : InHand := { h with change := some (rate, brk) }

/-- SET LINK (R153): the settings take effect when the last byte of the reply has been sent. -/
def serveSetLink (rate setting : Nat) (s : State) : Served :=
  if 3 < rate ∨ 1 < setting then refuse .range s
  else done (s.onLink fun l => { l with inHand := l.inHand.map (withChange rate (setting == 1)) })

/-- SET_LINK (R153). -/
def execSetLink (tag : Byte) (rate breakSetting : Nat) (s : State) : Host.Outcome State Fault Refusal :=
  request (.setLink tag rate breakSetting) (serveSetLink rate breakSetting) s

/-! ## Event counters and the fault capture (R162, R163) -/

/-- The counted kinds by their codes 0..15 (R162). -/
def counterKinds : List CounterKind :=
  [.none, .windGood, .windMiss, .windBad, .noiseByte, .linkBad, .boardFrame, .boardDrop,
   .leaveStray, .cellStray, .gateStray, .markStray, .markBad, .windDelay, .greenGiven, .attemptLapsed]

/-- SELECT COUNTER (R162). -/
def serveSelectCounter (n kind qualifier : Nat) (s : State) : Served :=
  if 1 < qualifier then refuse .range s
  else
    match n, counterKinds[kind]? with
    | 0, some k => done (s.onDiag fun d => { d with counter0 := { kind := k, openOnly := qualifier == 1, value := 0 } })
    | 1, some k => done (s.onDiag fun d => { d with counter1 := { kind := k, openOnly := qualifier == 1, value := 0 } })
    | _, _ => refuse .range s

/-- SELECT_COUNTER (R162). -/
def execSelectCounter (tag : Byte) (counter kind qualifier : Nat) (s : State) : Host.Outcome State Fault Refusal :=
  request (.selectCounter tag counter kind qualifier) (serveSelectCounter counter kind qualifier) s

/-- READ COUNTERS (R162). -/
def serveReadCounters (s : State) : Served := doneWith (.counters s.diag.counter0 s.diag.counter1) s

/-- READ_COUNTERS (R162). -/
def execReadCounters (tag : Byte) (s : State) : Host.Outcome State Fault Refusal :=
  request (.readCounters tag) serveReadCounters s

/-- READ FAULT (R163): the capture goes back and is then emptied, and the second-fault count becomes 0. -/
def serveReadFault (s : State) : Served :=
  doneWith (.fault s.diag.capture s.diag.seconds) (s.onDiag fun d => { d with capture := none, seconds := 0 })

/-- READ_FAULT (R163). -/
def execReadFault (tag : Byte) (s : State) : Host.Outcome State Fault Refusal := request (.readFault tag) serveReadFault s

/-! ## A kind not in the request table (R155) -/

/-- An unknown kind is refused with UNKNOWN. -/
def serveUnknownKind (s : State) : Served := refuse .unknown s

/-- UNKNOWN_KIND (R155). -/
def execUnknownKind (tag : Byte) (kind : Byte) (s : State) : Host.Outcome State Fault Refusal :=
  request (.unknownKind tag kind) serveUnknownKind s

end Sys2Proof.Machine
end

