-- ==== Sys2Proof/Machine/Reset.lean ====
section
/-! DEFINITION. RESTART (R164) and hard reset (R165), with the load check and the application of the profile (R10). -/

namespace Sys2Proof.Machine

/-! ## RESTART -/

/-- GATE at RESTART (R71): a motion stops to UNKNOWN; the jury gate is kept, the reference gate becomes absent. -/
def restartGate (g : Gate) : Gate where
  state := if g.state.motion then .unknown else g.state
  current := if g.state.motion then none else g.current
  target := none
  kind := none
  jury := g.jury
  reference := none
  lastDir := none
  corrected := false
  returnWaiting := false
  stepTimer := none
  settleTimer := none
  homeTimer := none

/-- MEAS at RESTART (R105): the consoles carry on. -/
def restartMeas (m : Meas) : Meas :=
  { m with trap := .off, trapAttempt := none, interval := 0, trapTimer := none, markLimit := none, waits := [] }

/-- BRD at RESTART (R151): the queue is refilled with blank items, the subjects and message lines are cleared. -/
def restartBoard (s : State) : State :=
  let keys := refreshKeys s.brd.messages
  let s := s.onBrd fun b => { b with queue := [], subjects := noSubjects, messages := List.replicate 16 [] }
  enqueueAll keys true s

/-- LINK at RESTART (R152, R161): the cursors to 1, HOLD. -/
def restartLink (l : Link) : Link := { l with attemptCursor := cursorReset, rankCursor := cursorReset }

/-- Every block takes its RESTART value (R164); the light becomes DARK with one LIGHT notice when it was not (R59). -/
def restartEffect (s : State) : State :=
  let s := (s.onCst fun _ => cstReset).onStc fun c => { stcReset with light := c.light }
  let s := ((s.onGate restartGate).onMeas restartMeas).onScr fun _ => { ranking := [] }
  let s := (dropWindow s).onLink restartLink
  setLight .dark (restartBoard s)

/-- RESTART (R164). -/
def serveRestart (s : State) : Served := done (restartEffect s)

/-- RESTART (R164). -/
def execRestart (tag : Byte) (s : State) : Host.Outcome State Fault Refusal := request (.restart tag) serveRestart s

/-! ## Hard reset -/

/-- The image passes the load check (R10). -/
def loadPasses (i : Image) : Bool := i.crcMatches && rangesOk i.profile && crossChecks i.profile

/-- The profile in use after the load check (R10). -/
def loadedProfile (i : Image) : Profile := if loadPasses i then i.profile else defaultProfile

/-- PROFILE_CHECK's detail: 1 for a CRC mismatch, 2 for a content failure (R10, R163). -/
def loadDetail (i : Image) : Nat := if i.crcMatches then 2 else 1

/-- The fault capture after the load check (R10). -/
def loadCapture (i : Image) : Option Capture :=
  if loadPasses i then none else some { kind := .profileCheck, detail := loadDetail i, time := 0 }

/-- Every block at its hard reset values, with the profile loaded, before it is applied (R1, R10, R165). What stands outside the
part, the image, the free values' counter and the waiting commands carry over. -/
def freshState (s : State) : State where
  prof := { profile := loadedProfile s.prof.image, image := s.prof.image, valid := loadPasses s.prof.image,
            unsaved := false, writing := none }
  fld := { outside := s.fld.outside, written := 0#16, leave := { level := false, timer := none, stamp := none },
           stop := { level := true, timer := none, stamp := none } }
  cst := cstReset
  stc := stcReset
  gate := gateReset (!(driveComplete (loadedProfile s.prof.image).lines))
  wln := wlnReset
  meas := measReset (loadedProfile s.prof.image).hill.consoleBInUse
  scr := { ranking := [] }
  brd := brdReset false
  link := linkReset
  diag := { counter0 := counterReset, counter1 := counterReset, capture := loadCapture s.prof.image, seconds := 0 }
  freeCtr := s.freeCtr
  pending := s.pending

/-- The profile is applied to the lines and the board's ready level (R10, R12, R13, R141). -/
def applyProfile (s : State) : State :=
  let s := s.onFld fun f => { f with written := writtenAfter [] s.prof.profile.lines f.written }
  let s := startDebounce .juryStop (startDebounce .leave s)
  s.onBrd fun b => { b with ready := readyLevel s }

/-- WLN begins polling at cycle number 0 if a slot is present (R10, R72). -/
def beginPolling (s : State) : State := if anyPollable s then beginCycle 0 s else s

/-- A hard reset (R165). RESET_DONE is queued with sequence number 0. -/
def hardReset (cause : ResetCause) (s : State) : State :=
  let s := beginPolling (applyProfile (freshState s))
  notify (.resetDone cause s.prof.valid) s

/-- HARD_RESET (R165). The receiver and transmitter start at this moment: RESET_DONE stands in the queue, and its sending begins
with what comes next (R152, log 9). -/
def execHardReset (cause : ResetCause) (s : State) : Host.Outcome State Fault Refusal := .next (hardReset cause s)

end Sys2Proof.Machine
end

