-- ==== Sys2Proof/Machine/Wire.lean ====
section
/-! DEFINITION. The bytes of the frames (10, section 10.13): control frame and CRC, replies, notices, wind polls, board frames.
What the encoding rules leave open is in log 17. -/

namespace Sys2Proof.Machine

/-! ## The control frame and its CRC (R154) -/

/-- One bit of the CRC, most significant bit first, with the polynomial x^16 + x^12 + x^5 + 1. -/
def crcBit (crc : BitVec 16) : BitVec 16 := if crc.msb then (crc <<< 1) ^^^ 0x1021#16 else crc <<< 1

/-- One byte of the CRC. -/
def crcByte (crc : BitVec 16) (b : Byte) : BitVec 16 :=
  (List.range 8).foldl (fun c _ => crcBit c) (crc ^^^ ((b.zeroExtend 16) <<< 8))

/-- The CRC of bytes: initial value 0xFFFF, no final inversion (R154). -/
def crc (bs : List Byte) : BitVec 16 := bs.foldl crcByte 0xFFFF#16

/-- The control frame of a body: lead, length, body, CRC. -/
def controlFrame (body : List Byte) : List Byte :=
  0xA7#8 :: byte body.length :: (body ++ be16 (crc (byte body.length :: body)).toNat)

/-! ## Fields -/

/-- An optional field: a presence byte, and the value's bytes when it is present. -/
def optional {α : Type} (f : α → List Byte) : Option α → List Byte
  | some a => 1 :: f a
  | none => [0]

/-- A list: a count byte and the members. -/
def counted {α : Type} (f : α → List Byte) (l : List α) : List Byte := byte l.length :: l.flatMap f

/-- A yes/no field. -/
def yesNo (b : Bool) : List Byte := [if b then 1 else 0]

/-- A one-byte field. -/
def one (n : Nat) : List Byte := [byte n]

/-! ## Codes of named values -/

/-- The light states in the order of R39. -/
def lightCode : Light → Byte
  | .dark => 0
  | .red => 1
  | .amber => 2
  | .green => 3
  | .greenWarn => 4

/-- The attempt states in the order of R32. -/
def attemptStateCode : AttemptState → Byte
  | .waiting => 0
  | .cleared => 1
  | .inRun => 2
  | .flight => 3
  | .scoring => 4
  | .complete => 5
  | .lapsed => 6
  | .voided => 7
  | .cancelled => 8

/-- The on-hill end causes in the order of R32. -/
def endCauseCode : EndCause → Byte
  | .mark => 0
  | .limit => 1

/-- The wind statuses named in R32, in its order. -/
def windStatusCode : WindStatus → Byte
  | .sampling => 0
  | .computed => 1
  | .absent => 2
  | .jury => 3

/-- The distance statuses in the order of R32. -/
def distanceStatusCode : DistanceStatus → Byte
  | .none => 0
  | .pendingSecond => 1
  | .agreed => 2
  | .single => 3
  | .held => 4
  | .missing => 5
  | .jury => 6

/-- The style statuses in the order of R32. -/
def styleCode : StyleStatus → Byte
  | .opened => 0
  | .full => 1
  | .closed4 => 2

/-- The move kinds in the order of R60. -/
def moveKindCode : MoveKind → Byte
  | .move => 0
  | .coach => 1
  | .ret => 2
  | .home => 3

/-- The poll states in the order of R72. -/
def pollCode : PollState → Byte
  | .stopped => 0
  | .inCycle => 1
  | .between => 2
  | .paused => 3

/-- The line test states in the order of R72. -/
def testStateCode : TestState → Byte
  | .idle => 0
  | .waitingExchange => 1
  | .listening _ _ | .watching => 2

/-- The line test results in the order of R92. -/
def testResultCode : TestResult → Byte
  | .normal => 0
  | .opened => 1
  | .short => 2
  | .noise => 3

/-- The station states in the order of R82. -/
def stationStateCode : StationState → Byte
  | .unknown => 0
  | .online => 1
  | .suspect => 2
  | .offline => 3
  | .disabled => 4

/-- The station statuses (10, section 10.13). -/
def stationStatusCode : StationStatus → Byte
  | .ok => 0
  | .heaterFault => 1
  | .iced => 2

/-- The console states in the order of R105. -/
def consoleStateCode : ConsoleState → Byte
  | .active => 0
  | .silent => 1
  | .disabled => 2

/-- The consoles by the ids of their records (10, section 10.13). -/
def consoleCode : Console → Byte
  | .a => 0x41
  | .b => 0x42

/-- The causes of a dropped arm in the order of R44. -/
def dropCauseCode : DropCause → Byte
  | .stop => 0
  | .juryStop => 1
  | .gateFault => 2
  | .suspend => 3
  | .cancel => 4
  | .listEmpty => 5
  | .roundState => 6

/-- The device faults by their codes (R163). -/
def faultKindCode : FaultKind → Byte
  | .profileCheck => 1
  | .storeWrite => 2
  | .gateDrive => 3
  | .gateHomeLost => 4
  | .lineJam => 5
  | .boardStall => 6

/-- The reporting blocks by their codes (R163). -/
def faultBlockCode : FaultKind → Byte
  | .profileCheck | .storeWrite => 1
  | .gateDrive | .gateHomeLost => 5
  | .lineJam => 6
  | .boardStall => 9

/-- The counted kinds by their codes (R162). -/
def counterKindCode (k : CounterKind) : Byte :=
  match k with
  | .none => 0
  | .windGood => 1
  | .windMiss => 2
  | .windBad => 3
  | .noiseByte => 4
  | .linkBad => 5
  | .boardFrame => 6
  | .boardDrop => 7
  | .leaveStray => 8
  | .cellStray => 9
  | .gateStray => 10
  | .markStray => 11
  | .markBad => 12
  | .windDelay => 13
  | .greenGiven => 14
  | .attemptLapsed => 15

/-- The board fields by their codes (R142). -/
def boardFieldCode : BoardField → Byte
  | .light => 1
  | .countdown => 2
  | .jumper => 3
  | .gate => 4
  | .wind => 5
  | .speed => 6
  | .distance => 7
  | .marks => 8
  | .points => 9
  | .rank => 10
  | .message => 11
  | .top => 12

/-- The reply codes by their values (R156). -/
def replyCode : ReplyCode → Byte
  | .done => 0x00
  | .accepted => 0x01
  | .busy => 0x02
  | .state => 0x03
  | .locked => 0x04
  | .range => 0x05
  | .full => 0x06
  | .notFound => 0x07
  | .duplicate => 0x08
  | .noProfile => 0x09
  | .unknown => 0x0A
  | .length => 0x0B

/-- Validity, in the order VALID, INVALID of R1. -/
def validityCode (valid : Bool) : Byte := if valid then 0 else 1

/-- The causes of a reset (R165). -/
def resetCauseCode : ResetCause → Byte
  | .power => 0
  | .line => 1

/-- The function code of a line (R12; 10, section 10.13). -/
def functionCode (f : LineFunction) : Byte := byte (functionTable.idxOf f)

/-- The mode code of a line (10, section 10.13). -/
def modeCode (m : LineMode) : Byte := byte (modeTable.idxOf m)

/-! ## Reply data -/

/-- A console mark: raw coordinate, edit count, D (R32). -/
def markBytes (m : ConsoleMark) : List Byte := be16 m.raw ++ one m.edit ++ be16 m.d

/-- The flags of an attempt that are set, as a set numbered in the order of R32. -/
def flagBytes (a : Attempt) : List Byte :=
  counted (fun n => one n)
    ((if a.earlyLeave then [0] else []) ++ (if a.manualLeave then [1] else []) ++ if a.juryStopped then [2] else [])

/-- An attempt record, field by field in the order of R32. -/
def attemptBytes (a : Attempt) : List Byte :=
  be16 a.number ++ one a.round ++ be16 a.bib ++ [attemptStateCode a.state] ++ optional one a.coach
    ++ optional one a.juryGate ++ optional one a.attemptGate ++ optional be32 a.greenTime ++ optional be32 a.leaveTime
    ++ optional be32 a.takeoffTime ++ optional (fun c => [endCauseCode c]) a.endCause ++ optional be16 a.speed
    ++ counted sbe16 a.samples ++ optional (fun w => [windStatusCode w]) a.windStatus ++ optional sbe16 a.wind
    ++ optional markBytes a.markA ++ optional markBytes a.markB ++ optional be16 a.distance
    ++ [distanceStatusCode a.distanceStatus] ++ a.marks.flatMap (optional one) ++ [styleCode a.style]
    ++ optional be16 (a.points.map Points.pD) ++ optional be16 (a.points.map Points.pS)
    ++ optional sbe16 (a.points.map Points.pG) ++ optional sbe16 (a.points.map Points.pW)
    ++ optional be32 (a.points.map Points.total) ++ counted (fun f => [Config.faultCode f]) a.faults ++ flagBytes a

/-- A station slot (R5). -/
def slotBytes (x : StationSlot) : List Byte :=
  one x.address ++ be16 x.bearing ++ one ((if x.gating then 1 else 0) + if x.scoring then 2 else 0)

/-- A station record as STATION STATUS gives it (R87): 1 for fresh and 0 for held, 1 for a flag that is set (log 17). -/
def stationBytes (address : Nat) (st : Station) (fresh : Bool) : List Byte :=
  one address ++ [stationStateCode st.state] ++ optional be16 (st.reading.map Reading.speed)
    ++ optional be16 (st.reading.map Reading.direction)
    ++ optional (fun x => [stationStatusCode x]) (st.reading.map Reading.status)
    ++ optional sbe16 (st.reading.map Reading.t) ++ optional be32 (st.reading.map Reading.time)
    ++ optional be32 (st.reading.map Reading.age) ++ yesNo fresh ++ one st.misses ++ be16 st.replies ++ be16 st.missCount
    ++ be16 st.badCount ++ yesNo st.latch ++ yesNo st.clamped

/-- What READ WIND reports (R93): 1 for fresh and 0 for stale, and of the two counts the gating role's first (log 17). -/
def windBytes (w : WindReport) : List Byte :=
  optional sbe16 w.gating ++ optional be32 w.gatingTime ++ yesNo w.fresh ++ optional sbe16 w.scoring ++ one w.nGating
    ++ one w.nScoring ++ [pollCode w.poll] ++ be16 w.cycle ++ yesNo w.inverted ++ yesNo w.autoSwap ++ one w.contention
    ++ one w.noise ++ [testStateCode w.test]
    ++ optional (fun r : TestResult × Option Nat => testResultCode r.1 :: optional be16 r.2) w.lastTest

/-- An item of the board queue as BOARD STATUS gives it (R150). -/
def itemBytes (i : BoardItem) : List Byte := boardFieldCode i.key.field :: (one i.key.line ++ yesNo i.blank)

/-- What BOARD STATUS reports (R150): one byte is both the queue length and the list's count, and a ready level that is active is
1 (log 17). -/
def boardBytes (b : BoardReport) : List Byte :=
  counted itemBytes b.queue ++ yesNo b.ready ++ yesNo b.hasLine ++ yesNo b.stalled ++ yesNo b.stallTimer ++ yesNo b.sending

/-- An entry of the ranking as READ AT CURSOR gives it (R161). -/
def rankBytes (r : RankRecord) : List Byte :=
  be16 r.bib ++ optional one r.rank ++ be32 r.total ++ yesNo r.disqualified ++ textField r.name ++ r.nation
    ++ r.totals.flatMap (optional be32)

/-- A counter as READ COUNTERS gives it (R162). -/
def counterBytes (c : Counter) : List Byte := counterKindCode c.kind :: (yesNo c.openOnly ++ be32 c.value)

/-- The record in the fault capture (R163). -/
def captureBytes (c : Capture) : List Byte :=
  faultKindCode c.kind :: faultBlockCode c.kind :: (one c.detail ++ be32 c.time)

/-- The reply data of a reply. READ COUNTERS gives counter 0 whole and then counter 1 (log 17). -/
def dataBytes : ReplyData → List Byte
  | .none => []
  | .hill h => hillBytes h
  | .slot s => optional slotBytes s
  | .survey s => counted (fun p : SurveyPoint => be16 p.raw ++ be32 p.mm) (s.getD [])
  | .lines l => l.flatMap fun a => [functionCode a.fn, modeCode a.mode]
  | .profileState valid unsaved writing loaded =>
    validityCode valid :: (yesNo unsaved ++ yesNo writing ++ yesNo loaded)
  | .levels sensed leave stop => sensed.flatMap yesNo ++ optional yesNo leave ++ optional yesNo stop
  | .attempt a => attemptBytes a
  | .station address st fresh => stationBytes address st fresh
  | .wind w => windBytes w
  | .board b => boardBytes b
  | .cursorAttempt p a => be16 p ++ attemptBytes a
  | .cursorRank p r => be16 p ++ rankBytes r
  | .counters c0 c1 => counterBytes c0 ++ counterBytes c1
  | .fault c n => optional captureBytes c ++ one n

/-- The body of a reply (R156): kind, tag, code, status byte, data. -/
def replyBody (r : Reply) (status : BitVec 8) : List Byte :=
  r.kind :: r.tag :: replyCode r.code :: status :: dataBytes r.data

/-! ## Notices -/

/-- The subkind of a notice (10, section 10.6). -/
def NoticeBody.subkind : NoticeBody → Byte
  | .roundCancelled .. => 1
  | .armDropped .. => 2
  | .attemptComplete again .. => if again then 1 else 0
  | .gateDone .. => 1
  | .gateFault .. => 2
  | .boardResumed .. => 1
  | .profileStored failed => if failed then 1 else 0
  | .light .. | .stateChange .. | .attemptFaults .. | .distanceHeld .. | .markStray .. | .windWait .. | .station ..
  | .polarity .. | .gateBegun .. | .lineTest .. | .console .. | .boardStall .. | .counterOverflow .. | .resetDone .. => 0

/-- The fields of a notice, in the order that its rule names them. ATTEMPT_COMPLETE has no presence byte for D and one for the rank
(log 17). -/
def NoticeBody.fields : NoticeBody → List Byte
  | .light old new a => lightCode old :: lightCode new :: optional be16 a
  | .stateChange a round bib old new =>
    be16 a ++ one round ++ be16 bib ++ optional (fun x => [attemptStateCode x]) old ++ [attemptStateCode new]
  | .roundCancelled round n => one round ++ be16 n
  | .armDropped cause => [dropCauseCode cause]
  | .attemptFaults a bib cause faults =>
    be16 a ++ be16 bib ++ [endCauseCode cause] ++ counted (fun f => [Config.faultCode f]) faults
  | .attemptComplete _ a round bib d p total rank =>
    be16 a ++ one round ++ be16 bib ++ be16 (d.getD 0) ++ be16 p.pD ++ be16 p.pS ++ sbe16 p.pG ++ sbe16 p.pW
      ++ be32 p.total ++ be32 total ++ optional one rank
  | .distanceHeld a bib da db => be16 a ++ be16 bib ++ be16 da ++ be16 db
  | .markStray c bib raw edit => consoleCode c :: (be16 bib ++ be16 raw ++ one edit)
  | .windWait a mean => be16 a ++ optional sbe16 mean
  | .station k address old new misses =>
    one k ++ one address ++ [stationStateCode old, stationStateCode new] ++ one misses
  | .polarity inverted => yesNo inverted
  | .gateBegun kind current target jury =>
    moveKindCode kind :: (optional one current ++ optional one target ++ optional one jury)
  | .gateDone kind current jury => moveKindCode kind :: (optional one current ++ optional one jury)
  | .gateFault kind last => faultKindCode kind :: optional one last
  | .lineTest result distance n => testResultCode result :: (optional be16 distance ++ be16 n)
  | .console c old new => [consoleCode c, consoleStateCode old, consoleStateCode new]
  | .boardStall n => one n
  | .boardResumed n => one n
  | .profileStored _ => []
  | .counterOverflow n kind => one n ++ [counterKindCode kind]
  | .resetDone cause valid => [resetCauseCode cause, validityCode valid]

/-- The body of a notice: kind, sequence number, subkind, hill-clock time, fields. -/
def noticeBody (n : Notice) : List Byte :=
  (0xC0#8 + byte n.body.group) :: n.seq :: n.body.subkind :: (be32 n.time ++ n.body.fields)

/-- The bytes of the frame that the transmitter is sending. -/
def txBytes : Tx → List Byte
  | .idle | .brk => []
  | .reply r status => controlFrame (replyBody r status)
  | .notice n => controlFrame (noticeBody n)

/-! ## The wind line and the board line -/

/-- The byte that makes a sum 0 modulo 256. -/
def sumCheck (bs : List Byte) : Byte := 0#8 - bs.sum

/-- The poll of an address (R75). -/
def pollBytes (address : Nat) : List Byte := [0xD0#8, byte address, sumCheck [0xD0#8, byte address]]

/-- A board frame (R145): field code, line index, text, check. -/
def frameBytes (f : BoardFrame) : List Byte :=
  let inner := boardFieldCode f.key.field :: byte f.key.line :: byte f.text.length :: (f.text ++ [0x03#8])
  0x02#8 :: (inner ++ [inner.foldl (fun x b => x ^^^ b) 0])

end Sys2Proof.Machine
end

