-- ==== Sys2Proof/Machine/Link.lean ====
section
/-! DEFINITION. LINK's receiver, its input buffer and the ends of its frames (R153, R154, R155, R157). -/

namespace Sys2Proof.Machine

/-! ## Taking requests (R155) -/

/-- The block that owns a request serves it. A command that is no request is none here. -/
def serve : Instr → State → Served
  | .setHill _ h => serveSetHill h
  | .setStation _ k presence address bearing roles => serveSetStation k presence address bearing roles
  | .setSurvey _ points => serveSetSurvey points
  | .setLines _ codes => serveSetLines codes
  | .storeProfile _ => serveStoreProfile
  | .readProfile _ selector k => serveReadProfile selector k
  | .writeLine _ line level => serveWriteLine line level
  | .readLines _ => serveReadLines
  | .openRound _ source q => serveOpenRound source q
  | .addEntries _ es => serveAddEntries es
  | .withdrawEntry _ bib => serveWithdrawEntry bib
  | .moveEntry _ bib target => serveMoveEntry bib target
  | .confirmRound _ => serveConfirmRound
  | .cancelRound _ => serveCancelRound
  | .suspendRound _ => serveSuspendRound
  | .resumeRound _ => serveResumeRound
  | .armNext _ => serveArmNext
  | .clear _ => serveClear
  | .hold _ => serveHold
  | .stop _ => serveStop
  | .markLeave _ => serveMarkLeave
  | .coachReduction _ bib k => serveCoachReduction bib k
  | .moveGate _ target => serveMoveGate target
  | .homeGate _ => serveHomeGate
  | .enterMark _ n judge mark => serveEnterMark n judge mark
  | .closeMarks _ n => serveCloseMarks n
  | .setDistance _ n d => serveSetDistance n d
  | .setWind _ n w => serveSetWind n w
  | .voidAttempt _ n => serveVoidAttempt n
  | .readAttempt _ n => serveReadAttempt n
  | .stationStatus _ k => serveStationStatus k
  | .disableStation _ k => serveDisableStation k
  | .enableStation _ k => serveEnableStation k
  | .lineTest _ => serveLineTest
  | .readWind _ => serveReadWind
  | .boardMessage _ line text => serveBoardMessage line text
  | .boardRefresh _ => serveBoardRefresh
  | .boardStatus _ => serveBoardStatus
  | .setCursor _ selector position mode => serveSetCursor selector position mode
  | .readAtCursor _ selector => serveReadAtCursor selector
  | .setClock _ time => serveSetClock time
  | .setNotices _ mask => serveSetNotices mask
  | .setLink _ rate setting => serveSetLink rate setting
  | .selectCounter _ n kind qualifier => serveSelectCounter n kind qualifier
  | .readCounters _ => serveReadCounters
  | .readFault _ => serveReadFault
  | .restart _ => serveRestart
  | .unknownKind _ _ => serveUnknownKind
  | .hardReset _ | .storeWriteEnd _
  | .debounceEdge _ _ | .debounceExpiry _ | .cellAEdge | .cellBEdge _ | .trapTimerExpiry | .indexPulse | .gateHomeActive _
  | .stepTimeout | .settleExpiry | .homeTimeout | .flashTimerExpiry | .warningPeriodReached | .countdownSecondChange
  | .startWindowExpiry | .carrierClear | .contentionMiss | .turnaroundEnd | .pollSent | .replyTimeout | .replyBegin _
  | .replyCharacter _ | .replyGapExpiry | .noiseByte _ | .cyclePeriodExpiry | .gatingMeanStale | .windDeferExpiry
  | .listenEnd | .echo _ _ | .echoWindowExpiry | .markRecord _ _ | .heartbeat _ _ | .recordGap _ _
  | .silenceTimerExpiry _ | .markLimitExpiry | .secondMarkWaitExpiry _ | .boardFrameEnd
  | .pacingExpiry | .boardReadyChange _ | .stallTimerExpiry | .frameReceived _ | .linkGap _ | .replySent | .noticeSent
  | .breakEnd | .controlByteDiscarded _ => refuse .unknown

/-- A decoded frame is served, or refused by LINK itself (R155). -/
def serveDecoded : Decoded → State → Served
  | .cmd i => serve i
  | .refuse _ _ code => refuse code

/-- A frame body becomes the request in hand and is served. -/
def takeBody (body : List Byte) (s : State) : State :=
  takeInHand (body.getD 0 0) (body.getD 1 0) (serveDecoded (decodeRequest body)) s

/-- When no request is in hand, LINK takes the oldest frame from the buffer (R155). -/
def takeNext (s : State) : State :=
  match s.link.inHand, s.link.buffer with
  | none, body :: rest => takeBody body (s.onLink fun l => { l with buffer := rest })
  | _, _ => s

/-! ## The receiver (R154) -/

/-- A frame is discarded with one LINK_BAD event. -/
def linkBad (s : State) : State := count .linkBad (s.onLink fun l => { l with asm := [] })

/-- A frame that passes its checks is received (R155). -/
def receive (body : List Byte) (s : State) : State := takeNext (joinBuffer body s)

/-- The checks of a complete frame, given as its bytes: lead, length, body, CRC (R154). -/
def frameOk (f : List RxChar) : Bool :=
  let bs := f.map RxChar.byte
  f.all (fun x => !x.framing) && bs.drop (bs.length - 2) == be16 (crc ((bs.take (bs.length - 2)).drop 1)).toNat

/-- A complete frame is judged. -/
def judgeFrame (f : List RxChar) (s : State) : State :=
  let bs := f.map RxChar.byte
  if frameOk f then receive ((bs.take (bs.length - 2)).drop 2) (s.onLink fun l => { l with asm := [] }) else linkBad s

/-- A byte comes in on the control link (R154). -/
def linkByte (s : State) (x : RxChar) : State :=
  match s.link.asm with
  | [] => if x.byte = 0xA7 then s.onLink fun l => { l with asm := [x] } else linkBad s
  | [lead] => if within 2 200 x.byte.toNat then s.onLink fun l => { l with asm := [lead, x] } else linkBad s
  | lead :: n :: rest =>
    let f := lead :: n :: (rest ++ [x])
    if f.length < n.byte.toNat + 4 then s.onLink fun l => { l with asm := f } else judgeFrame f s

/-- Bytes come in on the control link. -/
def linkBytes (xs : List RxChar) (s : State) : State := xs.foldl linkByte s

/-- FRAME_RECEIVED (R154, R155). -/
def execFrameReceived (chars : List RxChar) (s : State) : Host.Outcome State Fault Refusal := command (linkBytes chars) s

/-- CONTROL_BYTE_DISCARDED (R154). -/
def execControlByteDiscarded (c : RxChar) (s : State) : Host.Outcome State Fault Refusal :=
  command (fun s => linkByte s c) s

/-- A gap discards a partial frame, and the byte that ended it is judged afresh (R154). -/
def gapEnded (c : RxChar) (s : State) : State := linkByte (if s.link.asm = [] then s else linkBad s) c

/-- LINK_GAP (R154). -/
def execLinkGap (c : RxChar) (s : State) : Host.Outcome State Fault Refusal := command (gapEnded c) s

/-! ## The transmitter's ends (R153, R155, R157) -/

/-- The link settings of SET LINK take effect (R153). -/
def applyChange (change : Option (Nat × Bool)) (s : State) : State :=
  match change with
  | some (rate, brk) =>
    if s.link.rate = rate ∧ s.link.brk = brk then s
    else
      let s := s.onLink fun l => { l with rate := rate, brk := brk }
      if s.link.asm = [] then s else linkBad s
  | none => s

/-- The last byte of a reply has been sent (R155): new settings take effect, the request in hand is released, the next frame is
taken. -/
def replyEnded (s : State) : State :=
  match s.link.tx with
  | .reply _ _ =>
    let s := applyChange (s.link.inHand.bind InHand.change) s
    takeNext (s.onLink fun l => { l with tx := .idle, inHand := none })
  | .idle | .brk | .notice _ => s

/-- REPLY_SENT (R153, R155, R157). -/
def execReplySent (s : State) : Host.Outcome State Fault Refusal := command replyEnded s

/-- The last byte of a notice frame has been sent (R157). -/
def noticeEnded (s : State) : State :=
  match s.link.tx with
  | .notice _ => s.onLink fun l => { l with tx := .idle }
  | .idle | .brk | .reply _ _ => s

/-- NOTICE_SENT (R157). -/
def execNoticeSent (s : State) : Host.Outcome State Fault Refusal := command noticeEnded s

/-- The break ends (R157): the oldest notice leaves the queue and its sending begins. -/
def breakEnded (s : State) : State :=
  match s.link.tx with
  | .brk =>
    match s.link.notices with
    | n :: rest => s.onLink fun l => { l with tx := .notice n, notices := rest }
    | [] => s.onLink fun l => { l with tx := .idle }
  | .idle | .reply _ _ | .notice _ => s

/-- BREAK_END (R157). -/
def execBreakEnd (s : State) : Host.Outcome State Fault Refusal := command breakEnded s

end Sys2Proof.Machine
end

