-- ==== Sys2Proof/Machine/Dispatch.lean ====
section
/-! DEFINITION. The effect of a command: one arm per constructor of Instr. -/

namespace Sys2Proof.Machine

def exec (i : Instr) (s : State) : Host.Outcome State Fault Refusal :=
  match i with
  | .setHill tag h => Sys2Proof.Machine.execSetHill tag h s
  | .setStation tag slot presence address bearing roles => Sys2Proof.Machine.execSetStation tag slot presence address bearing roles s
  | .setSurvey tag points => Sys2Proof.Machine.execSetSurvey tag points s
  | .setLines tag codes => Sys2Proof.Machine.execSetLines tag codes s
  | .storeProfile tag => Sys2Proof.Machine.execStoreProfile tag s
  | .readProfile tag selector slot => Sys2Proof.Machine.execReadProfile tag selector slot s
  | .writeLine tag line level => Sys2Proof.Machine.execWriteLine tag line level s
  | .readLines tag => Sys2Proof.Machine.execReadLines tag s
  | .openRound tag source q => Sys2Proof.Machine.execOpenRound tag source q s
  | .addEntries tag entries => Sys2Proof.Machine.execAddEntries tag entries s
  | .withdrawEntry tag bib => Sys2Proof.Machine.execWithdrawEntry tag bib s
  | .moveEntry tag bib target => Sys2Proof.Machine.execMoveEntry tag bib target s
  | .confirmRound tag => Sys2Proof.Machine.execConfirmRound tag s
  | .cancelRound tag => Sys2Proof.Machine.execCancelRound tag s
  | .suspendRound tag => Sys2Proof.Machine.execSuspendRound tag s
  | .resumeRound tag => Sys2Proof.Machine.execResumeRound tag s
  | .armNext tag => Sys2Proof.Machine.execArmNext tag s
  | .clear tag => Sys2Proof.Machine.execClear tag s
  | .hold tag => Sys2Proof.Machine.execHold tag s
  | .stop tag => Sys2Proof.Machine.execStop tag s
  | .markLeave tag => Sys2Proof.Machine.execMarkLeave tag s
  | .coachReduction tag bib k => Sys2Proof.Machine.execCoachReduction tag bib k s
  | .moveGate tag target => Sys2Proof.Machine.execMoveGate tag target s
  | .homeGate tag => Sys2Proof.Machine.execHomeGate tag s
  | .enterMark tag attempt judge mark => Sys2Proof.Machine.execEnterMark tag attempt judge mark s
  | .closeMarks tag attempt => Sys2Proof.Machine.execCloseMarks tag attempt s
  | .setDistance tag attempt d => Sys2Proof.Machine.execSetDistance tag attempt d s
  | .setWind tag attempt w => Sys2Proof.Machine.execSetWind tag attempt w s
  | .voidAttempt tag attempt => Sys2Proof.Machine.execVoidAttempt tag attempt s
  | .readAttempt tag attempt => Sys2Proof.Machine.execReadAttempt tag attempt s
  | .stationStatus tag slot => Sys2Proof.Machine.execStationStatus tag slot s
  | .disableStation tag slot => Sys2Proof.Machine.execDisableStation tag slot s
  | .enableStation tag slot => Sys2Proof.Machine.execEnableStation tag slot s
  | .lineTest tag => Sys2Proof.Machine.execLineTest tag s
  | .readWind tag => Sys2Proof.Machine.execReadWind tag s
  | .boardMessage tag line text => Sys2Proof.Machine.execBoardMessage tag line text s
  | .boardRefresh tag => Sys2Proof.Machine.execBoardRefresh tag s
  | .boardStatus tag => Sys2Proof.Machine.execBoardStatus tag s
  | .setCursor tag selector position mode => Sys2Proof.Machine.execSetCursor tag selector position mode s
  | .readAtCursor tag selector => Sys2Proof.Machine.execReadAtCursor tag selector s
  | .setClock tag time => Sys2Proof.Machine.execSetClock tag time s
  | .setNotices tag mask => Sys2Proof.Machine.execSetNotices tag mask s
  | .setLink tag rate breakSetting => Sys2Proof.Machine.execSetLink tag rate breakSetting s
  | .selectCounter tag counter kind qualifier => Sys2Proof.Machine.execSelectCounter tag counter kind qualifier s
  | .readCounters tag => Sys2Proof.Machine.execReadCounters tag s
  | .readFault tag => Sys2Proof.Machine.execReadFault tag s
  | .restart tag => Sys2Proof.Machine.execRestart tag s
  | .unknownKind tag kind => Sys2Proof.Machine.execUnknownKind tag kind s
  | .hardReset cause => Sys2Proof.Machine.execHardReset cause s
  | .storeWriteEnd verified => Sys2Proof.Machine.execStoreWriteEnd verified s
  | .debounceEdge line level => Sys2Proof.Machine.execDebounceEdge line level s
  | .debounceExpiry line => Sys2Proof.Machine.execDebounceExpiry line s
  | .cellAEdge => Sys2Proof.Machine.execCellAEdge s
  | .cellBEdge interval => Sys2Proof.Machine.execCellBEdge interval s
  | .trapTimerExpiry => Sys2Proof.Machine.execTrapTimerExpiry s
  | .indexPulse => Sys2Proof.Machine.execIndexPulse s
  | .gateHomeActive active => Sys2Proof.Machine.execGateHomeActive active s
  | .stepTimeout => Sys2Proof.Machine.execStepTimeout s
  | .settleExpiry => Sys2Proof.Machine.execSettleExpiry s
  | .homeTimeout => Sys2Proof.Machine.execHomeTimeout s
  | .flashTimerExpiry => Sys2Proof.Machine.execFlashTimerExpiry s
  | .warningPeriodReached => Sys2Proof.Machine.execWarningPeriodReached s
  | .countdownSecondChange => Sys2Proof.Machine.execCountdownSecondChange s
  | .startWindowExpiry => Sys2Proof.Machine.execStartWindowExpiry s
  | .carrierClear => Sys2Proof.Machine.execCarrierClear s
  | .contentionMiss => Sys2Proof.Machine.execContentionMiss s
  | .turnaroundEnd => Sys2Proof.Machine.execTurnaroundEnd s
  | .pollSent => Sys2Proof.Machine.execPollSent s
  | .replyTimeout => Sys2Proof.Machine.execReplyTimeout s
  | .replyBegin first => Sys2Proof.Machine.execReplyBegin first s
  | .replyCharacter c => Sys2Proof.Machine.execReplyCharacter c s
  | .replyGapExpiry => Sys2Proof.Machine.execReplyGapExpiry s
  | .noiseByte c => Sys2Proof.Machine.execNoiseByte c s
  | .cyclePeriodExpiry => Sys2Proof.Machine.execCyclePeriodExpiry s
  | .gatingMeanStale => Sys2Proof.Machine.execGatingMeanStale s
  | .windDeferExpiry => Sys2Proof.Machine.execWindDeferExpiry s
  | .listenEnd => Sys2Proof.Machine.execListenEnd s
  | .echo positive count => Sys2Proof.Machine.execEcho positive count s
  | .echoWindowExpiry => Sys2Proof.Machine.execEchoWindowExpiry s
  | .markRecord console chars => Sys2Proof.Machine.execMarkRecord console chars s
  | .heartbeat console chars => Sys2Proof.Machine.execHeartbeat console chars s
  | .recordGap console c => Sys2Proof.Machine.execRecordGap console c s
  | .silenceTimerExpiry console => Sys2Proof.Machine.execSilenceTimerExpiry console s
  | .markLimitExpiry => Sys2Proof.Machine.execMarkLimitExpiry s
  | .secondMarkWaitExpiry attempt => Sys2Proof.Machine.execSecondMarkWaitExpiry attempt s
  | .boardFrameEnd => Sys2Proof.Machine.execBoardFrameEnd s
  | .pacingExpiry => Sys2Proof.Machine.execPacingExpiry s
  | .boardReadyChange level => Sys2Proof.Machine.execBoardReadyChange level s
  | .stallTimerExpiry => Sys2Proof.Machine.execStallTimerExpiry s
  | .frameReceived chars => Sys2Proof.Machine.execFrameReceived chars s
  | .linkGap c => Sys2Proof.Machine.execLinkGap c s
  | .replySent => Sys2Proof.Machine.execReplySent s
  | .noticeSent => Sys2Proof.Machine.execNoticeSent s
  | .breakEnd => Sys2Proof.Machine.execBreakEnd s
  | .controlByteDiscarded c => Sys2Proof.Machine.execControlByteDiscarded c s

end Sys2Proof.Machine
end

