-- ==== Sys2Proof/Machine/Time.lean ====
section
/-! DEFINITION. One millisecond passes: the clock, the ages and the running timers move, and the commands of what came due are put
in the queue (conventions, "Time"; R159; logs 1, 3, 7, 29). -/

namespace Sys2Proof.Machine

/-! ## Timers -/

/-- A timer one millisecond later. -/
def lessOne (t : Option Nat) : Option Nat := t.map fun n => n - 1

/-- A running timer comes to its end in this millisecond. -/
def runsOut : Option Nat → Bool
  | some n => n ≤ 1
  | none => false

/-- A command that comes due when a condition holds. -/
def dueIf (c : Bool) (i : Instr) : List Instr := if c then [i] else []

/-! ## What comes due -/

/-- STC's and FLD's timers (R13, R41, R50, R51). -/
def dueStart (s : State) : List Instr :=
  dueIf (runsOut s.fld.leave.timer) (.debounceExpiry .leave) ++ dueIf (runsOut s.fld.stop.timer) (.debounceExpiry .juryStop)
    ++ dueIf (runsOut s.stc.flashTimer) .flashTimerExpiry
    ++ match s.stc.window with
       | some r =>
         dueIf (decide (r - 1 ≤ s.prof.profile.hill.warning) && decide (s.prof.profile.hill.warning < r)
             && decide (0 < s.prof.profile.hill.warning)) .warningPeriodReached
           ++ dueIf (decide (1 < r) && decide (wholeSeconds (r - 1) < wholeSeconds r)) .countdownSecondChange
           ++ dueIf (decide (r ≤ 1)) .startWindowExpiry
       | none => []

/-- GATE's timers (R64, R65, R67). -/
def dueGate (s : State) : List Instr :=
  dueIf (runsOut s.gate.stepTimer) .stepTimeout ++ dueIf (runsOut s.gate.settleTimer) .settleExpiry
    ++ dueIf (runsOut s.gate.homeTimer) .homeTimeout

/-- The gating mean becomes stale by age in this millisecond (R97), by the freshness window in force: one that SET HILL has made
shorter than the age makes it stale at the next millisecond (log 33). -/
def turnsStale (s : State) : Bool :=
  s.wln.gating.value.isSome && !s.wln.gating.staleTaken && !s.wln.gating.staleQueued
    && decide (s.prof.profile.hill.freshness < s.wln.gating.age + 1)

/-- The 1 ms listen of a line test ends in this millisecond (R92). -/
def listenRunsOut : TestState → Bool
  | .listening r _ => r ≤ 1
  | .idle | .waitingExchange | .watching => false

/-- WLN's timers (R74 to R79, R92, R97, R98). -/
def dueWind (s : State) : List Instr :=
  dueIf (runsOut s.wln.carrierTimer) .contentionMiss ++ dueIf (runsOut s.wln.turnTimer) .turnaroundEnd
    ++ dueIf (runsOut s.wln.replyTimer) .replyTimeout ++ dueIf (runsOut s.wln.gapTimer) .replyGapExpiry
    ++ dueIf (runsOut s.wln.cycleTimer) .cyclePeriodExpiry ++ dueIf (turnsStale s) .gatingMeanStale
    ++ dueIf (runsOut s.wln.windHold) .windDeferExpiry ++ dueIf (listenRunsOut s.wln.test) .listenEnd

/-- MEAS's timers (R108, R110, R115, R117). -/
def dueMeasuring (s : State) : List Instr :=
  dueIf (runsOut s.meas.trapTimer) .trapTimerExpiry ++ dueIf (runsOut s.meas.silenceA) (.silenceTimerExpiry .a)
    ++ dueIf (runsOut s.meas.silenceB) (.silenceTimerExpiry .b)
    ++ dueIf (runsOut (s.meas.markLimit.map Prod.snd)) .markLimitExpiry
    ++ (s.meas.waits.filter fun w => runsOut (some w.2)).map fun w => .secondMarkWaitExpiry w.1

/-- BRD's timers (R145, R147). -/
def dueBoard (s : State) : List Instr :=
  dueIf (runsOut s.brd.pacing) .pacingExpiry ++ dueIf (runsOut s.brd.stallTimer) .stallTimerExpiry

/-- Everything that comes due in this millisecond. -/
def dueEvents (s : State) : List Instr := dueStart s ++ dueGate s ++ dueWind s ++ dueMeasuring s ++ dueBoard s

/-- Inserts a keyed command into a list in key order. -/
def insertKeyed (k : Nat) (i : Instr) : List (Nat × Instr) → List (Nat × Instr)
  | [] => [(k, i)]
  | e :: r => if k ≤ e.1 then (k, i) :: e :: r else e :: insertKeyed k i r

/-- Commands that come due together, in an order that the spec leaves open (log 3). -/
def inOpenOrder (ctr : Nat) (is : List Instr) : List Instr :=
  ((is.zipIdx).foldr (fun e l => insertKeyed (Config.tieKey ctr e.2) e.1 l) []).map Prod.snd

/-! ## What moves -/

/-- The outside level of a line one millisecond later (log 7). A level whose changes commands report stays; the rise of a cell
or index line is reported by none, so it is free; so is any level of a line that raises no events. -/
def driftedLevel (f : LineFunction) (old free : Bool) : Bool :=
  match f with
  | .leave | .juryStop | .gateHome | .windCd | .boardReady => old
  | .cellA | .cellB | .gateIndex => old || free
  | .lampRed | .lampAmber | .lampGreen | .gateUp | .gateDown | .windTxen | .alert | .generalIn | .generalOut | .none => free

/-- The outside levels one millisecond later. -/
def driftedLevels (ctr : Nat) (lines : List Assignment) (w : BitVec 16) : BitVec 16 :=
  (List.range 16).foldl (fun w i =>
    match lines[i]? with
    | some a => setLevel w i (driftedLevel a.fn (w.getLsbD i) (Config.outsideLevel ctr i))
    | none => w) w

/-- FLD one millisecond later. -/
def tickFld (ctr : Nat) (lines : List Assignment) (f : Fld) : Fld :=
  { f with outside := driftedLevels ctr lines f.outside,
           leave := { f.leave with timer := lessOne f.leave.timer },
           stop := { f.stop with timer := lessOne f.stop.timer } }

/-- STC one millisecond later. -/
def tickStc (c : Stc) : Stc := { c with window := lessOne c.window, flashTimer := lessOne c.flashTimer }

/-- GATE one millisecond later. -/
def tickGate (g : Gate) : Gate :=
  { g with stepTimer := lessOne g.stepTimer, settleTimer := lessOne g.settleTimer, homeTimer := lessOne g.homeTimer }

/-- A station record one millisecond later: the age of its reading (R82). -/
def tickStation (x : Station) : Station := { x with reading := x.reading.map fun r => { r with age := r.age + 1 } }

/-- The line test one millisecond later. -/
def tickTest : TestState → TestState
  | .listening r heard => .listening (r - 1) heard
  | .idle => .idle
  | .waitingExchange => .waitingExchange
  | .watching => .watching

/-- The timer of the characters after a closed 32-character reply: it stops at its end without an event (R76). -/
def tickTrailing (t : Option Nat) : Option Nat := if runsOut t then none else lessOne t

/-- WLN one millisecond later; `stale` says that the clock puts a GATING_MEAN_STALE in the queue. -/
def tickWln (stale : Bool) (w : Wln) : Wln :=
  { w with carrierTimer := lessOne w.carrierTimer, turnTimer := lessOne w.turnTimer, replyTimer := lessOne w.replyTimer,
           gapTimer := lessOne w.gapTimer, trailing := tickTrailing w.trailing, cycleTimer := lessOne w.cycleTimer,
           test := tickTest w.test, stations := w.stations.map tickStation,
           gating := { w.gating with age := w.gating.age + 1, staleQueued := w.gating.staleQueued || stale },
           windHold := lessOne w.windHold }

/-- MEAS one millisecond later: the interval count runs at 100 ticks a millisecond in COUNTING (R106). -/
def tickMeas (m : Meas) : Meas :=
  { m with interval := if m.trap = .counting then min 200000 (m.interval + 100) else m.interval,
           trapTimer := lessOne m.trapTimer, silenceA := lessOne m.silenceA, silenceB := lessOne m.silenceB,
           markLimit := m.markLimit.map fun x => (x.1, x.2 - 1), waits := m.waits.map fun x => (x.1, x.2 - 1) }

/-- BRD one millisecond later. -/
def tickBrd (b : Brd) : Brd := { b with pacing := lessOne b.pacing, stallTimer := lessOne b.stallTimer }

/-- The hill clock one millisecond later (R159). -/
def tickLink (l : Link) : Link := { l with clock := if l.clock = 86399999 then 0 else l.clock + 1 }

/-- Every block one millisecond later, with what came due in the queue. -/
def timePasses (s : State) : State :=
  { s with fld := tickFld s.freeCtr s.prof.profile.lines s.fld, stc := tickStc s.stc, gate := tickGate s.gate,
           wln := tickWln (turnsStale s) s.wln, meas := tickMeas s.meas, brd := tickBrd s.brd, link := tickLink s.link,
           freeCtr := s.freeCtr + 1, pending := s.pending ++ inOpenOrder s.freeCtr (dueEvents s) }

/-- What the part does in a millisecond in which no command waits (log 1). -/
def idleTick (s : State) : Host.Outcome State Fault Refusal := command timePasses s

end Sys2Proof.Machine
end

