-- ==== Sys2Proof/Machine/Step.lean ====
section
/-! DEFINITION. One step: the command at the front of the queue, or a millisecond (log 1). -/

namespace Sys2Proof.Machine

/-- The state with a queue of waiting commands. -/
def State.withPending (s : State) (cs : List Instr) : State := { s with pending := cs }

/-- One step. -/
def step (s : State) : Host.Outcome State Fault Refusal :=
  match s.pending with
  | [] => idleTick s
  | c :: rest => exec c (s.withPending rest)

/-- The state with the command that a word spells at the front of its queue. The table gives no row any bits, so no word spells
a command, and the state stays as it is (log 28). -/
def State.withFetchWord (s : State) (nbits w : Nat) : State :=
  match decodeTableWord nbits w with
  | some i => s.withPending (i :: s.pending)
  | none => s

end Sys2Proof.Machine
end

