-- ==== Sys2Proof/Safety.lean ====
section
/-! DEFINITION. What the statements are made of: what a command leaves unchanged, how a request is answered, what the board and
LINK take from a command, and the laws that every step keeps. -/

namespace Sys2Proof

open Machine

/-! ## Frames -/

/-- The blocks of State. -/
inductive Block
  | prof | fld | cst | stc | gate | wln | meas | scr | brd | link | diag
  deriving DecidableEq, Repr

/-- A block holds the same in two states. -/
def SameBlock (s t : State) : Block → Prop
  | .prof => t.prof = s.prof
  | .fld => t.fld = s.fld
  | .cst => t.cst = s.cst
  | .stc => t.stc = s.stc
  | .gate => t.gate = s.gate
  | .wln => t.wln = s.wln
  | .meas => t.meas = s.meas
  | .scr => t.scr = s.scr
  | .brd => t.brd = s.brd
  | .link => t.link = s.link
  | .diag => t.diag = s.diag

/-- Nothing changes outside the named blocks: every register of every other block, the free values' counter and the waiting
commands stay. -/
def OnlyChanges (bs : List Block) (s t : State) : Prop :=
  (∀ b, b ∉ bs → SameBlock s t b) ∧ t.freeCtr = s.freeCtr ∧ t.pending = s.pending

/-- LINK's settings, receiver, buffer, mask, clock and cursors stay. What is left of LINK is the request in hand, the
transmitter, and the notices. -/
def LinkKept (s t : State) : Prop :=
  t.link.rate = s.link.rate ∧ t.link.brk = s.link.brk ∧ t.link.asm = s.link.asm ∧ t.link.buffer = s.link.buffer
    ∧ t.link.mask = s.link.mask ∧ t.link.clock = s.link.clock ∧ t.link.clockSet = s.link.clockSet
    ∧ t.link.attemptCursor = s.link.attemptCursor ∧ t.link.rankCursor = s.link.rankCursor

/-- The notices that have not been sent to their end: the one on the line, then the queue. -/
def outgoing (l : Link) : List Notice :=
  match l.tx with
  | .notice n => n :: l.notices
  | .idle | .brk | .reply _ _ => l.notices

/-- LINK after blocks have handed it notices in order, beginning with what the transmitter had to begin. -/
def handed (bs : List NoticeBody) (s : State) : Link := bs.foldl (fun l b => queueNotice b l) (startTx s).link

/-- Exactly these notices are sent, in this order: each is masked, queued or dropped as R158 says. -/
def Sends (bs : List NoticeBody) (s t : State) : Prop :=
  outgoing t.link = outgoing (handed bs s) ∧ t.link.seq = (handed bs s).seq

/-- The board queue after keys have been enqueued in order (R144). -/
def onto (ks : List Key) (q : List BoardItem) : List BoardItem := ks.foldl (fun q k => (enqueued k false q).1) q

/-- The queue and the sender after keys have been enqueued in order (R144, R145). Where no frame was on the line and the pacing
timer is stopped and the board ready, the first item in send order has left the queue and its frame has begun with its text; in
every other case, and with an empty queue, both stand. That a frame begins when the command is over is the model's choice
(log 9). -/
def Frames (ks : List Key) (s t : State) : Prop :=
  let q := onto ks s.brd.queue
  (∀ i rest, s.brd.sender = none → t.brd.pacing = none → t.brd.ready = true → sendOrder q = i :: rest →
      t.brd.queue = q.erase i ∧ t.brd.sender = some { key := i.key, text := itemText t i })
    ∧ (s.brd.sender ≠ none ∨ t.brd.pacing ≠ none ∨ t.brd.ready = false ∨ q = [] →
      t.brd.queue = q ∧ t.brd.sender = s.brd.sender)

/-- The stall timer once a command is over (R147): it runs while the board has a BOARD_READY line and is not ready and an item
waits. It starts with 10,000 ms where it was stopped and the sender is in NORMAL, and goes on where it ran. -/
def StallFollows (s t : State) : Prop :=
  t.brd.stallTimer =
    if t.brd.ready = false ∧ t.brd.queue ≠ [] ∧ (lineOf t .boardReady).isSome = true then
      if s.brd.stallTimer = none ∧ t.brd.stalled = false then some 10000 else s.brd.stallTimer
    else none

/-- Exactly these keys are enqueued, in this order, a frame begins where one may, and the stall timer follows its rule. The message
lines, the pacing timer, the ready level and the stall state stay. -/
def Boards (ks : List Key) (s t : State) : Prop :=
  t.brd.messages = s.brd.messages ∧ t.brd.pacing = s.brd.pacing ∧ t.brd.ready = s.brd.ready ∧ t.brd.stalled = s.brd.stalled
    ∧ Frames ks s t ∧ StallFollows s t

/-- The queue has room for `n` more items, so no item is dropped and BOARD_DROP is not counted. -/
def Room (n : Nat) (s : State) : Prop := s.brd.queue.length + n ≤ 32

/-- The notices of the counters that an event of a kind takes from their last value to 0 (R162). -/
def overflows (k : CounterKind) (s : State) : List NoticeBody :=
  (if (s.diag.counter0.step k (s.cst.rstate == .opened)).2 then [.counterOverflow 0 k] else []) ++
    (if (s.diag.counter1.step k (s.cst.rstate == .opened)).2 then [.counterOverflow 1 k] else [])

/-- DIAG after an event of a kind (R162). -/
def counted (k : CounterKind) (s : State) : Diag :=
  { s.diag with counter0 := (s.diag.counter0.step k (s.cst.rstate == .opened)).1,
                counter1 := (s.diag.counter1.step k (s.cst.rstate == .opened)).1 }

/-- The records after the attempt with a number has changed. -/
def changed (n : Nat) (f : Attempt → Attempt) (c : Cst) : Cst :=
  { c with attempts := c.attempts.map fun a => if a.number = n then f a else a }

/-- A fault set with a fault in it, once (R32). -/
def joined (f : DeferredFault) (fs : List DeferredFault) : List DeferredFault := if f ∈ fs then fs else fs ++ [f]

/-- The records after a fault has joined the set of the attempt with a number. -/
def faulted (n : Nat) (f : DeferredFault) (c : Cst) : Cst := changed n (fun r => { r with faults := joined f r.faults }) c

/-- Nothing is enqueued and exactly these notices are sent: BRD and LINK change otherwise only as a frame that was due begins and
as a reply waits. -/
def OnlySends (bs : List NoticeBody) (s t : State) : Prop :=
  LinkKept s t ∧ Boards [] s t ∧ t.brd.subjects = s.brd.subjects ∧ Sends bs s t

/-- Nothing is enqueued and no notice is sent. -/
def Quiet (s t : State) : Prop := OnlySends [] s t

/-! ## Requests and events -/

/-- LINK has no request in hand, and so no reply waits or is being sent. -/
def Free (s : State) : Prop :=
  s.link.inHand = none ∧ s.link.replyWaiting = none ∧ ∀ r status, s.link.tx ≠ .reply r status

/-- A request is in hand, and its reply waits or is being sent (R155, R156). -/
def Replied (kind tag : Byte) (code : ReplyCode) (data : ReplyData) (t : State) : Prop :=
  (∃ h, t.link.inHand = some h ∧ h.kind = kind ∧ h.tag = tag) ∧
    (t.link.replyWaiting = some { kind := replyKind kind, tag, code, data } ∨
      ∃ status, t.link.tx = .reply { kind := replyKind kind, tag, code, data } status)

/-- A request answers a next state, in which it is answered with a code and data. -/
def Answers (i : Instr) (code : ReplyCode) (data : ReplyData) (s t : State) : Prop :=
  exec i s = .next t ∧ ∃ f, requestFrame i = some f ∧ Replied f.1 f.2.1 code data t

/-- A request completes with a code and data, changes nothing outside the named blocks (besides BRD and LINK), and leaves what
`P` says. -/
def Completes (i : Instr) (code : ReplyCode) (data : ReplyData) (bs : List Block) (s : State) (P : State → Prop) : Prop :=
  ∃ t, Answers i code data s t ∧ OnlyChanges (.brd :: .link :: bs) s t ∧ P t

/-- An event completes, changes nothing outside the named blocks (besides BRD and LINK), and leaves what `P` says. -/
def Happens (i : Instr) (bs : List Block) (s : State) (P : State → Prop) : Prop :=
  ∃ t, exec i s = .next t ∧ OnlyChanges (.brd :: .link :: bs) s t ∧ P t

/-- A request is refused: the code goes back without data, and nothing changes. -/
def Refuses (i : Instr) (code : ReplyCode) (s : State) : Prop := Completes i code .none [] s (Quiet s)

/-! ## What a return to the jury gate, and a change of head, do (R25, R57, R68, R69) -/

/-- The notice that a return move's request sends: the beginning of a move in IDLE, the change itself in MANUAL. -/
def returnNotices (g : Gate) : List NoticeBody :=
  match g.state, g.current, g.jury with
  | .idle, some c, some j => if c = j then [] else [.gateBegun .ret (some c) (some j) (some j)]
  | .manual, some c, some j => if c = j then [] else [.gateDone .ret (some j) (some j)]
  | _, _, _ => []

/-- The key that a return move's request enqueues. -/
def returnKeys (g : Gate) : List Key :=
  match g.state, g.current, g.jury with
  | .manual, some c, some j => if c = j then [] else [key .gate]
  | _, _, _ => []

/-- A coach reduction is pending for another bib than the head of a list. -/
def coachOff (s : State) (list : List Nat) : Bool :=
  match s.stc.coach with
  | some (b, _) => list.head? != some b
  | none => false

/-- The pending coach reduction is over, and the positioner goes back to the jury gate. -/
def CoachEnds (s t : State) : Prop := t.stc = { s.stc with coach := none } ∧ t.gate = (requestReturn s).gate

/-- A request that makes `list` the start list is DONE and leaves what `P` says of CST. Where the coach reduction pending is for
another bib than the new head, it ends and the return to the jury gate is asked for. -/
def ChangesList (i : Instr) (list : List Nat) (s : State) (P : State → Prop) : Prop :=
  (coachOff s list = false → Completes i .done .none [.cst] s fun t => P t ∧ t.cst.startList = list ∧ Quiet s t)
    ∧ (coachOff s list = true → Completes i .done .none [.cst, .stc, .gate, .diag] s fun t =>
        P t ∧ t.cst.startList = list ∧ CoachEnds s t ∧ LinkKept s t ∧ t.brd.subjects = s.brd.subjects
          ∧ Boards (returnKeys s.gate) s t ∧ (Room 1 s → t.diag = s.diag ∧ Sends (returnNotices s.gate) s t))

/-! ## Records that several commands write -/

/-- The attempt with a number has left the bar (R52): its record, the light, the start window, the wind window and the mark
limit. Where both cells have lines, the speed trap watches for it. -/
def LeftBar (n stamp : Nat) (manual : Bool) (s t : State) : Prop :=
  t.cst = changed n (fun r => { r with state := .inRun, leaveTime := some stamp, manualLeave := manual,
                                        windStatus := some .sampling, samples := [], wind := none }) s.cst
    ∧ t.stc = { s.stc with light := .red, flashOn := false, flashTimer := none, window := none, countdown := none }
    ∧ t.wln = { s.wln with window := some (n, true) }
    ∧ t.meas = (if hasLine s .cellA ∧ hasLine s .cellB then
        { s.meas with markLimit := some (n, s.prof.profile.hill.markLimit), trap := .ready, trapAttempt := some n }
      else { s.meas with markLimit := some (n, s.prof.profile.hill.markLimit) })

/-- Among the attempts only the record with a number may have changed; the round's number and the start list stay. -/
def OnlyAttempt (n : Nat) (s t : State) : Prop :=
  t.cst.round = s.cst.round ∧ t.cst.startList = s.cst.startList
    ∧ t.cst.attempts.map Attempt.number = s.cst.attempts.map Attempt.number
    ∧ ∀ m, m ≠ n → attempt? t m = attempt? s m

/-- What an input to an attempt's scoring leaves of CST and SCR (R127, R128, R132): nothing but the attempt's record while it is
in SCORING; once it is COMPLETE its points are those of its inputs, its competitor holds the total, and the ranking follows. -/
def Scored (a : Attempt) (s t : State) : Prop :=
  OnlyAttempt a.number s t ∧ (s.cst.startList ≠ [] → t.cst.rstate = s.cst.rstate)
    ∧ ∀ r, attempt? t a.number = some r →
      (r.state = .scoring → t.cst.directory = s.cst.directory ∧ t.scr = s.scr ∧ t.cst.rstate = s.cst.rstate)
      ∧ (r.state = .complete → r.points = some (computePoints s.prof.profile.hill s.gate.reference r)
          ∧ t.cst.directory = s.cst.directory.map (fun c => if c.bib = a.bib then
              { c with totals := c.totals.set (a.round - 1) (some (computePoints s.prof.profile.hill s.gate.reference r).total) }
            else c)
          ∧ t.scr.ranking = reRanked t.cst.directory a.bib s.scr.ranking)

/-- The gate after an attempt is over that may have used a coach reduction (R57, R69): without one nothing moves, with one the
positioner goes back to the jury gate. -/
def GateFreed (a : Attempt) (s t : State) : Prop :=
  (a.coach = none → t.gate = s.gate) ∧ (a.coach.isSome = true → t.gate = (requestReturn s).gate)

/-- The keys of the return that the end of an attempt asks for (R58). -/
def freedKeys (a : Attempt) (s : State) : List Key := if a.coach.isSome then returnKeys s.gate else []

/-- The notices of the return that the end of an attempt asks for (R58). -/
def freedNotices (a : Attempt) (s : State) : List NoticeBody := if a.coach.isSome then returnNotices s.gate else []

/-- What green and an early leave give an attempt's record and GATE (R49, R52): an absent jury gate takes the current gate, and an
absent reference gate the attempt gate. -/
def gatesTaken (g : Gate) : Gate :=
  { g with jury := g.jury.orElse fun _ => g.current, reference := g.reference.orElse fun _ => g.current }

/-- The attempt with a number has left the bar from WAITING (R52): its record with EARLY_LEAVE and the gates, the clear, the light,
the wind window and the mark limit. Where both cells have lines, the speed trap watches for it. -/
def LeftEarly (n stamp : Nat) (manual : Bool) (s t : State) : Prop :=
  t.cst = changed n (fun r => { r with
      state := .inRun, earlyLeave := true, leaveTime := some stamp, manualLeave := manual, attemptGate := s.gate.current,
      juryGate := (gatesTaken s.gate).jury, windStatus := some .sampling, samples := [], wind := none }) s.cst
    ∧ t.gate = gatesTaken s.gate
    ∧ t.stc = { s.stc with light := .red, flashOn := false, flashTimer := none, clearPending := false, windWaitSent := false }
    ∧ t.wln = { s.wln with window := some (n, true) }
    ∧ t.meas = (if hasLine s .cellA ∧ hasLine s .cellB then
        { s.meas with markLimit := some (n, s.prof.profile.hill.markLimit), trap := .ready, trapAttempt := some n }
      else { s.meas with markLimit := some (n, s.prof.profile.hill.markLimit) })

/-- An attempt in WAITING or CLEARED has been voided (R29, R35, R38, R55, R58): its record, the start list, the round's state as it
is now, the light and the start window, the gate, the keys and the notices. No arm is held and no coach reduction is pending. -/
def VoidedAtBar (a : Attempt) (r : RoundState) (s t : State) : Prop :=
  t.cst = { changed a.number (fun x => { x with state := .voided }) s.cst with
      startList := a.bib :: s.cst.startList, rstate := r }
    ∧ t.stc.light = .red ∧ t.stc.window = none ∧ t.stc.clearPending = false ∧ t.stc.windWaitSent = false
    ∧ (s.stc.window.isSome = true → t.stc.countdown = none) ∧ t.stc.heldArm = false ∧ t.stc.coach = none
    ∧ t.stc.flashOn = false ∧ t.stc.flashTimer = none ∧ GateFreed a s t ∧ LinkKept s t ∧ t.brd.subjects = s.brd.subjects
    ∧ Boards ((if s.stc.window.isSome then [key .countdown] else []) ++ key .light :: freedKeys a s) s t
    ∧ (Room 3 s → t.diag = s.diag
        ∧ Sends ([.light s.stc.light .red none, .stateChange a.number a.round a.bib (some a.state) .voided] ++ freedNotices a s) s t)

/-- An attempt in SCORING, COMPLETE or LAPSED has been voided (R29, R38, R139): its record, the start list and the round's state,
and what it had given is taken back. -/
def TakenBack (a : Attempt) (s t : State) : Prop :=
  t.cst.attempts = s.cst.attempts.map (fun r => if r.number = a.number then { r with state := .voided } else r)
    ∧ t.cst.startList = a.bib :: s.cst.startList ∧ t.cst.round = s.cst.round
    ∧ t.cst.rstate = (if s.cst.rstate = .ended then .opened else s.cst.rstate)
    ∧ (a.state = .scoring → t.cst.directory = s.cst.directory ∧ t.scr = s.scr
        ∧ t.meas = { s.meas with waits := s.meas.waits.filter fun w => w.1 != a.number })
    ∧ (a.state = .complete →
        t.cst.directory = s.cst.directory.map (fun c =>
          if c.bib = a.bib then { c with totals := c.totals.set (a.round - 1) none } else c)
        ∧ t.scr.ranking = reRanked t.cst.directory a.bib s.scr.ranking ∧ t.meas = s.meas)
    ∧ (a.state = .lapsed →
        t.cst.directory = s.cst.directory.map (fun c => if c.bib = a.bib then { c with disqualified := false } else c)
        ∧ t.scr.ranking = reRanked t.cst.directory a.bib s.scr.ranking ∧ t.meas = s.meas)
    ∧ t.brd.subjects = (if a.state = .scoring then s.brd.subjects else { s.brd.subjects with rank := some a.bib })
    ∧ t.wln = (if a.state = .scoring ∧ s.wln.window.map Prod.fst = some a.number
        then { s.wln with window := none } else s.wln)
    ∧ LinkKept s t

/-- The keys of what is taken back (R136, R139): RANK and the TOP lines that show something else, unless the attempt was in SCORING
and had no place in the ranking by it. -/
def takenBackKeys (a : Attempt) (s t : State) : List Key :=
  if a.state = .scoring then [] else key .rank :: changedLines (topTen s) (topTen t)

/-- MEAS after a valid arrival on a console's line (R110): its timer runs afresh and the console is ACTIVE. -/
def heardFrom (c : Console) (m : Meas) : Meas := (m.withSilence c (some 5000)).withState c .active

/-- The notice of a console that a valid arrival makes ACTIVE. -/
def wakes (c : Console) (s : State) : List NoticeBody :=
  if consoleState c s.meas = .silent then [.console c .silent .active] else []

/-- The fault set that an attempt takes from the hill into SCORING (R108, R101, R114), beginning with the faults `fs`. -/
def faultsOf (a : Attempt) (s : State) (fs : List DeferredFault) : List DeferredFault :=
  let timed := if s.meas.trap = .ready ∨ s.meas.trap = .counting then joined .speedMissing fs else fs
  if a.samples = [] then joined .noWind timed else timed

/-- The notices of an attempt that leaves the hill into SCORING (R114): the return move, the change of state, and one
ATTEMPT_FAULTS where its fault set is not empty. -/
def endNotices (a : Attempt) (cause : EndCause) (faults : List DeferredFault) (s : State) : List NoticeBody :=
  freedNotices a s ++ .stateChange a.number a.round a.bib (some a.state) .scoring ::
    if faults = [] then [] else [.attemptFaults a.number a.bib cause faults]

/-- An input has given an attempt its points: it has become COMPLETE (R128), or it was COMPLETE and its points have changed
(R132). `a` is its record before the input, `r` after it. -/
def rescored (a r : Attempt) : Bool := r.state == .complete && (a.state != .complete || a.points != r.points)

/-- The keys of an input to an attempt's scoring (R116, R119, R128, R132): DISTANCE where its distance has changed, and where the
attempt has its points by it, POINTS, RANK and the TOP lines that show something else. -/
def scoredKeys (a r : Attempt) (s t : State) : List Key :=
  (if a.distance = r.distance then [] else [key .distance])
    ++ if rescored a r then [key .points, key .rank] ++ changedLines (topTen s) (topTen t) else []

/-- The subjects of the board's items after an input to an attempt's scoring (R142). -/
def scoredSubjects (a r : Attempt) (b : Subjects) : Subjects :=
  { b with distance := if a.distance = r.distance then b.distance else some a.number,
           points := if rescored a r then some a.number else b.points,
           rank := if rescored a r then some a.bib else b.rank }

/-- The ATTEMPT_COMPLETE notice of an input to an attempt's scoring: FIRST where the attempt has become COMPLETE (R128), RECOMPUTED
where it was (R132), with the ranking total and the rank as they now stand. -/
def scoredNotices (a r : Attempt) (t : State) : List NoticeBody :=
  if rescored a r then
    r.points.toList.map fun p => .attemptComplete (a.state == .complete) r.number r.round r.bib r.distance p
      (((findBib t.cst.directory r.bib).map rankingTotal).getD 0)
      ((findBib t.cst.directory r.bib).bind fun c => rankOf t.cst.directory t.scr.ranking c)
  else []

/-- What the board and LINK take from an input to an attempt's scoring, after the keys `ks` and the notices `ns`. -/
def Announces (ks : List Key) (ns : List NoticeBody) (a r : Attempt) (s t : State) : Prop :=
  Boards (ks ++ scoredKeys a r s t) s t ∧ (Room 16 s → t.diag = s.diag ∧ Sends (ns ++ scoredNotices a r t) s t)

/-- The DISTANCE_HELD notice of an attempt that has entered HELD (R116). -/
def heldNotices (a r : Attempt) : List NoticeBody :=
  if r.distanceStatus = .held ∧ a.distanceStatus ≠ .held then
    [.distanceHeld a.number a.bib ((r.markA.map ConsoleMark.d).getD 0) ((r.markB.map ConsoleMark.d).getD 0)]
  else []

/-- The state after second-mark waits have expired one after another (R117). -/
def waitsExpired (ns : List Nat) (s : State) : State :=
  ns.foldl (fun s n => match exec (.secondMarkWaitExpiry n) s with
    | .next t => t
    | .fault _ | .refused _ => s) s

/-- The attempts that wait for a mark of a console, in the order of their waits (R118). -/
def waitersFor (c : Console) (s : State) : List Nat :=
  (s.meas.waits.map Prod.fst).filter fun n => (attempt? s n).any fun a => (markOf c a).isNone

/-- The console that a mark's own console is compared with. -/
def otherConsole : Console → Console
  | .a => .b
  | .b => .a

/-- WLN once a reply has begun, with the characters it holds so far (R76). -/
def receiving (first : List RxChar) (w : Wln) : Wln :=
  { w with phase := .receiving, replyTimer := none, reply := first, gapTimer := some 5 }

/-- A noise byte has been taken (R89): it is counted, and otherwise WLN is `w`. -/
def TakesNoise (w : Wln) (s t : State) : Prop :=
  t.wln = { w with noise := min 255 (w.noise + 1) } ∧ t.diag = counted .noiseByte s ∧ LinkKept s t ∧ Boards [] s t
    ∧ t.brd.subjects = s.brd.subjects ∧ Sends (overflows .noiseByte s) s t

/-- After an exchange: a line test that waits for it begins its measurement (log 31), and without one the next due slot's exchange
begins (R77, R79). -/
def GoesOn (s t : State) : Prop :=
  (s.wln.test = .waitingExchange → t.wln.phase = .none ∧ ∃ heard, t.wln.test = .listening 1 heard)
    ∧ ∀ j, s.wln.test = .idle → nextDue s = some j →
        t.wln.polled = j ∧ t.wln.test = .idle ∧ (t.wln.phase = .carrierWait ∨ t.wln.phase = .turnaround)

/-- What follows an exchange with slot `k` is a line test's measurement, or another exchange of the cycle. -/
def NotLast (k : Nat) (s : State) : Prop :=
  s.wln.test = .waitingExchange
    ∨ (s.wln.test = .idle ∧ s.wln.poll = .inCycle ∧ s.wln.nextSlot = k + 1 ∧ (nextDue s).isSome = true)

/-- A failed outcome's station record, without its counts (R78, R84): one more miss, the latch, and the state by the misses. -/
def Failed (k : Nat) (s t : State) : Prop :=
  (station t k).misses = min 255 ((station s k).misses + 1) ∧ (station t k).latch = true
    ∧ ((station s k).state = .online ∨ (station s k).state = .unknown →
        (station t k).state = if (station s k).misses = 1 then .suspect else (station s k).state)
    ∧ ((station s k).state = .suspect → (station t k).state = if (station s k).misses = 4 then .offline else .suspect)
    ∧ ((station s k).state = .offline ∨ (station s k).state = .disabled → (station t k).state = (station s k).state)
    ∧ (station t k).reading = (station s k).reading ∧ ∀ n, n ≠ k → station t n = station s n

/-- One more miss takes slot `k`'s station to OFFLINE while an attempt's wind window is open, and it has the scoring role (R84,
R86). -/
def LosesStation (k : Nat) (s : State) : Prop :=
  s.wln.window.isSome = true ∧ (slot? s k).map StationSlot.scoring = some true ∧ (station s k).state = .suspect
    ∧ (station s k).misses = 4

/-- The STATION notice of an outcome that has moved slot `k`'s state (R84). -/
def stationNotices (k address : Nat) (s t : State) : List NoticeBody :=
  if (station t k).state = (station s k).state then []
  else [.station k address (station s k).state (station t k).state (station t k).misses]

/-- The POLARITY notice of an outcome (R90): the third lead byte in a row with a framing-error mark, with automatic swap on. -/
def polarityNotices (answer : Answer) (s : State) : List NoticeBody :=
  if s.prof.profile.hill.autoSwap = 1 ∧ answer = .bad true ∧ 2 ≤ s.wln.polarityCount then [.polarity (!s.wln.inverted)] else []

/-- The ends of an exchange that its slot's outcome would follow (R74, R76, R77), each in its phase. -/
def EndsExchange (i : Instr) (s : State) : Prop :=
  (i = .contentionMiss ∧ s.wln.phase = .carrierWait) ∨ (i = .replyTimeout ∧ s.wln.phase = .replyWait)
    ∨ (i = .replyGapExpiry ∧ s.wln.phase = .receiving)

/-- Slot `k` is due in a cycle with a number, once it has begun (R79): its station can be polled, and an OFFLINE one only where the
number modulo 8 is 0. -/
def DueIn (number k : Nat) (s : State) : Prop :=
  k < 8 ∧ canBePolled s k = true ∧ ((station s k).state = .offline → number % 8 = 0)

/-- The next cycle has begun (R79, R81): its number, its period timer, and the exchange with its first due slot. No station has a
good reply in it yet, and a slot that became present since the last one takes part (R5). -/
def CycleBegins (s t : State) : Prop :=
  let number := (s.wln.cycle + 1) % 65536
  t.wln.poll = .inCycle ∧ t.wln.cycle = number ∧ t.wln.cycleTimer = some s.prof.profile.hill.cycleMin
    ∧ (t.wln.phase = .carrierWait ∨ t.wln.phase = .turnaround) ∧ DueIn number t.wln.polled s
    ∧ (∀ k, DueIn number k s → t.wln.polled ≤ k)
    ∧ ∀ k, station t k = { station s k with good := false, newcomer := false }

/-- No slot is due in the next cycle, though a station can be polled (R79, R80): each of these is OFFLINE. -/
def OnlyOffline (s : State) : Prop :=
  anyPollable s = true ∧ (∀ k, canBePolled s k = true → (station s k).state = .offline) ∧ (s.wln.cycle + 1) % 65536 % 8 ≠ 0

/-- The next cycle has begun and ended at once, with no slot due (R79, R81, R96). -/
def EmptyCycle (s t : State) : Prop :=
  t.wln.poll = .between ∧ t.wln.phase = s.wln.phase ∧ t.wln.cycle = (s.wln.cycle + 1) % 65536
    ∧ t.wln.cycleTimer = some s.prof.profile.hill.cycleMin ∧ t.wln.gating.value = none ∧ t.wln.gating.time = some s.link.clock
    ∧ t.wln.scoringMean = none ∧ t.wln.nGating = 0 ∧ t.wln.nScoring = 0

/-- The commands that bring a character on the wind line. -/
def isCharacter : Instr → Bool
  | .noiseByte _ | .replyCharacter _ | .replyBegin (some _) => true
  | _ => false

/-- A command ends a line test's measurement (R92): an echo or the end of its window while the test watches; while it listens, the
end of the listen where a carrier was or is there, or a character. -/
def EndsTest (i : Instr) (s : State) : Prop :=
  (s.wln.test = .watching ∧ (i = .echoWindowExpiry ∨ ∃ positive n, i = .echo positive n ∧ n ≤ 4096))
    ∨ ∃ r heard, s.wln.test = .listening r heard
        ∧ ((i = .listenEnd ∧ (heard = true ∨ sensedFn s .windCd = some true)) ∨ (isCharacter i = true ∧ s.wln.phase = .none))

/-- The result of a measurement (R92), with its distance and the echo count of its notice. The count of a NOISE result, which no
pulse started, is a free value (log 19). -/
def TestGives (i : Instr) (s : State) (result : TestResult) (distance : Option Nat) (count : Nat) : Prop :=
  match i with
  | .echo positive n =>
    result = (if positive then .opened else .short) ∧ distance = some (n * s.prof.profile.hill.cableFactor / 1000) ∧ count = n
  | .echoWindowExpiry => result = .normal ∧ distance = none ∧ count = 4096
  | _ => result = .noise ∧ distance = none ∧ count ≤ 4096

/-- A line test's measurement ends by a command (R92), which leaves what `P` says: of WLN as the measurement's end leaves it, before
polling resumes, of the notices sent by then, and of the state after the command. A character is noise too (R89), and keeps the
timer of the characters after a closed reply running (log 23). A NOISE result takes a free value. -/
def TestEnds (i : Instr) (bs : List Block) (s : State) (P : Wln → List NoticeBody → State → Prop) : Prop :=
  ∃ t result distance count, exec i s = .next t ∧ (∀ b, b ∉ .brd :: .link :: .wln :: .diag :: bs → SameBlock s t b)
    ∧ t.pending = s.pending ∧ t.freeCtr = (if result = .noise then s.freeCtr + 1 else s.freeCtr)
    ∧ TestGives i s result distance count ∧ LinkKept s t ∧ t.brd.subjects = s.brd.subjects
    ∧ P { s.wln with test := .idle, lastTest := some (result, distance),
                     noise := if isCharacter i then min 255 (s.wln.noise + 1) else s.wln.noise,
                     trailing := if isCharacter i ∧ s.wln.trailing.isSome then some 5 else s.wln.trailing }
        ((if isCharacter i then overflows .noiseByte s else []) ++ [.lineTest result distance count]) t

/-- What a measurement's end leaves of WLN besides polling. -/
def KeepsTest (w : Wln) (t : State) : Prop :=
  t.wln.test = w.test ∧ t.wln.lastTest = w.lastTest ∧ t.wln.noise = w.noise ∧ t.wln.trailing = w.trailing

/-- Nothing but these notices comes of a measurement's end, and the event of the character that ended it. -/
def TestOnlySends (i : Instr) (ns : List NoticeBody) (s t : State) : Prop :=
  t.diag = (if isCharacter i then counted .noiseByte s else s.diag) ∧ Boards [] s t ∧ Sends ns s t

/-- A sign, for 0 and above too. -/
def signText (i : Int) : Text := ascii [if i < 0 then '-' else '+']

/-- Decimal numbers are without leading zeros (R143). -/
def DecimalsOk : Prop :=
  (∀ n, n < 10 → decimal n = [byte (0x30 + n)])
    ∧ ∀ n, 10 ≤ n → n < 1000000000000 → decimal n = decimal (n / 10) ++ [byte (0x30 + n % 10)]

/-- The text of every board key from the owners' state (R143), before it is cut to 32 characters. -/
def ItemTexts (s : State) : Prop :=
  let sp := ascii [' ']
  let dot := ascii ['.']
  let oneDecimal := fun n => decimal (n / 10) ++ dot ++ [byte (0x30 + n % 10)]
  let sub := s.brd.subjects
  DecimalsOk
  ∧ (s.stc.light = .dark → keyText s (key .light) = ascii ['D', 'A', 'R', 'K'])
  ∧ (s.stc.light = .red → keyText s (key .light) = ascii ['R', 'E', 'D'])
  ∧ (s.stc.light = .amber → keyText s (key .light) = ascii ['A', 'M', 'B', 'E', 'R'])
  ∧ (s.stc.light = .green → keyText s (key .light) = ascii ['G', 'R', 'E', 'E', 'N'])
  ∧ (s.stc.light = .greenWarn → keyText s (key .light) = ascii ['G', 'R', 'E', 'E', 'N', '_', 'W', 'A', 'R', 'N'])
  ∧ (s.stc.countdown = none → keyText s (key .countdown) = [])
  ∧ (∀ n, s.stc.countdown = some n → keyText s (key .countdown) = decimal n)
  ∧ (sub.jumper = none → keyText s (key .jumper) = [])
  ∧ (∀ n a c, sub.jumper = some n → attempt? s n = some a → findBib s.cst.directory a.bib = some c →
      keyText s (key .jumper) = decimal c.bib ++ sp ++ c.name ++ sp ++ c.nation)
  ∧ (keyText s (key .gate) =
      (match (onHill? s).bind Attempt.attemptGate with
        | some g => decimal g
        | none => (s.gate.current.map decimal).getD (ascii ['-', '-']))
      ++ ascii [' ', '/', ' '] ++ (s.gate.reference.map decimal).getD (ascii ['-', '-']))
  ∧ (freshGating s = none → keyText s (key .wind) = ascii ['-', '-', '-', '-'])
  ∧ (∀ v, freshGating s = some v → keyText s (key .wind) =
      signText v ++ decimal (v.natAbs / 100) ++ dot ++ [byte (0x30 + v.natAbs / 10 % 10), byte (0x30 + v.natAbs % 10)]
        ++ if s.wln.gating.iced then ascii [' ', 'I', 'C', 'E'] else [])
  ∧ (sub.speed = none → keyText s (key .speed) = []) ∧ (sub.distance = none → keyText s (key .distance) = [])
  ∧ (sub.marks = none → keyText s (key .marks) = []) ∧ (sub.points = none → keyText s (key .points) = [])
  ∧ (sub.rank = none → keyText s (key .rank) = [])
  ∧ (∀ n a, sub.speed = some n → attempt? s n = some a →
      keyText s (key .speed) = (a.speed.map oneDecimal).getD [])
  ∧ (∀ n a, sub.distance = some n → attempt? s n = some a →
      keyText s (key .distance) = (a.distance.map fun d => oneDecimal (d * 5)).getD [])
  ∧ (∀ n a, sub.marks = some n → attempt? s n = some a →
      keyText s (key .marks) = spaced ((a.marks.zipIdx 1).map fun (m, i) =>
        (m.map fun v => oneDecimal (v * 5) ++ if a.style ≠ .opened ∧ isDropped a.marks i then ascii ['*'] else []).getD
          (ascii ['-', '-'])))
  ∧ (∀ n a, sub.points = some n → attempt? s n = some a →
      keyText s (key .points) = (a.points.map fun p =>
        oneDecimal p.pD ++ sp ++ oneDecimal p.pS ++ sp ++ signText p.pG ++ oneDecimal p.pG.natAbs ++ sp
          ++ signText p.pW ++ oneDecimal p.pW.natAbs ++ sp ++ oneDecimal p.total).getD [])
  ∧ (∀ b c, sub.rank = some b → findBib s.cst.directory b = some c →
      (b ∉ s.scr.ranking → keyText s (key .rank) = [])
      ∧ (b ∈ s.scr.ranking → keyText s (key .rank) =
          ((rankOf s.cst.directory s.scr.ranking c).map decimal).getD (ascii ['D', 'S', 'Q']) ++ sp
            ++ oneDecimal (rankingTotal c)))
  ∧ (∀ n, keyText s { field := .message, line := n + 1 } = s.brd.messages.getD n [])
  ∧ (∀ n, s.scr.ranking.length ≤ n → keyText s { field := .top, line := n + 1 } = [])
  ∧ (∀ n b c, s.scr.ranking[n]? = some b → findBib s.cst.directory b = some c →
      keyText s { field := .top, line := n + 1 } =
        ((rankOf s.cst.directory s.scr.ranking c).map decimal).getD (ascii ['D', 'S', 'Q']) ++ sp ++ decimal c.bib ++ sp
          ++ c.name ++ sp ++ oneDecimal (rankingTotal c))

/-- BRD's queue right after a RESTART has refilled it (R151): every key of a refresh, blank, and the LIGHT key not blank where the
light has become DARK. -/
def restartQueue (s : State) : List BoardItem :=
  let q := (refreshKeys s.brd.messages).foldl (fun q k => (enqueued k true q).1) []
  if s.stc.light = .dark then q else (enqueued (key .light) false q).1

/-- GATE has entered FAULT (R65): everything of a move is over, the jury gate, the reference gate and what it last did stay. -/
def gateFaulted (g : Gate) : Gate :=
  { g with state := .fault, current := none, target := none, kind := none, returnWaiting := false, stepTimer := none,
           settleTimer := none, homeTimer := none }

/-- DIAG after a device fault (R163). -/
def reported (kind : FaultKind) (detail : Nat) (s : State) : Diag :=
  match s.diag.capture with
  | none => { s.diag with capture := some { kind, detail, time := s.link.clock } }
  | some _ => { s.diag with seconds := min 255 (s.diag.seconds + 1) }

/-- The characters of bytes, without framing errors. -/
def clean (bs : List Byte) : List RxChar := bs.map fun b => { byte := b, framing := false }

/-- The seven bytes of a mark record (10, section 10.13). -/
def markRecordBytes (c : Console) (bib raw edit : Nat) : List Byte :=
  let bs := 0xE5#8 :: consoleId c :: (be16 (edit * 1024 + bib) ++ be16 raw)
  bs ++ [sumCheck bs]

/-- The three bytes of a heartbeat (10, section 10.13). -/
def heartbeatBytes (c : Console) : List Byte := [0xE6#8, consoleId c, sumCheck [0xE6#8, consoleId c]]

/-! ## Laws that every step keeps -/

/-- The board queue never holds two items with the same key nor more than 32 items (R144). -/
def QueueOk (q : List BoardItem) : Prop := (q.map BoardItem.key).Nodup ∧ q.length ≤ 32

/-- LINK's queues are within their capacities: 32 notices, 4 waiting frames (R152). -/
def LinkOk (l : Link) : Prop := l.notices.length ≤ 32 ∧ l.buffer.length ≤ 4

/-- There are sixteen message lines (R141, R148). -/
def MessagesOk (s : State) : Prop := s.brd.messages.length = 16

/-- The queues of the part are within their capacities. -/
def QueuesOk (s : State) : Prop := QueueOk s.brd.queue ∧ LinkOk s.link

/-- A reply waits or is being sent exactly while a request is in hand, never two (R155). -/
def HandOk (s : State) : Prop :=
  match s.link.inHand with
  | none => Free s
  | some h =>
    (∃ r, s.link.replyWaiting = some r ∧ r.tag = h.tag ∧ r.kind = replyKind h.kind ∧ ∀ x y, s.link.tx ≠ .reply x y) ∨
      (s.link.replyWaiting = none ∧ ∃ r status, s.link.tx = .reply r status ∧ r.tag = h.tag ∧ r.kind = replyKind h.kind)

/-- No attempt is in an on-hill phase. -/
def HillClear (s : State) : Prop := ∀ a ∈ s.cst.attempts, a.state.onHill = false

/-- The attempts are numbered from 1 in creation order. At most one is in an on-hill phase, it belongs to the round in progress,
which is OPEN, and none is while an arm is held (R32, R34, R42). -/
def HillOk (s : State) : Prop :=
  s.cst.attempts.map Attempt.number = List.range' 1 s.cst.attempts.length
    ∧ (s.cst.attempts.filter fun a => a.state.onHill).length ≤ 1
    ∧ (∀ a ∈ s.cst.attempts, a.state.onHill = true → a.round = s.cst.round ∧ s.cst.rstate = .opened)
    ∧ (s.stc.heldArm = true → HillClear s)

/-- The coach-pending record names the head of the start list, and there is none while an attempt is on the hill (R56, R57). -/
def CoachOk (s : State) : Prop :=
  ∀ b k, s.stc.coach = some (b, k) → s.cst.startList.head? = some b ∧ HillClear s

/-- The positioner is never in a motion state while an attempt is in an on-hill phase (R60). -/
def GateOk (s : State) : Prop := s.gate.state.motion = true → HillClear s

/-- The hill's laws. -/
def HillLaws (s : State) : Prop := HillOk s ∧ CoachOk s ∧ GateOk s

/-- The work of a cycle end (R48, R81, R96, R97, R98, R100): the means, the sample, the judgement of a pending clear and the board
change. -/
def CycleEndDoes (s t : State) : Prop :=
  let gating := truncatedMean ((gatingReadings s).map Reading.t)
  let scoring := truncatedMean ((scoringReadings s).map Reading.t)
  t.wln.gating = { value := gating, time := some s.link.clock, age := 0,
                   iced := (gatingReadings s).any fun r => r.status == .iced, staleTaken := false,
                   staleQueued := s.wln.gating.staleQueued }
  ∧ t.wln.scoringMean = scoring ∧ t.wln.nGating = (gatingReadings s).length ∧ t.wln.nScoring = (scoringReadings s).length
  ∧ t.wln.stations = s.wln.stations
  ∧ (∀ n m a, s.wln.window = some (n, true) → scoring = some m → attempt? s n = some a →
      (a.samples.length < 64 → t.wln.window = s.wln.window ∧ (attempt? t n).map Attempt.samples = some (a.samples ++ [m]))
      ∧ (64 ≤ a.samples.length → t.wln.window = some (n, false) ∧ (attempt? t n).map Attempt.samples = some a.samples
          ∧ ∃ r, attempt? t n = some r ∧ .windOverflow ∈ r.faults))
  ∧ (∀ n, s.wln.window = some (n, false) ∨ scoring = none →
      t.wln.window = s.wln.window ∧ (attempt? t n).map Attempt.samples = (attempt? s n).map Attempt.samples)
  ∧ (gating ≠ none ∨ (s.wln.gating.value ≠ none ∧
        (s.wln.gating.age ≤ s.prof.profile.hill.freshness ∨ s.wln.gating.staleTaken = false)) →
      (s.wln.windHold = none → t.wln.windHold = some 1000 ∧ key .wind ∈ t.brd.queue.map BoardItem.key)
      ∧ (s.wln.windHold ≠ none → t.wln.windHold = s.wln.windHold ∧ t.wln.windDeferred = true))
  ∧ (gating = none → (s.wln.gating.value = none ∨ (s.prof.profile.hill.freshness < s.wln.gating.age ∧
        s.wln.gating.staleTaken = true)) →
      t.wln.windHold = s.wln.windHold ∧ t.wln.windDeferred = s.wln.windDeferred)
  ∧ (s.stc.clearPending = false → t.stc = s.stc ∧ t.gate = s.gate)
  ∧ (∀ a, s.stc.clearPending = true → HillLaws s → onHill? s = some a → a.state = .waiting → s.stc.light = .amber →
      (∀ v, gating = some v → s.prof.profile.hill.lo ≤ v → v ≤ s.prof.profile.hill.hi →
        (attempt? t a.number).map Attempt.state = some .cleared ∧ t.stc.clearPending = false
          ∧ (t.stc.light = .green ∨ t.stc.light = .greenWarn) ∧ t.stc.window = some s.prof.profile.hill.startWindow
          ∧ t.gate = gatesTaken s.gate)
      ∧ ((∀ v, gating = some v → v < s.prof.profile.hill.lo ∨ s.prof.profile.hill.hi < v) →
        (attempt? t a.number).map Attempt.state = some .waiting ∧ t.stc = { s.stc with windWaitSent := true }
          ∧ t.gate = s.gate
          ∧ (Room 1 s → t.diag = counted .windDelay s
              ∧ t.link = (overflows .windDelay s ++ if s.stc.windWaitSent then [] else [NoticeBody.windWait a.number gating]).foldl
                  (fun l b => queueNotice b l) s.link)))

/-- A timer runs and comes to its end in this millisecond. -/
def RunsOut : Option Nat → Prop
  | some n => n ≤ 1
  | none => False

/-- The events of the timers that end in the millisecond that passes now, and of what the hill clock reaches in it. -/
def FallsDue (s : State) : Instr → Prop
  | .debounceExpiry .leave => RunsOut s.fld.leave.timer
  | .debounceExpiry .juryStop => RunsOut s.fld.stop.timer
  | .flashTimerExpiry => RunsOut s.stc.flashTimer
  | .warningPeriodReached => 0 < s.prof.profile.hill.warning ∧ s.prof.profile.hill.warning < s.stc.window.getD 0
      ∧ s.stc.window.getD 0 - 1 ≤ s.prof.profile.hill.warning
  | .countdownSecondChange => 1 < s.stc.window.getD 0 ∧ (s.stc.window.getD 0 - 1 + 999) / 1000 < (s.stc.window.getD 0 + 999) / 1000
  | .startWindowExpiry => RunsOut s.stc.window
  | .stepTimeout => RunsOut s.gate.stepTimer
  | .settleExpiry => RunsOut s.gate.settleTimer
  | .homeTimeout => RunsOut s.gate.homeTimer
  | .contentionMiss => RunsOut s.wln.carrierTimer
  | .turnaroundEnd => RunsOut s.wln.turnTimer
  | .replyTimeout => RunsOut s.wln.replyTimer
  | .replyGapExpiry => RunsOut s.wln.gapTimer
  | .cyclePeriodExpiry => RunsOut s.wln.cycleTimer
  | .gatingMeanStale => s.wln.gating.value.isSome = true ∧ s.wln.gating.staleTaken = false ∧ s.wln.gating.staleQueued = false
      ∧ s.prof.profile.hill.freshness ≤ s.wln.gating.age
  | .windDeferExpiry => RunsOut s.wln.windHold
  | .listenEnd => s.wln.test = .listening 0 false ∨ s.wln.test = .listening 0 true ∨ s.wln.test = .listening 1 false
      ∨ s.wln.test = .listening 1 true
  | .trapTimerExpiry => RunsOut s.meas.trapTimer
  | .silenceTimerExpiry c => RunsOut (silence c s.meas)
  | .markLimitExpiry => RunsOut (s.meas.markLimit.map Prod.snd)
  | .secondMarkWaitExpiry n => ∃ w ∈ s.meas.waits, w.1 = n ∧ w.2 ≤ 1
  | .pacingExpiry => RunsOut s.brd.pacing
  | .stallTimerExpiry => RunsOut s.brd.stallTimer
  | _ => False

/-- The light state that R40 gives for the round and for the state of an attempt on the hill. Whether a green is GREEN or
GREEN_WARN is the start window's affair (R50). -/
def LightFits (r : RoundState) (a : Option AttemptState) (l : Light) : Prop :=
  match r, a with
  | .none, _ | .confirmed, _ => l = .dark
  | _, some .waiting => l = .amber
  | _, some .cleared => l = .green ∨ l = .greenWarn
  | _, _ => l = .red

/-- The light shows the hill (R40). -/
def LightOk (s : State) : Prop := LightFits s.cst.rstate ((onHill? s).map Attempt.state) s.stc.light

/-- The speed trap watches and counts only while an attempt is in IN_RUN (R106). -/
def TrapOk (s : State) : Prop :=
  s.meas.trap = .ready ∨ s.meas.trap = .counting → ∃ a, onHill? s = some a ∧ a.state = .inRun

/-- A clear is pending only while an attempt waits at the bar (R46, R47, R52). -/
def ClearOk (s : State) : Prop := s.stc.clearPending = true → ∃ a, onHill? s = some a ∧ a.state = .waiting

/-- An attempt on the hill has no landing mark and no distance yet, and a second-mark wait runs only for an attempt in SCORING
with status PENDING_SECOND (R32, R114, R117). -/
def MarksOk (s : State) : Prop :=
  (∀ a ∈ s.cst.attempts, a.state.onHill = true →
    a.markA = none ∧ a.markB = none ∧ a.distance = none ∧ a.distanceStatus = .none)
    ∧ ∀ w ∈ s.meas.waits, ∃ a, attempt? s w.1 = some a ∧ a.state = .scoring ∧ a.distanceStatus = .pendingSecond

/-- Two neighbours of the ranking stand in its order (R134). -/
def InOrder (dir : List Competitor) (a b : Nat) : Prop :=
  ∀ x y, findBib dir a = some x → findBib dir b = some y → ranksBefore x y = true

/-- The ranking holds exactly the bibs that qualify (R133), each once, in the order of R134; the directory holds a bib once
(R30). -/
def RankingOk (s : State) : Prop :=
  (s.cst.directory.map Competitor.bib).Nodup ∧ s.scr.ranking.Nodup
    ∧ (∀ b, b ∈ s.scr.ranking ↔ ∃ c ∈ s.cst.directory, c.bib = b ∧ qualifies c = true)
    ∧ s.scr.ranking.Pairwise (InOrder s.cst.directory)

/-- A step that does not stop the part. -/
def Goes (o : Host.Outcome State Fault Refusal) : Prop := ∃ t, o = .next t

/-- Every step keeps a property. -/
def Kept (P : State → Prop) : Prop := ∀ s t, P s → step s = .next t → P t

end Sys2Proof
end

