-- ==== Sys2Proof/Certificates/Slice0/Obligations.lean ====
section
/-! DEFINITION. The statements for the provers. -/

open Sys2Proof Sys2Proof.Machine

/-! ## The machine -/

def Obligations.StepTakesTheFrontCommand : Prop :=
  ∀ (c : Instr) (rest : List Instr) (s : State), step (s.withPending (c :: rest)) = exec c (s.withPending rest)

def Obligations.EveryCommandAnswersNext : Prop := ∀ (c : Instr) (s : State), Goes (exec c s)

/-- Model's choice, log 1: with no command waiting a step lets a millisecond pass. The events that fall due in it are those of the
timers that end; the orders among them are free (log 3), and that the clock reports the moments of the start window, of the gating
mean (log 33) and of the listen is the model's choice too. So are the timer of the characters after a closed reply (trailing,
log 23), what is left of the hold of a WIND enqueue (windHold, log 26), the interval count by the millisecond (log 34), and that a
frame begins at the end of a step (log 9). -/
def Obligations.AnEmptyQueueLetsAMillisecondPass : Prop :=
  ∀ s : State, s.pending = [] → ∃ t, step s = .next t
    ∧ t.link.clock = (if s.link.clock = 86399999 then 0 else s.link.clock + 1)
    ∧ t.prof = s.prof ∧ t.cst = s.cst ∧ t.scr = s.scr ∧ t.diag = s.diag
    ∧ t.stc = { s.stc with window := s.stc.window.map (· - 1), flashTimer := s.stc.flashTimer.map (· - 1) }
    ∧ t.gate = { s.gate with stepTimer := s.gate.stepTimer.map (· - 1), settleTimer := s.gate.settleTimer.map (· - 1),
                             homeTimer := s.gate.homeTimer.map (· - 1) }
    ∧ t.fld.leave = { s.fld.leave with timer := s.fld.leave.timer.map (· - 1) }
    ∧ t.fld.stop = { s.fld.stop with timer := s.fld.stop.timer.map (· - 1) }
    ∧ t.fld.written = s.fld.written
    ∧ t.wln = { s.wln with
        carrierTimer := s.wln.carrierTimer.map (· - 1), turnTimer := s.wln.turnTimer.map (· - 1),
        replyTimer := s.wln.replyTimer.map (· - 1), gapTimer := s.wln.gapTimer.map (· - 1),
        cycleTimer := s.wln.cycleTimer.map (· - 1), windHold := s.wln.windHold.map (· - 1), trailing := t.wln.trailing,
        test := t.wln.test,
        stations := s.wln.stations.map fun x => { x with reading := x.reading.map fun r => { r with age := r.age + 1 } },
        gating := { s.wln.gating with age := s.wln.gating.age + 1, staleQueued := t.wln.gating.staleQueued } }
    ∧ (t.wln.gating.staleQueued = true ↔ s.wln.gating.staleQueued = true ∨ FallsDue s .gatingMeanStale)
    ∧ (RunsOut s.wln.trailing → t.wln.trailing = none)
    ∧ (¬RunsOut s.wln.trailing → t.wln.trailing = s.wln.trailing.map (· - 1))
    ∧ (∀ r heard, s.wln.test = .listening r heard → t.wln.test = .listening (r - 1) heard)
    ∧ ((∀ r heard, s.wln.test ≠ .listening r heard) → t.wln.test = s.wln.test)
    ∧ t.meas = { s.meas with
        interval := if s.meas.trap = .counting then min 200000 (s.meas.interval + 100) else s.meas.interval,
        trapTimer := s.meas.trapTimer.map (· - 1), silenceA := s.meas.silenceA.map (· - 1),
        silenceB := s.meas.silenceB.map (· - 1), markLimit := s.meas.markLimit.map (fun x => (x.1, x.2 - 1)),
        waits := s.meas.waits.map (fun x => (x.1, x.2 - 1)) }
    ∧ t.brd.pacing = s.brd.pacing.map (· - 1) ∧ t.brd.messages = s.brd.messages ∧ t.brd.ready = s.brd.ready
    ∧ t.brd.stalled = s.brd.stalled ∧ t.brd.subjects = s.brd.subjects ∧ Frames [] s t
    ∧ (∀ n, s.brd.stallTimer = some n → s.brd.ready = false → s.brd.queue ≠ [] → (lineOf s .boardReady).isSome = true →
        t.brd.stallTimer = some (n - 1))
    ∧ t.link.rate = s.link.rate ∧ t.link.brk = s.link.brk ∧ t.link.mask = s.link.mask ∧ t.link.clockSet = s.link.clockSet
    ∧ t.link.attemptCursor = s.link.attemptCursor ∧ t.link.rankCursor = s.link.rankCursor ∧ t.link.asm = s.link.asm
    ∧ t.link.buffer = s.link.buffer ∧ t.link.inHand = s.link.inHand ∧ Sends [] s t
    ∧ t.pending.Perm (dueEvents s) ∧ ∀ i, i ∈ dueEvents s ↔ FallsDue s i

/-- The values that the spec gives for hard reset, in the state right after reset, with the default profile. The model's choices
and inferences among them: the image fails the load check (log 5), RESET_DONE carries the time 0 (log 35). That a power-on reset
in this state changes nothing rests also on logs 37 and 43, which choose the values of the model's own fields and of the gating
mean record. -/
def Obligations.ResetLeavesTheSpecValues : Prop :=
  (let s := State.reset
   s.prof.profile = defaultProfile ∧ s.prof.valid = false ∧ s.prof.unsaved = false ∧ s.prof.writing = none
     ∧ s.fld.leave.timer = none ∧ s.fld.leave.stamp = none ∧ s.fld.stop.timer = none ∧ s.fld.stop.stamp = none
     ∧ s.cst.round = 0 ∧ s.cst.rstate = .none ∧ s.cst.startList = [] ∧ s.cst.directory = [] ∧ s.cst.attempts = []
     ∧ s.stc.light = .dark ∧ s.stc.heldArm = false ∧ s.stc.clearPending = false ∧ s.stc.windWaitSent = false
     ∧ s.stc.window = none ∧ s.stc.flashTimer = none ∧ s.stc.flashOn = false ∧ s.stc.countdown = none ∧ s.stc.coach = none
     ∧ s.gate.state = .unknown ∧ s.gate.current = none ∧ s.gate.target = none ∧ s.gate.kind = none ∧ s.gate.jury = none
     ∧ s.gate.reference = none ∧ s.gate.lastDir = none ∧ s.gate.corrected = false ∧ s.gate.returnWaiting = false
     ∧ s.gate.stepTimer = none ∧ s.gate.settleTimer = none ∧ s.gate.homeTimer = none
     ∧ s.wln.poll = .stopped ∧ s.wln.phase = .none ∧ s.wln.cycle = 0 ∧ s.wln.cycleTimer = none ∧ s.wln.inverted = false
     ∧ s.wln.polarityCount = 0 ∧ s.wln.contention = 0 ∧ s.wln.noise = 0 ∧ s.wln.test = .idle ∧ s.wln.lastTest = none
     ∧ (∀ x ∈ s.wln.stations, x.state = .unknown ∧ x.reading = none ∧ x.misses = 0 ∧ x.replies = 0 ∧ x.missCount = 0
         ∧ x.badCount = 0 ∧ x.latch = false ∧ x.clamped = false)
     ∧ s.wln.gating.value = none ∧ s.wln.scoringMean = none ∧ s.wln.nGating = 0 ∧ s.wln.nScoring = 0
     ∧ s.wln.windHold = none ∧ s.wln.windDeferred = false ∧ s.wln.window = none
     ∧ s.meas.trap = .off ∧ s.meas.trapAttempt = none ∧ s.meas.interval = 0 ∧ s.meas.trapTimer = none
     ∧ s.meas.stateA = .silent ∧ s.meas.stateB = .silent ∧ s.meas.silenceA = some 5000 ∧ s.meas.silenceB = some 5000
     ∧ s.meas.asmA = [] ∧ s.meas.asmB = [] ∧ s.meas.markLimit = none ∧ s.meas.waits = []
     ∧ s.scr.ranking = []
     ∧ s.brd.queue = [] ∧ s.brd.subjects = noSubjects ∧ s.brd.messages = List.replicate 16 [] ∧ s.brd.sender = none
     ∧ s.brd.pacing = none ∧ s.brd.stallTimer = none ∧ s.brd.stalled = false
     ∧ s.link.rate = 2 ∧ s.link.brk = false ∧ s.link.asm = [] ∧ s.link.buffer = [] ∧ s.link.inHand = none
     ∧ s.link.tx = .idle ∧ s.link.replyWaiting = none ∧ s.link.mask = 0xFFFF#16
     ∧ s.link.notices = [{ seq := 0#8, time := 0, body := .resetDone .power false }]
     ∧ s.link.overrun = false ∧ s.link.discard = false ∧ s.link.clock = 0 ∧ s.link.clockSet = false
     ∧ s.link.attemptCursor = { position := 1, advance := false } ∧ s.link.rankCursor = { position := 1, advance := false }
     ∧ s.diag.counter0 = { kind := .none, openOnly := false, value := 0 }
     ∧ s.diag.counter1 = { kind := .none, openOnly := false, value := 0 }
     ∧ s.diag.capture.map Capture.kind = some .profileCheck ∧ s.diag.seconds = 0)
  ∧ (exec (.hardReset .power) State.reset = .next State.reset)

/-- What a hard reset leaves, from every state: the load check's profile, every block at its hard reset values, RESET_DONE alone
in the notice queue, and polling when a slot is present. Of WLN's reset values, the time, the age and the iced mark of the gating
mean record (log 43) and the values of the model's own fields (log 37) are the model's choice. That RESET_DONE and a PROFILE_CHECK
capture carry the time 0 is an inference (log 35). -/
def Obligations.HardResetFromEveryState : Prop :=
  ∀ (cause : ResetCause) (s : State), ∃ t, exec (.hardReset cause) s = .next t
    ∧ t.prof.image = s.prof.image ∧ t.prof.valid = loadPasses s.prof.image
    ∧ t.prof.profile = (if loadPasses s.prof.image then s.prof.image.profile else defaultProfile)
    ∧ t.prof.unsaved = false ∧ t.prof.writing = none
    ∧ t.cst = cstReset ∧ t.stc = stcReset ∧ t.scr.ranking = []
    ∧ t.gate = gateReset (!(driveComplete t.prof.profile.lines))
    ∧ t.meas = measReset t.prof.profile.hill.consoleBInUse
    ∧ t.brd = brdReset ((sensedFn t .boardReady).getD true)
    ∧ t.link = { linkReset with notices := [{ seq := 0#8, time := 0, body := .resetDone cause t.prof.valid }], seq := 1#8 }
    ∧ t.diag.counter0 = counterReset ∧ t.diag.counter1 = counterReset ∧ t.diag.seconds = 0
    ∧ (t.prof.valid = true → t.diag.capture = none)
    ∧ (t.prof.valid = false → t.diag.capture =
        some { kind := .profileCheck, detail := if s.prof.image.crcMatches then 2 else 1, time := 0 })
    ∧ t.fld.outside = s.fld.outside ∧ t.fld.leave.timer = none ∧ t.fld.stop.timer = none
    ∧ ((∀ k, k < 8 → slot? t k = none) → t.wln = wlnReset)
    ∧ ((∃ k, k < 8 ∧ (slot? t k).isSome = true) → t.wln.poll = .inCycle ∧ t.wln.cycle = 0 ∧ t.wln.phase ≠ .none)
    ∧ t.pending = s.pending

/-! ## Laws that every step keeps -/

/-- The queues keep their capacities, one reply goes with the request in hand, and there are sixteen message lines (R141, R144,
R152, R155). -/
def Obligations.QueuesKeepTheirCapacities : Prop := Kept QueuesOk ∧ Kept HandOk ∧ Kept MessagesOk

/-- The laws below hold right after reset. -/
def Obligations.TheLawsHoldAtReset : Prop :=
  (QueuesOk State.reset)
  ∧ (HillLaws State.reset ∧ TrapOk State.reset ∧ LightOk State.reset ∧ RankingOk State.reset
     ∧ HandOk State.reset ∧ ClearOk State.reset ∧ MarksOk State.reset ∧ MessagesOk State.reset)

/-- The laws of the hill (R32, R34, R42, R56, R57, R60), of a pending clear (R46, R47, R52), of the speed trap (R106), of the
light (R40), and of marks and distances (R32, R114, R117) are kept together. -/
def Obligations.TheLightShowsTheHill : Prop := Kept fun s => HillLaws s ∧ ClearOk s ∧ TrapOk s ∧ LightOk s ∧ MarksOk s

def Obligations.TheRankingStaysInOrder : Prop := Kept RankingOk

/-! ## Requests in general -/

/-- LINK reads back every request that a frame can carry, with every operand (10, section 10.13). -/
def Obligations.RequestsDecodeToThemselves : Prop :=
  ∀ i : Instr, i.wf = true → (requestFrame i).isSome = true → decodeRequest (encodeRequest i) = .cmd i

/-- A request that is refused changes nothing but what its reply needs. MARK LEAVE is apart: R54 has it count a stray leave. -/
def Obligations.ARefusedRequestChangesNothing : Prop :=
  ∀ (i : Instr) (s t : State) (code : ReplyCode) (data : ReplyData), Free s → (∀ tag, i ≠ .markLeave tag) →
    Answers i code data s t → code ≠ .done → code ≠ .accepted →
    data = .none ∧ OnlyChanges [.brd, .link] s t ∧ Quiet s t

/-- Model's choice, log 4: a request that comes while another is in hand waits in the input buffer, or is discarded with the
discard flag. -/
def Obligations.ARequestWaitsBehindTheOneInHand : Prop :=
  ∀ (i : Instr) (s : State) (h : InHand), (requestFrame i).isSome = true → s.link.inHand = some h →
    s.link.tx ≠ .idle →
    Happens i [] s fun t =>
      t.brd.subjects = s.brd.subjects ∧ Boards [] s t ∧ t.link.inHand = some h
        ∧ (s.link.buffer.length < 4 → t.link = { s.link with buffer := s.link.buffer ++ [encodeRequest i] })
        ∧ (4 ≤ s.link.buffer.length → t.link = { s.link with discard := true })

/-- A frame that carries a request, received with a sound CRC while the receiver hunts and nothing is in hand, does what the
request does (R154, R155). -/
def Obligations.AReceivedFrameIsItsRequest : Prop :=
  ∀ (i : Instr) (s : State), Free s → s.link.asm = [] → s.link.buffer = [] → i.wf = true →
    (requestFrame i).isSome = true →
    ∃ t, exec (.frameReceived ((controlFrame (encodeRequest i)).map fun b => { byte := b, framing := false })) s = .next t
      ∧ exec i s = .next t

/-- The transmitter (R155, R156, R157): the end of a reply lets the request go, and with frames in the input buffer the oldest is
taken and served, its reply before any notice; the end of a notice leaves the transmitter to the next frame, the end of a break
begins the oldest notice. That the status byte is formed when the sending of the reply begins,
with the overrun and discard flags then cleared, is an inference (log 10, DEDUCED), and that the oldest notice leaves the queue at
the end of the break is the model's choice (log 11). -/
def Obligations.TheTransmitterGoesOn : Prop :=
  ∀ s : State,
    (∀ r status h, s.link.tx = .reply r status → s.link.inHand = some h → h.change = none → s.link.buffer = [] →
      s.link.replyWaiting = none →
      Happens .replySent [] s fun t => t.link.inHand = none ∧ LinkKept s t ∧ Boards [] s t
        ∧ (s.link.notices = [] → t.link.tx = .idle)
        ∧ (∀ n rest, s.link.notices = n :: rest → s.link.brk = false → t.link.tx = .notice n ∧ t.link.notices = rest)
        ∧ (s.link.notices ≠ [] → s.link.brk = true → t.link.tx = .brk ∧ t.link.notices = s.link.notices))
    ∧ (∀ r status h body rest, s.link.tx = .reply r status → s.link.inHand = some h → h.change = none →
      s.link.buffer = body :: rest → s.link.replyWaiting = none →
      (∃ t, exec .replySent s = .next t ∧ t.link.buffer = rest
        ∧ (∃ g, t.link.inHand = some g ∧ g.kind = body.getD 0 0 ∧ g.tag = body.getD 1 0)
        ∧ ∃ q st, t.link.tx = .reply q st ∧ q.kind = replyKind (body.getD 0 0) ∧ q.tag = body.getD 1 0)
      ∧ ∀ i, body = encodeRequest i → i.wf = true → (requestFrame i).isSome = true → s.link.notices = [] →
          exec .replySent s = exec i { s with link := { s.link with tx := .idle, inHand := none, buffer := rest } })
    ∧ (∀ n, s.link.tx = .notice n →
      Happens .noticeSent [] s fun t => LinkKept s t ∧ Boards [] s t ∧ t.link.inHand = s.link.inHand
        ∧ (∀ r, s.link.replyWaiting = some r →
            t.link.tx = .reply r (statusByte s) ∧ t.link.replyWaiting = none ∧ t.link.overrun = false
              ∧ t.link.discard = false)
        ∧ (s.link.replyWaiting = none → s.link.notices = [] → t.link.tx = .idle)
        ∧ (∀ m rest, s.link.replyWaiting = none → s.link.notices = m :: rest →
            (s.link.brk = false → t.link.tx = .notice m ∧ t.link.notices = rest)
              ∧ (s.link.brk = true → t.link.tx = .brk ∧ t.link.notices = s.link.notices)))
    ∧ (∀ n rest, s.link.tx = .brk → s.link.notices = n :: rest →
      Happens .breakEnd [] s fun t => LinkKept s t ∧ Boards [] s t ∧ t.link.tx = .notice n ∧ t.link.notices = rest)

/-- The receiver (R154): a byte that is no lead, a length outside 2..200, a gap, and a complete frame with a framing error or
another CRC each discard with one LINK_BAD event, and a byte that ends a gap is judged afresh. That a framing error is judged when
the frame is complete is the model's choice (log 12). -/
def Obligations.TheReceiverDiscardsWithLinkBad : Prop :=
  ∀ (s : State) (c : RxChar),
    (s.link.asm = [] → c.byte ≠ 0xA7 →
      Happens (.controlByteDiscarded c) [.diag] s fun t => t.diag = counted .linkBad s ∧ t.link.asm = [] ∧ Boards [] s t
        ∧ Sends (overflows .linkBad s) s t)
    ∧ (∀ lead, s.link.asm = [lead] → (c.byte.toNat < 2 ∨ 200 < c.byte.toNat) →
      Happens (.controlByteDiscarded c) [.diag] s fun t => t.diag = counted .linkBad s ∧ t.link.asm = [] ∧ Boards [] s t
        ∧ Sends (overflows .linkBad s) s t)
    ∧ (s.link.asm ≠ [] → c.byte = 0xA7 →
      Happens (.linkGap c) [.diag] s fun t => t.diag = counted .linkBad s ∧ t.link.asm = [c] ∧ Boards [] s t
        ∧ Sends (overflows .linkBad s) s t)
    ∧ (s.link.asm = [] → c.byte = 0xA7 → Happens (.linkGap c) [] s fun t => t.link.asm = [c] ∧ Boards [] s t ∧ Sends [] s t)
    ∧ (∀ (f : List RxChar) (body : List Byte) (hi lo : Byte), s.link.asm = [] → 2 ≤ body.length → body.length ≤ 200 →
      f.map RxChar.byte = 0xA7 :: byte body.length :: (body ++ [hi, lo]) →
      (∃ x ∈ f, x.framing = true) ∨ [hi, lo] ≠ be16 (crc (byte body.length :: body)).toNat →
      Happens (.frameReceived f) [.diag] s fun t => t.diag = counted .linkBad s ∧ LinkKept s t ∧ Boards [] s t
        ∧ t.link.inHand = s.link.inHand ∧ Sends (overflows .linkBad s) s t)

/-- A notice (R158): masked, queued with the next sequence number and the clock, or dropped with the overrun flag. -/
def Obligations.NoticesAreQueuedByTheirGroup : Prop :=
  ∀ (b : NoticeBody) (l : Link),
    (l.mask.getLsbD b.group = false → queueNotice b l = l)
    ∧ (l.mask.getLsbD b.group = true → l.notices.length < 32 →
        queueNotice b l = { l with notices := l.notices ++ [{ seq := l.seq, time := l.clock, body := b }], seq := l.seq + 1 })
    ∧ (l.mask.getLsbD b.group = true → 32 ≤ l.notices.length →
        queueNotice b l = { l with seq := l.seq + 1, overrun := true })

/-- An enqueue (R144): a key already there keeps its place, a new one goes to the end, and a full queue first drops its first
BACKGROUND item. -/
def Obligations.AnEnqueueKeepsOneItemPerKey : Prop :=
  ∀ (k : Key) (blank : Bool) (q : List BoardItem),
    (k ∈ q.map BoardItem.key → (enqueued k blank q).2 = false ∧ (enqueued k blank q).1.map BoardItem.key = q.map BoardItem.key
      ∧ (∀ i ∈ (enqueued k blank q).1, i.key = k → i.blank = blank))
    ∧ (k ∉ q.map BoardItem.key → q.length < 32 → enqueued k blank q = (q ++ [{ key := k, blank }], false))
    ∧ (∀ before drop after, k ∉ q.map BoardItem.key → 32 ≤ q.length → q = before ++ drop :: after →
        drop.key.field.cls = .background → (∀ i ∈ before, i.key.field.cls ≠ .background) →
        enqueued k blank q = (before ++ after ++ [{ key := k, blank }], true))

/-! ## Hill profile and field lines (01) -/

/-- The edits of the profile and STORE PROFILE are refused while a round is in progress, and then while a store write runs
(R2, orders 2 and 3). Requests about an attempt (R36, R37, R103, R119, R123, R124): a number outside 1..400 is RANGE, an
unknown one NOT_FOUND, and one of a confirmed round LOCKED. A judge outside 1..5, a mark above 40, a distance above 1,000 and
a wind figure outside -6,000..6,000 are RANGE whatever the number is (R103, R119, R123). -/
def Obligations.EditsAreLockedAndAttemptsChecked : Prop :=
  (∀ (i : Instr) (s : State), Free s →
     ((∃ tag h, i = .setHill tag h) ∨ (∃ tag a b c d e, i = .setStation tag a b c d e) ∨ (∃ tag p, i = .setSurvey tag p) ∨
       (∃ tag l, i = .setLines tag l ∧ l.length = 16) ∨ ∃ tag, i = .storeProfile tag) →
     (s.cst.rstate = .opened ∨ s.cst.rstate = .suspended ∨ s.cst.rstate = .ended → Refuses i .locked s)
     ∧ (s.cst.rstate = .none ∨ s.cst.rstate = .confirmed → s.prof.writing.isSome = true → Refuses i .busy s))
  ∧ (∀ (i : Instr) (n : Nat) (s : State), Free s →
     ((∃ tag judge mark, i = .enterMark tag n judge mark ∧ 1 ≤ judge ∧ judge ≤ 5 ∧ mark ≤ 40) ∨ (∃ tag, i = .closeMarks tag n) ∨
       (∃ tag d, i = .setDistance tag n d ∧ d ≤ 1000) ∨ (∃ tag w, i = .setWind tag n w ∧ -6000 ≤ w ∧ w ≤ 6000) ∨
       (∃ tag, i = .voidAttempt tag n)) →
     (n = 0 ∨ 400 < n → Refuses i .range s)
     ∧ (1 ≤ n → n ≤ 400 → attempt? s n = none → Refuses i .notFound s)
     ∧ (∀ a, 1 ≤ n → n ≤ 400 → attempt? s n = some a →
         (a.round < s.cst.round ∨ (a.round = s.cst.round ∧ s.cst.rstate = .confirmed)) → Refuses i .locked s))
  ∧ (∀ (s : State) (tag : Byte) (n judge mark d : Nat) (w : Int), Free s →
     (judge = 0 ∨ 5 < judge ∨ 40 < mark → Refuses (.enterMark tag n judge mark) .range s)
     ∧ (1000 < d → Refuses (.setDistance tag n d) .range s)
     ∧ (w < -6000 ∨ 6000 < w → Refuses (.setWind tag n w) .range s))

/-- SET HILL (R4): the whole section is replaced, or the request is refused with RANGE. Console B follows its setting (R110), and
the polarity count is 0 with auto-swap off (R90). That a partial record of console B is dropped where the setting turns it off is
the model's choice (log 49), and so is what becomes of staleTaken (log 33). -/
def Obligations.SetHillReplacesTheSection : Prop :=
  ∀ (s : State) (tag : Byte) (h : HillSection), Free s → hasOpenRound s = false → s.prof.writing = none →
    (hillOk h = true → (∀ g, s.gate.current = some g → g ≤ h.gates) → (∀ g, s.gate.jury = some g → g ≤ h.gates) →
      Completes (.setHill tag h) .done .none [.prof, .wln, .meas] s fun t =>
        t.prof = { s.prof with profile := { s.prof.profile with hill := h }, unsaved := true }
        ∧ LinkKept s t ∧ Boards [] s t ∧ t.brd.subjects = s.brd.subjects
        ∧ t.wln = { s.wln with polarityCount := t.wln.polarityCount, gating := t.wln.gating }
        ∧ t.wln.polarityCount = (if h.autoSwap = 1 then s.wln.polarityCount else 0)
        ∧ t.wln.gating = { s.wln.gating with staleTaken := t.wln.gating.staleTaken }
        ∧ (h.consoleB = 1 → s.meas.stateB ≠ .disabled → t.meas = s.meas ∧ Sends [] s t)
        ∧ (h.consoleB = 1 → s.meas.stateB = .disabled →
            t.meas = { s.meas with stateB := .silent, silenceB := some 5000, asmB := [] }
              ∧ Sends [.console .b .disabled .silent] s t)
        ∧ (h.consoleB = 0 → s.meas.stateB = .disabled → t.meas = s.meas ∧ Sends [] s t)
        ∧ (h.consoleB = 0 → s.meas.stateB ≠ .disabled →
            t.meas = { s.meas with stateB := .disabled, silenceB := none, asmB := [] }
              ∧ Sends [.console .b s.meas.stateB .disabled] s t))
    ∧ (hillOk h = false ∨ (∃ g, s.gate.current = some g ∧ h.gates < g) ∨ (∃ g, s.gate.jury = some g ∧ h.gates < g) →
        Refuses (.setHill tag h) .range s)

/-- SET STATION (R5): the slot is replaced; a change of presence or address resets its record and discards its exchange in
progress; a first slot begins polling. That a presence above 1 is refused and of the roles byte two bits are read is the model's
choice (log 30), and so is that the slot's record changes at once while a line test runs (log 53). That a slot which becomes
present is polled from the next cycle on is read from R5 (newcomer, log 32). -/
def Obligations.SetStationReplacesTheSlot : Prop :=
  ∀ (s : State) (tag : Byte) (k presence address bearing roles : Nat), Free s → hasOpenRound s = false →
    s.prof.writing = none →
    let x := slotOf address bearing roles
    let new := if presence = 1 then some x else none
    let p := { s.prof with profile := { s.prof.profile with slots := s.prof.profile.slots.set k new }, unsaved := true }
    (stationOk s.prof.valid s.prof.profile.slots k presence x = true →
      (Completes (.setStation tag k presence address bearing roles) .done .none [.prof, .cst, .stc, .gate, .wln, .diag] s
        fun t => t.prof = p)
      ∧ (s.wln.poll ≠ .stopped →
          Completes (.setStation tag k presence address bearing roles) .done .none [.prof, .wln] s fun t =>
            t.prof = p ∧ Quiet s t
            ∧ (((slot? s k).map StationSlot.address = new.map StationSlot.address → t.wln = s.wln))
            ∧ ((slot? s k).map StationSlot.address ≠ new.map StationSlot.address →
                t.wln = { s.wln with
                  stations := s.wln.stations.modify k fun _ =>
                    { stationReset with newcomer := (slot? s k).isNone || (station s k).newcomer },
                  discard := if s.wln.phase ≠ .none ∧ s.wln.polled = k then true else s.wln.discard }))
      ∧ (s.wln.poll = .stopped → s.wln.test = .idle → s.prof.profile.slots.length = 8 → s.wln.stations.length = 8 →
          presence = 1 → slot? s k = none →
          Completes (.setStation tag k presence address bearing roles) .done .none [.prof, .wln] s fun t =>
            t.prof = p ∧ t.wln.poll = .inCycle ∧ t.wln.cycle = (s.wln.cycle + 1) % 65536 ∧ t.wln.phase ≠ .none))
    ∧ (stationOk s.prof.valid s.prof.profile.slots k presence x = false →
        Refuses (.setStation tag k presence address bearing roles) .range s)

/-- SET SURVEY (R6), STORE PROFILE (R8) and the end of a store write (R9). -/
def Obligations.SurveyStoreAndItsEnd : Prop :=
  (∀ (s : State) (tag : Byte) (points : List SurveyPoint), Free s → hasOpenRound s = false → s.prof.writing = none →
     (surveyOk points = true → Completes (.setSurvey tag points) .done .none [.prof] s fun t =>
       t.prof = { s.prof with profile := { s.prof.profile with survey := some points }, unsaved := true } ∧ Quiet s t)
     ∧ (surveyOk points = false → Refuses (.setSurvey tag points) .range s)
     ∧ (crossChecks s.prof.profile = true → Completes (.storeProfile tag) .accepted .none [.prof] s fun t =>
         t.prof.writing = some s.prof.profile ∧ t.prof.profile = s.prof.profile ∧ t.prof.valid = s.prof.valid
           ∧ t.prof.unsaved = s.prof.unsaved ∧ Quiet s t)
     ∧ (crossChecks s.prof.profile = false → Refuses (.storeProfile tag) .range s))
  ∧ (∀ (s : State) (p : Profile), s.prof.writing = some p →
     (Happens (.storeWriteEnd true) [.prof] s fun t =>
       t.prof = { s.prof with image := { profile := p, crcMatches := true }, valid := true, unsaved := false, writing := none }
         ∧ LinkKept s t ∧ Boards [] s t ∧ Sends [.profileStored false] s t)
     ∧ (Happens (.storeWriteEnd false) [.prof, .diag] s fun t =>
       t.prof.profile = s.prof.profile ∧ t.prof.valid = s.prof.valid ∧ t.prof.unsaved = s.prof.unsaved
         ∧ t.prof.writing = none ∧ loadPasses t.prof.image = false
         ∧ (s.diag.capture = none →
             t.diag = { s.diag with capture := some { kind := .storeWrite, detail := 0, time := s.link.clock } })
         ∧ (s.diag.capture.isSome = true → t.diag = { s.diag with seconds := min 255 (s.diag.seconds + 1) })
         ∧ LinkKept s t ∧ Boards [] s t ∧ Sends [.profileStored true] s t))

/-- SET LINES (R7, R12, R16): the assignment, the written levels, the debounced levels, WIND_TXEN, the positioner and the board's
ready level. That a debounced function without a line rests at its inactive level is the model's choice (log 21). -/
def Obligations.SetLinesAssignsEveryLine : Prop :=
  ∀ (s : State) (tag : Byte) (codes : List (Nat × Nat)), Free s → hasOpenRound s = false → s.prof.writing = none →
    codes.length = 16 →
    (s.gate.state.motion = true ∨ s.wln.test ≠ .idle → Refuses (.setLines tag codes) .busy s)
    ∧ (s.gate.state.motion = false → s.wln.test = .idle →
        assignmentsOf codes = none ∨ (assignmentsOf codes).map assignmentsOk = some false → Refuses (.setLines tag codes) .range s)
    ∧ ∀ l, s.gate.state.motion = false → s.wln.test = .idle → assignmentsOf codes = some l → assignmentsOk l = true →
      Completes (.setLines tag codes) .done .none [.prof, .fld, .wln, .gate] s fun t =>
        t.prof = { s.prof with profile := { s.prof.profile with lines := l }, unsaved := true }
        ∧ t.fld.outside = s.fld.outside
        ∧ t.fld.leave = (if lineIn l .leave = lineIn s.prof.profile.lines .leave then s.fld.leave
            else { level := ((lineIn l .leave).map s.fld.outside.getLsbD).getD false, timer := none, stamp := none })
        ∧ t.fld.stop = (if lineIn l .juryStop = lineIn s.prof.profile.lines .juryStop then s.fld.stop
            else { level := ((lineIn l .juryStop).map s.fld.outside.getLsbD).getD true, timer := none, stamp := none })
        ∧ (∀ n a, n < 16 → l[n]? = some a → t.fld.written.getLsbD n =
            if s.prof.profile.lines[n]? = some a then s.fld.written.getLsbD n
            else (a.fn == .generalOut && a.mode == .openDrain))
        ∧ (placeOf s.prof.profile.lines .windTxen = placeOf l .windTxen → t.wln = s.wln)
        ∧ (placeOf s.prof.profile.lines .windTxen ≠ placeOf l .windTxen →
            t.wln = { s.wln with txen := false, txenMoved := true })
        ∧ (driveComplete l = true → s.gate.state ≠ .manual → t.gate = s.gate)
        ∧ (driveComplete l = true → s.gate.state = .manual →
            t.gate = { s.gate with state := .unknown, current := none })
        ∧ (driveComplete l = false → s.gate.state = .manual → t.gate = s.gate)
        ∧ (driveComplete l = false → s.gate.state ≠ .manual →
            t.gate = { s.gate with state := .manual, current := some (s.gate.current.getD 1),
                                   jury := some (s.gate.jury.getD (s.gate.current.getD 1)) })
        ∧ t.brd.ready = (sensedFn t .boardReady).getD true
        ∧ t.brd.messages = s.brd.messages ∧ t.brd.subjects = s.brd.subjects ∧ LinkKept s t

/-- The reads that change nothing (R11, R14, R36, R150, R162), and the reads that clear what they report (R87, R93, R163). That an
absent reading is reported as held is the model's choice (log 42). -/
def Obligations.ReadsReportAndSomeClear : Prop :=
  (∀ (s : State) (tag : Byte) (k n : Nat), Free s →
     (Completes (.readProfile tag 0 k) .done (.hill s.prof.profile.hill) [] s (Quiet s))
     ∧ (k ≤ 7 → Completes (.readProfile tag 1 k) .done (.slot (slot? s k)) [] s (Quiet s))
     ∧ (Completes (.readProfile tag 2 k) .done (.survey s.prof.profile.survey) [] s (Quiet s))
     ∧ (Completes (.readProfile tag 3 k) .done (.lines s.prof.profile.lines) [] s (Quiet s))
     ∧ (Completes (.readProfile tag 4 k) .done
         (.profileState s.prof.valid s.prof.unsaved s.prof.writing.isSome s.prof.profile.survey.isSome) [] s (Quiet s))
     ∧ (∀ selector, 4 < selector ∨ (selector = 1 ∧ 7 < k) → Refuses (.readProfile tag selector k) .range s)
     ∧ (Completes (.readLines tag) .done
         (.levels ((List.range 16).map (sensed s)) (reportedLevel .leave s) (reportedLevel .juryStop s)) [] s (Quiet s))
     ∧ (∀ a, 1 ≤ n → n ≤ 400 → attempt? s n = some a → Completes (.readAttempt tag n) .done (.attempt a) [] s (Quiet s))
     ∧ ((n = 0 ∨ 400 < n → Refuses (.readAttempt tag n) .range s)
         ∧ (1 ≤ n → n ≤ 400 → attempt? s n = none → Refuses (.readAttempt tag n) .notFound s))
     ∧ (Completes (.boardStatus tag) .done (.board (boardReport s)) [] s (Quiet s))
     ∧ boardReport s = {
         queue := sendOrder s.brd.queue, ready := s.brd.ready, hasLine := (lineOf s .boardReady).isSome,
         stalled := s.brd.stalled, stallTimer := s.brd.stallTimer.isSome, sending := s.brd.sender.isSome }
     ∧ (Completes (.readCounters tag) .done (.counters s.diag.counter0 s.diag.counter1) [] s (Quiet s)))
  ∧ (∀ (s : State) (tag : Byte) (k : Nat), Free s →
     (∀ x, k ≤ 7 → slot? s k = some x → Completes (.stationStatus tag k) .done
         (.station x.address (station s k) (((station s k).reading.map (readingFresh s)).getD false)) [.wln] s fun t =>
       Quiet s t ∧ t.wln = { s.wln with stations := s.wln.stations.modify k fun r => { r with latch := false } })
     ∧ (Completes (.readWind tag) .done (.wind (windReport s)) [.wln] s fun t =>
         Quiet s t ∧ t.wln = { s.wln with noise := 0 })
     ∧ windReport s = {
         gating := s.wln.gating.value, gatingTime := s.wln.gating.time,
         fresh := s.wln.gating.value.isSome && decide (s.wln.gating.age ≤ s.prof.profile.hill.freshness),
         scoring := s.wln.scoringMean, nGating := s.wln.nGating, nScoring := s.wln.nScoring, poll := s.wln.poll,
         cycle := s.wln.cycle, inverted := s.wln.inverted, autoSwap := s.prof.profile.hill.autoSwap == 1,
         contention := s.wln.contention, noise := s.wln.noise, test := s.wln.test, lastTest := s.wln.lastTest }
     ∧ (Completes (.readFault tag) .done (.fault s.diag.capture s.diag.seconds) [.diag] s fun t =>
         Quiet s t ∧ t.diag = { s.diag with capture := none, seconds := 0 })
     ∧ (7 < k → Refuses (.stationStatus tag k) .range s)
     ∧ (k ≤ 7 → slot? s k = none → Refuses (.stationStatus tag k) .notFound s))

/-- SET CURSOR (R160): the cursor takes the position and the mode; RANGE, and LENGTH for a frame that carries another length. -/
def Obligations.SetCursorTakesThePosition : Prop :=
  ∀ (s : State) (tag : Byte) (selector position mode : Nat), Free s →
    (selector = 0 → 1 ≤ position → position ≤ 400 → mode ≤ 1 →
      Completes (.setCursor tag selector position mode) .done .none [] s fun t =>
        Quiet { s with link := { s.link with attemptCursor := { position, advance := mode == 1 } } } t)
    ∧ (selector = 1 → 1 ≤ position → position ≤ 120 → mode ≤ 1 →
      Completes (.setCursor tag selector position mode) .done .none [] s fun t =>
        Quiet { s with link := { s.link with rankCursor := { position, advance := mode == 1 } } } t)
    ∧ (1 < selector ∨ 1 < mode ∨ position = 0 ∨ (selector = 0 ∧ 400 < position) ∨ (selector = 1 ∧ 120 < position) →
      Refuses (.setCursor tag selector position mode) .range s)
    ∧ (∀ ps : List Byte, ps.length ≠ 4 → ps.length ≤ 198 → s.link.asm = [] → s.link.buffer = [] →
      Happens (.frameReceived (clean (controlFrame (0x70 :: tag :: ps)))) [] s fun t =>
        Replied 0x70 tag .length .none t ∧ Quiet s t)

/-- READ AT CURSOR (R161): the record at the position, which ADVANCE then raises by one; NOT_FOUND beyond the end. The ranking
total is the sum of the stored round totals (R133). A competitor's rank is 1 plus the number of non-disqualified entries with
a greater total, so that equal totals share a rank and a smaller one stands behind every greater one; a disqualified
competitor has none (R134). -/
def Obligations.CursorsReadAndAdvance : Prop :=
  ∀ (s : State) (tag : Byte), Free s →
    (∀ a, attempt? s s.link.attemptCursor.position = some a →
        Completes (.readAtCursor tag 0) .done (.cursorAttempt s.link.attemptCursor.position a) [] s fun t =>
          t.link.attemptCursor = (if s.link.attemptCursor.advance
            then { s.link.attemptCursor with position := s.link.attemptCursor.position + 1 } else s.link.attemptCursor)
          ∧ t.link.rankCursor = s.link.rankCursor ∧ Boards [] s t ∧ Sends [] s t)
    ∧ (attempt? s s.link.attemptCursor.position = none → Refuses (.readAtCursor tag 0) .notFound s)
    ∧ (∀ r, rankRecord s s.link.rankCursor.position = some r →
        Completes (.readAtCursor tag 1) .done (.cursorRank s.link.rankCursor.position r) [] s fun t =>
          t.link.rankCursor = (if s.link.rankCursor.advance
            then { s.link.rankCursor with position := s.link.rankCursor.position + 1 } else s.link.rankCursor)
          ∧ t.link.attemptCursor = s.link.attemptCursor ∧ Boards [] s t ∧ Sends [] s t)
    ∧ (rankRecord s s.link.rankCursor.position = none → Refuses (.readAtCursor tag 1) .notFound s)
    ∧ (∀ selector, 1 < selector → Refuses (.readAtCursor tag selector) .range s)
    ∧ (∀ p, s.scr.ranking.length ≤ p → rankRecord s (p + 1) = none)
    ∧ (∀ p b c, s.scr.ranking[p]? = some b → findBib s.cst.directory b = some c → rankRecord s (p + 1) = some {
        bib := b, rank := rankOf s.cst.directory s.scr.ranking c, total := rankingTotal c, disqualified := c.disqualified,
        name := c.name, nation := c.nation, totals := c.totals })
    ∧ (∀ c : Competitor, rankingTotal c = (c.totals.map fun v => v.getD 0).sum)
    ∧ (∀ (dir : List Competitor) (ranking : List Nat) (c : Competitor),
        (c.disqualified = true → rankOf dir ranking c = none)
        ∧ (c.disqualified = false → rankOf dir ranking c = some (1 + ranking.countP fun b =>
            (findBib dir b).any fun x => !x.disqualified && decide (rankingTotal c < rankingTotal x)))
        ∧ ∀ d : Competitor, c.disqualified = false → d.disqualified = false →
          (rankingTotal c = rankingTotal d → rankOf dir ranking c = rankOf dir ranking d)
          ∧ (∀ b ∈ ranking, findBib dir b = some d → rankingTotal c < rankingTotal d →
              ∃ m n, rankOf dir ranking d = some m ∧ rankOf dir ranking c = some n ∧ m < n))

/-- WRITE LINE (R15). The driven lines (R12, R41, R61): an open-drain output drives the other way round, the green lamp flashes
in GREEN_WARN, and GATE_UP and GATE_DOWN are never active together. The debounced lines (R13): the first edge starts the timer
with its stamp, a return forgets it, and an expiry takes the new level without an event where that level is inactive. The
debounced JURY_STOP is a stop event (R55). The order of the notices and keys of one command (log 14), and that a frame begins
when it is over (log 9), are the model's choices. -/
def Obligations.LinesAreWrittenDrivenAndDebounced : Prop :=
  (∀ (s : State) (tag : Byte) (line level : Nat), Free s →
     (line ≤ 15 → level ≤ 1 → (s.prof.profile.lines[line]?).map Assignment.fn = some .generalOut →
       Completes (.writeLine tag line level) .done .none [.fld] s fun t =>
         t.fld = { s.fld with written := t.fld.written } ∧ t.fld.written.getLsbD line = (level == 1)
           ∧ (∀ n, n ≠ line → t.fld.written.getLsbD n = s.fld.written.getLsbD n) ∧ Quiet s t)
     ∧ (15 < line ∨ 1 < level → Refuses (.writeLine tag line level) .range s)
     ∧ (line ≤ 15 → level ≤ 1 → (s.prof.profile.lines[line]?).map Assignment.fn ≠ some .generalOut →
         Refuses (.writeLine tag line level) .state s))
  ∧ (∀ (s : State) (n : Nat) (a : Assignment), s.prof.profile.lines[n]? = some a →
     (a.mode = .input → drivenLevel s n = none)
     ∧ (a.fn ≠ .generalOut → a.mode = .pushPull → drivenLevel s n = some (outputActive s a.fn))
     ∧ (a.fn ≠ .generalOut → a.mode = .openDrain → drivenLevel s n = some (!(outputActive s a.fn)))
     ∧ (a.fn = .generalOut → a.mode ≠ .input → drivenLevel s n = some (s.fld.written.getLsbD n))
     ∧ (outputActive s .lampRed = true ↔ s.stc.light = .red) ∧ (outputActive s .lampAmber = true ↔ s.stc.light = .amber)
     ∧ (outputActive s .lampGreen = true ↔ s.stc.light = .green ∨ (s.stc.light = .greenWarn ∧ s.stc.flashOn = true))
     ∧ (outputActive s .gateUp = true ↔ s.gate.state = .movingUp)
     ∧ (outputActive s .gateDown = true ↔ s.gate.state = .movingDown ∨ s.gate.state = .homing)
     ∧ ¬(outputActive s .gateUp = true ∧ outputActive s .gateDown = true)
     ∧ (outputActive s .alert = true ↔ s.diag.capture ≠ none) ∧ (outputActive s .windTxen = true ↔ s.wln.txen = true))
  ∧ (∀ (s : State) (n : Nat), lineOf s .leave = some n →
     (s.fld.leave.level = false → s.fld.leave.timer = none →
       Happens (.debounceEdge .leave true) [.fld] s fun t =>
         t.fld.leave = { level := false, timer := some s.prof.profile.hill.leaveDebounce, stamp := some s.link.clock }
           ∧ t.fld.stop = s.fld.stop ∧ t.fld.written = s.fld.written ∧ Quiet s t)
     ∧ (∀ k, s.fld.leave.level = false → s.fld.leave.timer = some k →
       Happens (.debounceEdge .leave true) [.fld] s fun t => t.fld.leave = s.fld.leave ∧ t.fld.stop = s.fld.stop ∧ Quiet s t)
     ∧ (∀ k, s.fld.leave.level = false → s.fld.leave.timer = some k →
       Happens (.debounceEdge .leave false) [.fld] s fun t =>
         t.fld.leave = { level := false, timer := none, stamp := none } ∧ t.fld.stop = s.fld.stop ∧ Quiet s t)
     ∧ (∀ k, s.fld.leave.level = true → s.fld.leave.timer = some k →
       Happens (.debounceExpiry .leave) [.fld] s fun t =>
         t.fld = { s.fld with leave := { level := false, timer := none, stamp := none } } ∧ Quiet s t))
  ∧ (∀ (s : State) (n : Nat), lineOf s .juryStop = some n →
     (s.fld.stop.level = true → s.fld.stop.timer = none →
       Happens (.debounceEdge .juryStop false) [.fld] s fun t =>
         t.fld.stop = { level := true, timer := some s.prof.profile.hill.leaveDebounce, stamp := some s.link.clock }
           ∧ t.fld.leave = s.fld.leave ∧ t.fld.written = s.fld.written ∧ Quiet s t)
     ∧ (∀ k, s.fld.stop.level = true → s.fld.stop.timer = some k →
       Happens (.debounceEdge .juryStop true) [.fld] s fun t =>
         t.fld.stop = { level := true, timer := none, stamp := none } ∧ t.fld.leave = s.fld.leave ∧ Quiet s t)
     ∧ (∀ k, s.fld.stop.level = false → s.fld.stop.timer = some k →
       Happens (.debounceExpiry .juryStop) [.fld] s fun t =>
         t.fld = { s.fld with stop := { level := true, timer := none, stamp := none } } ∧ Quiet s t))
  ∧ (∀ (s : State) (k : Nat), s.fld.stop.level = true → s.fld.stop.timer = some k → HillLaws s → LightOk s →
     (HillClear s → s.stc.heldArm = false → Happens (.debounceExpiry .juryStop) [.fld] s fun t =>
       t.fld = { s.fld with stop := { level := false, timer := none, stamp := none } } ∧ Quiet s t)
     ∧ (HillClear s → s.stc.heldArm = true → Happens (.debounceExpiry .juryStop) [.fld, .stc] s fun t =>
       t.fld = { s.fld with stop := { level := false, timer := none, stamp := none } }
         ∧ t.stc = { s.stc with heldArm := false } ∧ LinkKept s t ∧ Boards [] s t ∧ Sends [.armDropped .juryStop] s t)
     ∧ (∀ a, onHill? s = some a → (a.state = .inRun ∨ a.state = .flight) →
       Happens (.debounceExpiry .juryStop) [.fld, .cst] s fun t =>
         t.fld = { s.fld with stop := { level := false, timer := none, stamp := none } }
           ∧ t.cst = changed a.number (fun r => { r with juryStopped := true }) s.cst ∧ Quiet s t)
     ∧ (∀ a, onHill? s = some a → (a.state = .waiting ∨ a.state = .cleared) →
       Happens (.debounceExpiry .juryStop) [.fld, .cst, .stc, .gate, .diag] s fun t =>
         t.fld = { s.fld with stop := { level := false, timer := none, stamp := none } }
           ∧ VoidedAtBar a s.cst.rstate s t))

/-! ## Rounds and the start list (02) -/

/-- OPEN ROUND (R19, R138) with both sources, and its refusals in the order of R19's table: a Q with source EMPTY, and
FROM_RANKING without one, are LENGTH. The list of FROM_RANKING (R138): the first Q of the ranking, without the disqualified,
and those behind them tied with the Q-th, in reversed order; all of them where there are fewer. The ranking is as
TheRankingStaysInOrder keeps it. -/
def Obligations.OpenRoundRaisesTheNumber : Prop :=
  (∀ (s : State) (tag : Byte) (source : Nat) (q : Option Nat) (list : List Nat), Free s → s.prof.writing = none →
    s.cst.rstate = .none ∨ (s.cst.rstate = .confirmed ∧ s.cst.round < 4) →
    s.stc.coach = none → HillClear s → s.stc.light = .dark →
    (source = 0 ∧ q = none ∧ list = []) ∨ (source = 1 ∧ ∃ n, q = some n ∧ 1 ≤ n ∧ n ≤ 80
      ∧ list = fromRanking s.cst.directory s.scr.ranking n) →
    (list.length ≤ 80 → Completes (.openRound tag source q) .done .none [.cst, .stc, .gate, .diag] s fun t =>
      t.cst = { s.cst with round := s.cst.round + 1, rstate := .opened, startList := list }
        ∧ t.gate = { s.gate with reference := none } ∧ t.stc = { s.stc with light := .red, flashOn := false, flashTimer := none }
        ∧ LinkKept s t ∧ t.brd.subjects = s.brd.subjects ∧ Boards [key .light] s t
        ∧ (Room 1 s → t.diag = s.diag ∧ Sends [.light .dark .red none] s t))
    ∧ (80 < list.length → Refuses (.openRound tag source q) .full s))
  ∧ (∀ (s : State) (q : Nat), RankingOk s →
    let entries := s.scr.ranking.filter fun b => (findBib s.cst.directory b).any fun c => !c.disqualified
    let total := fun b => (findBib s.cst.directory b).map rankingTotal
    (entries.length ≤ q → fromRanking s.cst.directory s.scr.ranking q = entries.reverse)
    ∧ (1 ≤ q → q ≤ entries.length → ∃ n, q ≤ n ∧ n ≤ entries.length
        ∧ fromRanking s.cst.directory s.scr.ranking q = (entries.take n).reverse
        ∧ ∀ m last b, q ≤ m → entries[q - 1]? = some last → entries[m]? = some b → (m < n ↔ total b = total last)))
  ∧ (∀ (s : State) (tag : Byte) (q : Nat), Free s →
    Refuses (.openRound tag 0 (some q)) .length s ∧ Refuses (.openRound tag 1 none) .length s)
  ∧ (∀ (s : State) (tag : Byte) (source : Nat) (q : Option Nat), Free s →
     (source = 0 ∧ q = none) ∨ (source = 1 ∧ q.isSome = true) ∨ 1 < source →
     (hasOpenRound s = true ∨ (s.cst.rstate = .confirmed ∧ 4 ≤ s.cst.round) → Refuses (.openRound tag source q) .state s)
     ∧ (s.cst.rstate = .none ∨ (s.cst.rstate = .confirmed ∧ s.cst.round < 4) →
         (s.prof.writing.isSome = true → Refuses (.openRound tag source q) .busy s)
         ∧ (s.prof.writing = none → 1 < source ∨ (source = 1 ∧ (q = some 0 ∨ 80 < q.getD 0)) →
             Refuses (.openRound tag source q) .range s)))

/-- CONFIRM ROUND, RESUME ROUND and SUSPEND ROUND (R20, R21, R22). The order of the notices and keys of one command (log 14),
and that a frame begins when it is over (log 9), are the model's choices. -/
def Obligations.RoundsAreConfirmedResumedAndSuspended : Prop :=
  ∀ (s : State) (tag : Byte), Free s → HillLaws s →
    (s.cst.rstate = .ended → s.stc.light = .red → Completes (.confirmRound tag) .done .none [.cst, .stc, .diag] s fun t =>
      t.cst = { s.cst with rstate := .confirmed } ∧ t.stc = { s.stc with light := .dark, flashOn := false, flashTimer := none }
        ∧ Boards [key .light] s t ∧ (Room 1 s → t.diag = s.diag ∧ Sends [.light .red .dark none] s t))
    ∧ (s.cst.rstate ≠ .ended → Refuses (.confirmRound tag) .state s)
    ∧ (s.cst.rstate = .suspended → Completes (.resumeRound tag) .done .none [.cst] s fun t =>
        t.cst = { s.cst with rstate := t.cst.rstate } ∧ Quiet s t
        ∧ (s.cst.startList = [] → (∀ a ∈ s.cst.attempts, a.round = s.cst.round → a.state ≠ .scoring) →
            t.cst.rstate = .ended)
        ∧ (s.cst.startList ≠ [] ∨ (∃ a ∈ s.cst.attempts, a.round = s.cst.round ∧ a.state = .scoring) →
            t.cst.rstate = .opened))
    ∧ (s.cst.rstate ≠ .suspended → Refuses (.resumeRound tag) .state s)
    ∧ (s.cst.rstate = .opened → HillClear s → s.stc.heldArm = false → s.stc.light = .red →
        Completes (.suspendRound tag) .done .none [.cst] s fun t => t.cst = { s.cst with rstate := .suspended } ∧ Quiet s t)
    ∧ (s.cst.rstate = .opened → s.stc.heldArm = true → s.stc.light = .red →
        Completes (.suspendRound tag) .done .none [.cst, .stc] s fun t =>
          t.cst = { s.cst with rstate := .suspended } ∧ t.stc = { s.stc with heldArm := false }
            ∧ Boards [] s t ∧ Sends [.armDropped .suspend] s t)
    ∧ (∀ a, LightOk s → s.cst.rstate = .opened → onHill? s = some a → (a.state = .waiting ∨ a.state = .cleared) →
        Completes (.suspendRound tag) .done .none [.cst, .stc, .gate, .diag] s (VoidedAtBar a .suspended s))
    ∧ (∀ a, s.cst.rstate = .opened → onHill? s = some a → (a.state = .inRun ∨ a.state = .flight) →
        Refuses (.suspendRound tag) .state s)
    ∧ (s.cst.rstate ≠ .opened → Refuses (.suspendRound tag) .state s)

/-- CANCEL ROUND (R23, R24, R35, R44, R57 to R59, R140): CST's records, what STC, MEAS and WLN had in flight, the light, the
ranking, the return of the gate, the keys and the notices. The order of the notices and keys of one command (log 14), and that a
frame begins when it is over (log 9), are the model's choices. -/
def Obligations.CancelRoundStepsBack : Prop :=
  ∀ (s : State) (tag : Byte), Free s →
    (hasOpenRound s = true →
      Completes (.cancelRound tag) .done .none [.cst, .stc, .gate, .wln, .meas, .scr, .diag] s fun t =>
        t.cst.round = s.cst.round - 1 ∧ t.cst.startList = []
        ∧ t.cst.rstate = (if s.cst.round ≤ 1 then .none else .confirmed)
        ∧ t.cst.attempts = s.cst.attempts.map (fun a =>
            if a.round = s.cst.round ∧ a.state ≠ .voided ∧ a.state ≠ .cancelled then { a with state := .cancelled } else a)
        ∧ t.cst.directory.map Competitor.bib = s.cst.directory.map Competitor.bib
        ∧ (∀ c ∈ s.cst.directory, ∃ d ∈ t.cst.directory, d.bib = c.bib ∧ d.totals = c.totals.set (s.cst.round - 1) none
            ∧ (d.disqualified = true ↔ c.disqualified = true ∧
                ¬∃ a ∈ s.cst.attempts, a.round = s.cst.round ∧ a.state = .lapsed ∧ a.bib = c.bib))
        ∧ t.scr.ranking = rankingOf t.cst.directory
        ∧ t.stc.light = .dark ∧ t.stc.heldArm = false ∧ t.stc.clearPending = false ∧ t.stc.windWaitSent = false
        ∧ (s.stc.light ≠ .dark → t.stc.flashOn = false ∧ t.stc.flashTimer = none)
        ∧ t.stc.window = none ∧ (s.stc.window.isSome = true ∨ s.stc.countdown = none → t.stc.countdown = none)
        ∧ t.stc.coach = none
        ∧ t.meas = { s.meas with trap := .off, trapAttempt := none, trapTimer := none, markLimit := none, waits := [] }
        ∧ t.wln = { s.wln with window := none } ∧ LinkKept s t ∧ t.brd.subjects = s.brd.subjects
        ∧ (HillLaws s →
            let asked := s.stc.coach.isSome || ((onHill? s).bind Attempt.coach).isSome
            let n := (s.cst.attempts.filter fun a => a.round == s.cst.round && a.state != .voided && a.state != .cancelled).length
            t.gate = (if asked then (requestReturn s).gate else s.gate)
            ∧ Boards ((if s.stc.window.isSome then [key .countdown] else []) ++ (if asked then returnKeys s.gate else []) ++
                (if s.stc.light = .dark then [] else [key .light]) ++ key .rank :: changedLines (topTen s) (topTen t)) s t
            ∧ (Room 14 s → t.diag = s.diag ∧ Sends ((if s.stc.heldArm then [.armDropped .cancel] else []) ++
                (if asked then returnNotices s.gate else []) ++
                (if s.stc.light = .dark then [] else [.light s.stc.light .dark none]) ++ [.roundCancelled s.cst.round n]) s t)))
    ∧ (hasOpenRound s = false → Refuses (.cancelRound tag) .state s)

/-- ADD ENTRIES (R26): accepted whole, at the tail, with the directory; the checks of R26's table, in its order. A pending coach
reduction is for the head of the list (CoachOk, part of the laws of the hill), so an entry at the tail leaves it. -/
def Obligations.AddEntriesAppendsInOrder : Prop :=
  (∀ (s : State) (tag : Byte) (es : List Entry), Free s → 1 ≤ es.length → es.length ≤ 4 → hasOpenRound s = true →
    (∀ e ∈ es, entryOk e = true) → (∀ e ∈ es, ∀ c, competitor? s e.bib = some c → c.disqualified = false) →
    (es.map Entry.bib).Nodup → (∀ e ∈ es, duplicateBib s e.bib = false) →
    placesHeld s + es.length ≤ 80 → s.cst.directory.length + newBibs s es ≤ 120 → CoachOk s →
    Completes (.addEntries tag es) .done .none [.cst] s fun t =>
      t.cst.startList = s.cst.startList ++ es.map Entry.bib ∧ t.cst.round = s.cst.round
      ∧ t.cst.attempts = s.cst.attempts
      ∧ t.cst.rstate = (if s.cst.rstate = .ended then .opened else s.cst.rstate)
      ∧ t.cst.directory = es.foldl enterCompetitor s.cst.directory
      ∧ (∀ e ∈ es, competitor? s e.bib = none → competitor? t e.bib = some
          { bib := e.bib, name := e.name, nation := e.nation, disqualified := false, totals := List.replicate 4 none })
      ∧ (∀ e ∈ es, ∀ c, competitor? s e.bib = some c → competitor? t e.bib = some { c with name := e.name, nation := e.nation })
      ∧ (∀ b c, b ∉ es.map Entry.bib → competitor? s b = some c → competitor? t b = some c) ∧ Quiet s t)
  ∧ (∀ (s : State) (tag : Byte) (es : List Entry), Free s → 1 ≤ es.length → es.length ≤ 4 →
    let disqualified := ∃ e ∈ es, ((competitor? s e.bib).map Competitor.disqualified) = some true
    let twice := ¬(es.map Entry.bib).Nodup ∨ ∃ e ∈ es, duplicateBib s e.bib = true
    (hasOpenRound s = false → Refuses (.addEntries tag es) .state s)
    ∧ (hasOpenRound s = true → (∃ e ∈ es, entryOk e = false) → Refuses (.addEntries tag es) .range s)
    ∧ (hasOpenRound s = true → (∀ e ∈ es, entryOk e = true) →
        (disqualified → Refuses (.addEntries tag es) .state s)
        ∧ (¬disqualified → twice → Refuses (.addEntries tag es) .duplicate s)
        ∧ (¬disqualified → ¬twice → 80 < placesHeld s + es.length ∨ 120 < s.cst.directory.length + newBibs s es →
            Refuses (.addEntries tag es) .full s)))
  ∧ (∀ (s : State) (e : Entry) (b : Nat),
    (entryOk e = true ↔ 1 ≤ e.bib ∧ e.bib ≤ 999 ∧ e.name.length ≤ 20 ∧ (∀ x ∈ e.name, 0x20 ≤ x.toNat ∧ x.toNat ≤ 0x7E)
      ∧ e.nation.length = 3 ∧ ∀ x ∈ e.nation, 0x41 ≤ x.toNat ∧ x.toNat ≤ 0x5A)
    ∧ (duplicateBib s b = true ↔ b ∈ s.cst.startList ∨
        ∃ a ∈ s.cst.attempts, a.bib = b ∧ a.round = s.cst.round ∧ a.state ≠ .voided ∧ a.state ≠ .cancelled))

/-- WITHDRAW ENTRY and MOVE ENTRY (R27, R28): the list, the end of an OPEN round whose list a withdrawal empties (R18), what a
change of head does to a pending coach reduction (R25, R57), and the refusals. -/
def Obligations.EntriesAreWithdrawnAndMoved : Prop :=
  (∀ (s : State) (tag : Byte) (bib : Nat), Free s → hasOpenRound s = true → 1 ≤ bib → bib ≤ 999 → bib ∈ s.cst.startList →
    (ChangesList (.withdrawEntry tag bib) (s.cst.startList.erase bib) s fun t =>
      t.cst = { s.cst with startList := t.cst.startList, rstate := t.cst.rstate }
        ∧ (s.cst.startList.erase bib ≠ [] → t.cst.rstate = s.cst.rstate)
        ∧ (s.cst.rstate ≠ .opened → t.cst.rstate = s.cst.rstate)
        ∧ (s.cst.rstate = .opened → s.cst.startList.erase bib = [] →
            ((∀ a ∈ s.cst.attempts, a.round = s.cst.round → a.state.onHill = false ∧ a.state ≠ .scoring) →
              t.cst.rstate = .ended)
            ∧ ((∃ a ∈ s.cst.attempts, a.round = s.cst.round ∧ (a.state.onHill = true ∨ a.state = .scoring)) →
              t.cst.rstate = .opened)))
    ∧ (ChangesList (.moveEntry tag bib 0) (s.cst.startList.erase bib ++ [bib]) s fun t =>
        t.cst = { s.cst with startList := t.cst.startList })
    ∧ (ChangesList (.moveEntry tag bib bib) s.cst.startList s fun t => t.cst = s.cst)
    ∧ (∀ target before after, target ≠ bib → target ≠ 0 → target ≤ 999 → target ∉ before →
        s.cst.startList.erase bib = before ++ target :: after → target ∈ s.cst.startList →
        ChangesList (.moveEntry tag bib target) (before ++ bib :: target :: after) s fun t =>
          t.cst = { s.cst with startList := t.cst.startList })
    ∧ (∀ target, target ≠ 0 → target ≤ 999 → target ∉ s.cst.startList → Refuses (.moveEntry tag bib target) .notFound s))
  ∧ (∀ (s : State) (tag : Byte) (bib target : Nat), Free s →
    (bib = 0 ∨ 999 < bib → Refuses (.withdrawEntry tag bib) .range s)
    ∧ (bib = 0 ∨ 999 < bib ∨ 999 < target → Refuses (.moveEntry tag bib target) .range s)
    ∧ (1 ≤ bib → bib ≤ 999 → hasOpenRound s = false → Refuses (.withdrawEntry tag bib) .state s)
    ∧ (1 ≤ bib → bib ≤ 999 → target ≤ 999 → hasOpenRound s = false → Refuses (.moveEntry tag bib target) .state s)
    ∧ (1 ≤ bib → bib ≤ 999 → hasOpenRound s = true → bib ∉ s.cst.startList → Refuses (.withdrawEntry tag bib) .notFound s)
    ∧ (1 ≤ bib → bib ≤ 999 → target ≤ 999 → hasOpenRound s = true → bib ∉ s.cst.startList →
        Refuses (.moveEntry tag bib target) .notFound s))

/-! ## Start lights and the start window (03) -/

/-- ARM NEXT (R42, R43): at rest the arm takes effect at once, in motion it is held; it is refused by the first row of R42's
table that applies, in its order. The order of the notices and keys of one command (log 14), and that a frame begins when it is
over (log 9), are the model's choices. -/
def Obligations.ArmNextOpensAnAttempt : Prop :=
  (∀ (s : State) (tag : Byte) (bib : Nat) (rest : List Nat), Free s → s.cst.rstate = .opened → s.stc.heldArm = false →
     HillClear s → s.prof.valid = true → s.cst.startList = bib :: rest → s.cst.attempts.length < 400 →
     s.stc.light = .red →
     (s.gate.state = .idle ∨ s.gate.state = .manual → Completes (.armNext tag) .done .none [.cst, .stc, .diag] s fun t =>
       t.cst = { s.cst with startList := rest,
                            attempts := s.cst.attempts ++
                              [newAttempt (s.cst.attempts.length + 1) s.cst.round bib (coachSteps s bib)] }
         ∧ t.stc = { s.stc with light := .amber, flashOn := false, flashTimer := none, clearPending := false,
                                windWaitSent := false, coach := if (coachSteps s bib).isSome then none else s.stc.coach }
         ∧ t.brd.subjects = { s.brd.subjects with jumper := some (s.cst.attempts.length + 1) }
         ∧ LinkKept s t ∧ Boards [key .light, key .jumper] s t
         ∧ (Room 2 s → t.diag = s.diag ∧ Sends [.light .red .amber (some (s.cst.attempts.length + 1)),
             .stateChange (s.cst.attempts.length + 1) s.cst.round bib none .waiting] s t))
     ∧ (s.gate.state.motion = true → Completes (.armNext tag) .accepted .none [.stc] s fun t =>
         t.stc = { s.stc with heldArm := true } ∧ Quiet s t)
     ∧ (s.gate.state = .unknown ∨ s.gate.state = .fault → Refuses (.armNext tag) .state s))
  ∧ (∀ (s : State) (tag : Byte), Free s →
     (s.cst.rstate ≠ .opened → Refuses (.armNext tag) .state s)
     ∧ (s.cst.rstate = .opened → s.stc.heldArm = true → Refuses (.armNext tag) .busy s)
     ∧ (s.cst.rstate = .opened → s.stc.heldArm = false → ¬HillClear s → Refuses (.armNext tag) .state s)
     ∧ (s.cst.rstate = .opened → s.stc.heldArm = false → HillClear s → s.prof.valid = false →
         Refuses (.armNext tag) .noProfile s)
     ∧ (s.cst.rstate = .opened → s.stc.heldArm = false → HillClear s → s.prof.valid = true → s.cst.startList = [] →
         Refuses (.armNext tag) .state s)
     ∧ (s.cst.rstate = .opened → s.stc.heldArm = false → HillClear s → s.prof.valid = true → s.cst.startList ≠ [] →
         400 ≤ s.cst.attempts.length → Refuses (.armNext tag) .full s))

/-- CLEAR and HOLD (R46, R47, R49): green on a fresh gating mean within the window, a clear that waits otherwise, and STATE when
no attempt waits at the bar. The order of the notices and keys of one command (log 14), and that a frame begins when it is over
(log 9), are the model's choices. -/
def Obligations.ClearGivesGreenOrWaits : Prop :=
  (∀ (s : State) (tag : Byte) (a : Attempt), Free s → HillLaws s → onHill? s = some a → a.state = .waiting →
     s.stc.light = .amber →
     (s.stc.clearPending = true → Completes (.clear tag) .accepted .none [] s (Quiet s))
     ∧ (s.stc.clearPending = false →
         ((∀ v, freshGating s = some v → v < s.prof.profile.hill.lo ∨ s.prof.profile.hill.hi < v) →
           Completes (.clear tag) .accepted .none [.stc] s fun t =>
             t.stc = { s.stc with clearPending := true, windWaitSent := false } ∧ Quiet s t)
         ∧ (∀ v light, freshGating s = some v → s.prof.profile.hill.lo ≤ v → v ≤ s.prof.profile.hill.hi →
           light = (if s.prof.profile.hill.startWindow ≤ s.prof.profile.hill.warning ∧ 0 < s.prof.profile.hill.warning
             then Light.greenWarn else .green) →
           Completes (.clear tag) .done .none [.cst, .stc, .gate, .diag] s fun t =>
             t.cst = changed a.number (fun r => { r with
               state := .cleared, greenTime := some s.link.clock, attemptGate := s.gate.current,
               juryGate := s.gate.jury.orElse fun _ => s.gate.current }) s.cst
             ∧ t.gate = { s.gate with jury := s.gate.jury.orElse fun _ => s.gate.current,
                                      reference := s.gate.reference.orElse fun _ => s.gate.current }
             ∧ t.stc = { s.stc with
                 clearPending := false, windWaitSent := false, window := some s.prof.profile.hill.startWindow,
                 countdown := some ((s.prof.profile.hill.startWindow + 999) / 1000), light := light,
                 flashOn := light == .greenWarn, flashTimer := if light = .greenWarn then some 250 else none }
             ∧ LinkKept s t ∧ t.brd.subjects = s.brd.subjects ∧ Boards [key .light, key .gate, key .countdown] s t
             ∧ (Room 3 s → t.diag = counted .greenGiven s ∧ Sends ([.light .amber light (some a.number)] ++
                 overflows .greenGiven s ++ [.stateChange a.number a.round a.bib (some .waiting) .cleared]) s t)))
     ∧ (Completes (.hold tag) .done .none [.stc] s fun t =>
         t.stc = { s.stc with clearPending := false, windWaitSent := false } ∧ Quiet s t))
  ∧ (∀ (s : State) (tag : Byte), Free s → (∀ a, onHill? s = some a → a.state ≠ .waiting) →
     Refuses (.clear tag) .state s ∧ Refuses (.hold tag) .state s)

/-- A leave from CLEARED and an early one from WAITING, by the debounced line or by MARK LEAVE (R52, R54), and a stray one. The
order of the notices and keys of one command (log 14), and that a frame begins when it is over (log 9), are the model's choices.
-/
def Obligations.ALeaveBeginsTheInRun : Prop :=
  ∀ (s : State) (tag : Byte) (a : Attempt) (w : Nat), HillLaws s →
    (onHill? s = some a → a.state = .cleared → s.stc.window = some w →
      s.stc.light = .green ∨ s.stc.light = .greenWarn →
      (Free s → lineOf s .leave = none → Completes (.markLeave tag) .done .none [.cst, .stc, .wln, .meas, .diag] s fun t =>
        LeftBar a.number s.link.clock true s t ∧ LinkKept s t ∧ Boards [key .countdown, key .light] s t
          ∧ (Room 2 s → t.diag = s.diag ∧ Sends [.light s.stc.light .red (some a.number),
              .stateChange a.number a.round a.bib (some .cleared) .inRun] s t))
      ∧ (∀ k stamp, s.fld.leave = { level := false, timer := some k, stamp := some stamp } →
        Happens (.debounceExpiry .leave) [.fld, .cst, .stc, .wln, .meas, .diag] s fun t =>
          LeftBar a.number stamp false s t ∧ LinkKept s t
            ∧ t.fld = { s.fld with leave := { level := true, timer := none, stamp := none } }))
    ∧ (onHill? s = some a → a.state = .waiting → s.stc.light = .amber →
      (Free s → lineOf s .leave = none →
        Completes (.markLeave tag) .done .none [.cst, .stc, .gate, .wln, .meas, .diag] s fun t =>
          LeftEarly a.number s.link.clock true s t ∧ LinkKept s t ∧ Boards [key .gate, key .light] s t
            ∧ (Room 2 s → t.diag = s.diag ∧ Sends [.light .amber .red (some a.number),
                .stateChange a.number a.round a.bib (some .waiting) .inRun] s t))
      ∧ (∀ k stamp, s.fld.leave = { level := false, timer := some k, stamp := some stamp } →
        Happens (.debounceExpiry .leave) [.fld, .cst, .stc, .gate, .wln, .meas, .diag] s fun t =>
          LeftEarly a.number stamp false s t ∧ LinkKept s t
            ∧ t.fld = { s.fld with leave := { level := true, timer := none, stamp := none } }))
    ∧ ((∀ b, onHill? s = some b → b.state = .inRun ∨ b.state = .flight) →
      (Free s → lineOf s .leave = none → Completes (.markLeave tag) .state .none [.diag] s fun t =>
        t.diag = counted .leaveStray s ∧ LinkKept s t ∧ Boards [] s t ∧ t.brd.subjects = s.brd.subjects
          ∧ Sends (overflows .leaveStray s) s t)
      ∧ (∀ k stamp, s.fld.leave = { level := false, timer := some k, stamp := some stamp } →
        Happens (.debounceExpiry .leave) [.fld, .diag] s fun t =>
          t.diag = counted .leaveStray s ∧ t.fld = { s.fld with leave := { level := true, timer := none, stamp := none } }
            ∧ LinkKept s t ∧ Boards [] s t ∧ t.brd.subjects = s.brd.subjects ∧ Sends (overflows .leaveStray s) s t))
    ∧ ((lineOf s .leave).isSome = true → Free s → Refuses (.markLeave tag) .state s)

/-- STOP (R55), with the void of an attempt before its leave (R29, R38), and a return move to the jury gate (R69). That a return
request is discarded in HOMING too, for which R69's table has no row, is the model's choice (log 46). The order of the notices
and keys of one command (log 14), and that a frame begins when it is over (log 9), are the model's choices. -/
def Obligations.StopVoidsAndTheGateReturns : Prop :=
  (∀ (s : State) (tag : Byte), Free s → HillLaws s → LightOk s →
     (HillClear s → s.stc.heldArm = false → Completes (.stop tag) .done .none [] s (Quiet s))
     ∧ (HillClear s → s.stc.heldArm = true → Completes (.stop tag) .done .none [.stc] s fun t =>
         t.stc = { s.stc with heldArm := false } ∧ LinkKept s t ∧ Boards [] s t ∧ Sends [.armDropped .stop] s t)
     ∧ (∀ a, onHill? s = some a → (a.state = .inRun ∨ a.state = .flight) → Completes (.stop tag) .done .none [.cst] s fun t =>
         t.cst = changed a.number (fun r => { r with juryStopped := true }) s.cst ∧ Quiet s t)
     ∧ (∀ a, onHill? s = some a → (a.state = .waiting ∨ a.state = .cleared) →
         Completes (.stop tag) .done .none [.cst, .stc, .gate, .diag] s (VoidedAtBar a s.cst.rstate s)))
  ∧ (∀ s : State, s.gate.state = .unknown ∨ s.gate.state = .fault ∨ s.gate.state = .homing → requestReturn s = s)
  ∧ (∀ s : State, s.gate.state = .movingUp ∨ s.gate.state = .movingDown ∨ s.gate.state = .settling →
     (requestReturn s).gate = { s.gate with returnWaiting := true })
  ∧ (∀ (s : State) (c j : Nat), s.gate.current = some c → s.gate.jury = some j →
     (s.gate.state = .idle → c = j → requestReturn s = s)
     ∧ (s.gate.state = .idle → c < j → (requestReturn s).gate =
         { s.gate with state := .movingUp, target := some j, kind := some .ret, lastDir := some .up, corrected := false,
                       stepTimer := some s.prof.profile.hill.gateStep })
     ∧ (s.gate.state = .idle → j < c → (requestReturn s).gate =
         { s.gate with state := .movingDown, target := some j, kind := some .ret, lastDir := some .down, corrected := false,
                       stepTimer := some s.prof.profile.hill.gateStep })
     ∧ (s.gate.state = .manual → c = j → requestReturn s = s)
     ∧ (s.gate.state = .manual → c ≠ j → (requestReturn s).gate = { s.gate with current := some j }))

/-- The start window's timers (R41, R50), and its expiry (R51): the attempt lapses and is counted, its bib is disqualified and
re-ranked, the round may end, and the light and the attempt's state are reported. The order of the notices and keys of one
command (log 14), and that a frame begins when it is over (log 9), are the model's choices. -/
def Obligations.TheStartWindowRunsDownAndLapses : Prop :=
  (∀ (s : State),
     (∀ k, s.stc.flashTimer = some k → Happens .flashTimerExpiry [.stc] s fun t =>
       t.stc = { s.stc with flashOn := !s.stc.flashOn, flashTimer := some 250 } ∧ Quiet s t)
     ∧ (∀ a w, HillLaws s → onHill? s = some a → a.state = .cleared → s.stc.window = some w → s.stc.light = .green →
         0 < s.prof.profile.hill.warning →
         Happens .warningPeriodReached [.stc, .diag] s fun t =>
           t.stc = { s.stc with window := some (min w s.prof.profile.hill.warning), light := .greenWarn, flashOn := true,
                                flashTimer := some 250 }
           ∧ LinkKept s t ∧ Boards [key .light] s t
           ∧ (Room 1 s → t.diag = s.diag ∧ Sends [.light .green .greenWarn (some a.number)] s t))
     ∧ (∀ w n, s.stc.window = some w → s.stc.countdown = some n → 1 < n →
         Happens .countdownSecondChange [.stc, .diag] s fun t =>
           t.stc = { s.stc with window := some (min w ((n - 1) * 1000)), countdown := some (n - 1) }
           ∧ LinkKept s t ∧ Boards [key .countdown] s t ∧ (Room 1 s → t.diag = s.diag ∧ Sends [] s t)))
  ∧ (∀ (s : State) (a : Attempt) (w : Nat), HillLaws s → onHill? s = some a → a.state = .cleared → s.stc.window = some w →
     (s.stc.light = .green ∨ s.stc.light = .greenWarn) →
     Happens .startWindowExpiry [.cst, .stc, .gate, .scr, .diag] s fun t =>
       t.cst.attempts = s.cst.attempts.map (fun r => if r.number = a.number then { r with state := .lapsed } else r)
       ∧ t.cst.directory = s.cst.directory.map (fun c => if c.bib = a.bib then { c with disqualified := true } else c)
       ∧ t.cst.startList = s.cst.startList ∧ t.cst.round = s.cst.round
       ∧ (s.cst.startList ≠ [] → t.cst.rstate = .opened)
       ∧ (s.cst.startList = [] → (∀ r ∈ s.cst.attempts, r.round = s.cst.round → r.state ≠ .scoring) → t.cst.rstate = .ended)
       ∧ t.scr.ranking = reRanked t.cst.directory a.bib s.scr.ranking
       ∧ t.stc = { s.stc with light := .red, flashOn := false, flashTimer := none, window := none, countdown := none }
       ∧ (a.coach = none → t.gate = s.gate) ∧ (a.coach.isSome = true → t.gate = (requestReturn s).gate)
       ∧ t.brd.subjects = { s.brd.subjects with rank := some a.bib } ∧ LinkKept s t
       ∧ Boards ([key .light, key .countdown, key .rank] ++ changedLines (topTen s) (topTen t) ++ freedKeys a s) s t
       ∧ (Room 14 s → t.diag = counted .attemptLapsed s ∧ Sends (.light s.stc.light .red none :: overflows .attemptLapsed s ++
           .stateChange a.number a.round a.bib (some .cleared) .lapsed :: freedNotices a s) s t))

/-! ## Gate positioner (04) -/

/-- MOVE GATE (R62, R68) and COACH REDUCTION (R56), with their refusals in the order of their tables. -/
def Obligations.MoveGateAndCoachReduction : Prop :=
  (∀ (s : State) (tag : Byte) (target c : Nat), Free s → 1 ≤ target → target ≤ s.prof.profile.hill.gates → HillClear s →
     s.stc.coach = none →
     (s.gate.state = .idle → s.gate.current = some c →
       (c = target → Completes (.moveGate tag target) .done .none [.gate] s fun t =>
         t.gate = { s.gate with jury := some target } ∧ Quiet s t)
       ∧ (c ≠ target → Completes (.moveGate tag target) .accepted .none [.gate] s fun t =>
         t.gate = { s.gate with jury := some target, target := some target, kind := some .move, corrected := false,
                                state := if c < target then .movingUp else .movingDown,
                                lastDir := some (if c < target then .up else .down),
                                stepTimer := some s.prof.profile.hill.gateStep }
         ∧ LinkKept s t ∧ Boards [] s t ∧ Sends [.gateBegun .move (some c) (some target) (some target)] s t))
     ∧ (s.gate.state = .manual → s.gate.current = some c → c ≠ target →
       Completes (.moveGate tag target) .done .none [.gate, .diag] s fun t =>
         t.gate = { s.gate with jury := some target, current := some target } ∧ LinkKept s t ∧ Boards [key .gate] s t
         ∧ (Room 1 s → t.diag = s.diag ∧ Sends [.gateDone .move (some target) (some target)] s t))
     ∧ (s.gate.state = .manual → s.gate.current = some target →
       Completes (.moveGate tag target) .done .none [.gate] s fun t => t.gate = { s.gate with jury := some target } ∧ Quiet s t)
     ∧ (s.gate.state.motion = true → Refuses (.moveGate tag target) .busy s)
     ∧ (s.gate.state = .unknown ∨ s.gate.state = .fault → Refuses (.moveGate tag target) .state s))
  ∧ (∀ (s : State) (tag : Byte) (bib k j c : Nat), Free s → 1 ≤ bib → bib ≤ 999 → 1 ≤ k → k ≤ 5 → s.cst.rstate = .opened →
     HillClear s → s.stc.coach = none → s.cst.startList.head? = some bib → s.gate.jury = some j → s.gate.current = some c →
     k < j →
     (s.gate.state = .idle ∨ s.gate.state = .manual → c = j - k → Completes (.coachReduction tag bib k) .done .none [.stc] s fun t =>
       t.stc = { s.stc with coach := some (bib, k) } ∧ Quiet s t)
     ∧ (s.gate.state = .idle → c ≠ j - k → Completes (.coachReduction tag bib k) .accepted .none [.stc, .gate] s fun t =>
       t.stc = { s.stc with coach := some (bib, k) }
       ∧ t.gate = { s.gate with target := some (j - k), kind := some .coach, corrected := false,
                                state := if c < j - k then .movingUp else .movingDown,
                                lastDir := some (if c < j - k then .up else .down),
                                stepTimer := some s.prof.profile.hill.gateStep }
       ∧ LinkKept s t ∧ Boards [] s t ∧ Sends [.gateBegun .coach (some c) (some (j - k)) (some j)] s t)
     ∧ (s.gate.state = .manual → c ≠ j - k → Completes (.coachReduction tag bib k) .done .none [.stc, .gate, .diag] s fun t =>
       t.stc = { s.stc with coach := some (bib, k) } ∧ t.gate = { s.gate with current := some (j - k) }
       ∧ LinkKept s t ∧ Boards [key .gate] s t
       ∧ (Room 1 s → t.diag = s.diag ∧ Sends [.gateDone .coach (some (j - k)) (some j)] s t)))
  ∧ (∀ (s : State) (tag : Byte) (target : Nat), Free s →
     (target = 0 ∨ s.prof.profile.hill.gates < target → Refuses (.moveGate tag target) .range s)
     ∧ (1 ≤ target → target ≤ s.prof.profile.hill.gates → ¬HillClear s ∨ s.stc.coach.isSome = true →
         Refuses (.moveGate tag target) .state s))
  ∧ (∀ (s : State) (tag : Byte) (bib k : Nat), Free s →
     (bib = 0 ∨ 999 < bib ∨ k = 0 ∨ 5 < k → Refuses (.coachReduction tag bib k) .range s)
     ∧ (1 ≤ bib → bib ≤ 999 → 1 ≤ k → k ≤ 5 →
         (s.cst.rstate ≠ .opened ∨ ¬HillClear s ∨ s.stc.coach.isSome = true ∨ s.cst.startList.head? ≠ some bib →
           Refuses (.coachReduction tag bib k) .state s)
         ∧ (s.cst.rstate = .opened → HillClear s → s.stc.coach = none → s.cst.startList.head? = some bib →
             (s.gate.state.motion = true → Refuses (.coachReduction tag bib k) .busy s)
             ∧ (s.gate.state = .unknown ∨ s.gate.state = .fault ∨ (s.gate.state.motion = false ∧ s.gate.jury = none) →
                 Refuses (.coachReduction tag bib k) .state s)
             ∧ (∀ j, s.gate.jury = some j → j ≤ k → s.gate.state = .idle ∨ s.gate.state = .manual →
                 Refuses (.coachReduction tag bib k) .range s))))

/-- HOME GATE with its refusals, and GATE_HOME becoming active in HOMING (R66, R67). -/
def Obligations.HomingFindsGateOne : Prop :=
  (∀ (s : State) (tag : Byte) (n : Nat), lineOf s .gateHome = some n →
    (Free s → (s.gate.state = .unknown ∨ s.gate.state = .fault ∨ s.gate.state = .idle) → HillClear s → s.stc.coach = none →
      (sensedFn s .gateHome = some false → Completes (.homeGate tag) .done .none [.gate, .diag] s fun t =>
        t.gate = { s.gate with state := .idle, current := some 1, jury := some (s.gate.jury.getD 1) }
        ∧ LinkKept s t ∧ Boards [key .gate] s t
        ∧ (Room 1 s → t.diag = s.diag ∧ Sends [.gateDone .home (some 1) (some (s.gate.jury.getD 1))] s t))
      ∧ (sensedFn s .gateHome = some true → Completes (.homeGate tag) .accepted .none [.gate] s fun t =>
        t.gate = { s.gate with state := .homing, current := none, target := some 1, kind := some .home,
                               lastDir := some .down,
                               homeTimer := some (s.prof.profile.hill.gates * s.prof.profile.hill.gateStep) }
        ∧ LinkKept s t ∧ Boards [] s t ∧ Sends [.gateBegun .home none (some 1) s.gate.jury] s t))
    ∧ (s.gate.state = .homing → Happens (.gateHomeActive true) [.fld, .gate] s fun t =>
        t.gate = { s.gate with state := .settling, current := some 1, jury := some (s.gate.jury.getD 1), homeTimer := none,
                               settleTimer := some s.prof.profile.hill.settle }
        ∧ t.fld = { s.fld with outside := setLevel s.fld.outside n false } ∧ Quiet s t)
    ∧ (s.gate.state ≠ .homing → Happens (.gateHomeActive true) [.fld] s fun t =>
        t.fld = { s.fld with outside := setLevel s.fld.outside n false } ∧ Quiet s t))
  ∧ (∀ (s : State) (tag : Byte), Free s →
    (s.gate.state = .manual ∨ lineOf s .gateHome = none → Refuses (.homeGate tag) .state s)
    ∧ ((lineOf s .gateHome).isSome = true → s.gate.state.motion = true → Refuses (.homeGate tag) .busy s)
    ∧ ((lineOf s .gateHome).isSome = true → s.gate.state.motion = false →
        ¬HillClear s ∨ s.stc.coach.isSome = true → Refuses (.homeGate tag) .state s))

/-- Index pulses and the settle timer (R63, R64), with the return move that waits for it (R69) and the held arm that it lets go
(R45). The order of the notices and keys of one command (log 14), and that a frame begins when it is over (log 9), are the
model's choices. -/
def Obligations.IndexPulsesCountTheGates : Prop :=
  (∀ (s : State) (n : Nat), lineOf s .gateIndex = some n →
     (s.gate.state = .homing → Happens .indexPulse [.fld] s fun t =>
       t.fld = { s.fld with outside := setLevel s.fld.outside n false } ∧ Quiet s t)
     ∧ (s.gate.state = .idle ∨ s.gate.state = .unknown ∨ s.gate.state = .fault ∨ s.gate.state = .manual →
       Happens .indexPulse [.fld, .diag] s fun t =>
         t.fld = { s.fld with outside := setLevel s.fld.outside n false } ∧ t.diag = counted .gateStray s ∧ LinkKept s t
           ∧ Boards [] s t ∧ Sends (overflows .gateStray s) s t))
  ∧ (∀ (s : State) (n c target : Nat), lineOf s .gateIndex = some n → s.gate.current = some c → s.gate.target = some target →
     (s.gate.state = .movingUp → c + 1 ≠ target → Happens .indexPulse [.fld, .gate] s fun t =>
       t.gate = { s.gate with current := some (c + 1), stepTimer := some s.prof.profile.hill.gateStep } ∧ Quiet s t)
     ∧ (s.gate.state = .movingUp → c + 1 = target → Happens .indexPulse [.fld, .gate] s fun t =>
       t.gate = { s.gate with current := some (c + 1), state := .settling, stepTimer := none,
                              settleTimer := some s.prof.profile.hill.settle } ∧ Quiet s t)
     ∧ (s.gate.state = .movingDown → c - 1 ≠ target → Happens .indexPulse [.fld, .gate] s fun t =>
       t.gate = { s.gate with current := some (c - 1), stepTimer := some s.prof.profile.hill.gateStep } ∧ Quiet s t)
     ∧ (s.gate.state = .movingDown → c - 1 = target → Happens .indexPulse [.fld, .gate] s fun t =>
       t.gate = { s.gate with current := some (c - 1), state := .settling, stepTimer := none,
                              settleTimer := some s.prof.profile.hill.settle } ∧ Quiet s t))
  ∧ (∀ (s : State) (n c : Nat), lineOf s .gateIndex = some n → s.gate.current = some c → s.gate.state = .settling →
     (s.gate.lastDir = some .up → c + 1 ≤ s.prof.profile.hill.gates → Happens .indexPulse [.fld, .gate, .diag] s fun t =>
       t.gate = { s.gate with current := some (c + 1), settleTimer := some s.prof.profile.hill.settle }
         ∧ t.diag = counted .gateStray s ∧ LinkKept s t ∧ Boards [] s t ∧ Sends (overflows .gateStray s) s t)
     ∧ (s.gate.lastDir = some .down → 2 ≤ c → c ≤ s.prof.profile.hill.gates + 1 →
       Happens .indexPulse [.fld, .gate, .diag] s fun t =>
         t.gate = { s.gate with current := some (c - 1), settleTimer := some s.prof.profile.hill.settle }
           ∧ t.diag = counted .gateStray s ∧ LinkKept s t ∧ Boards [] s t ∧ Sends (overflows .gateStray s) s t)
     ∧ ((s.gate.lastDir = some .up ∧ s.prof.profile.hill.gates ≤ c) ∨ (s.gate.lastDir = some .down ∧ c ≤ 1) →
       Happens .indexPulse [.fld, .stc, .gate, .diag] s fun t =>
         t.gate = gateFaulted s.gate ∧ t.stc = { s.stc with heldArm := false, coach := none } ∧ LinkKept s t
           ∧ Boards [key .gate] s t
           ∧ (Room 1 s → t.diag = reported .gateDrive c { s with diag := counted .gateStray s }
               ∧ Sends (overflows .gateStray s ++ .gateFault .gateDrive (some c) ::
                   if s.stc.heldArm then [.armDropped .gateFault] else []) s t)))
  ∧ (∀ (s : State) (c target : Nat), s.gate.current = some c → s.gate.target = some target →
     (∀ k, s.gate.state = .settling → s.gate.settleTimer = some k → c = target → s.gate.returnWaiting = false →
       s.stc.heldArm = false → Happens .settleExpiry [.gate, .diag] s fun t =>
         t.gate = { s.gate with state := .idle, target := none, kind := none, settleTimer := none }
           ∧ LinkKept s t ∧ Boards [key .gate] s t
           ∧ (∀ kind, s.gate.kind = some kind → Room 1 s →
               t.diag = s.diag ∧ Sends [.gateDone kind (some c) s.gate.jury] s t))
     ∧ (∀ k j kind, s.gate.state = .settling → s.gate.settleTimer = some k → c = target → s.gate.returnWaiting = true →
       s.gate.jury = some j → s.gate.kind = some kind →
       (c ≠ j → Happens .settleExpiry [.gate, .diag] s fun t =>
         t.gate = { s.gate with state := if c < j then .movingUp else .movingDown, target := some j, kind := some .ret,
                                lastDir := some (if c < j then .up else .down), corrected := false, returnWaiting := false,
                                settleTimer := none, stepTimer := some s.prof.profile.hill.gateStep }
           ∧ LinkKept s t ∧ Boards [key .gate] s t
           ∧ (Room 1 s → t.diag = s.diag
               ∧ Sends [.gateDone kind (some c) (some j), .gateBegun .ret (some c) (some j) (some j)] s t))
       ∧ (c = j → s.stc.heldArm = false → Happens .settleExpiry [.gate, .diag] s fun t =>
         t.gate = { s.gate with state := .idle, target := none, kind := none, settleTimer := none, returnWaiting := false }
           ∧ LinkKept s t ∧ Boards [key .gate] s t))
     ∧ (∀ k kind, s.gate.state = .settling → s.gate.settleTimer = some k → c = target → s.stc.heldArm = true →
       s.gate.returnWaiting = false ∨ s.gate.jury = some c → s.gate.kind = some kind → HillLaws s →
       (∀ bib rest, s.cst.rstate = .opened → s.cst.startList = bib :: rest → s.stc.light = .red →
         Happens .settleExpiry [.cst, .stc, .gate, .diag] s fun t =>
           t.gate = { s.gate with state := .idle, target := none, kind := none, settleTimer := none, returnWaiting := false }
             ∧ t.cst = { s.cst with startList := rest,
                                    attempts := s.cst.attempts ++
                                      [newAttempt (s.cst.attempts.length + 1) s.cst.round bib (coachSteps s bib)] }
             ∧ t.stc = { s.stc with heldArm := false, light := .amber, flashOn := false, flashTimer := none,
                                    clearPending := false, windWaitSent := false,
                                    coach := if (coachSteps s bib).isSome then none else s.stc.coach }
             ∧ t.brd.subjects = { s.brd.subjects with jumper := some (s.cst.attempts.length + 1) }
             ∧ LinkKept s t ∧ Boards [key .gate, key .light, key .jumper] s t
             ∧ (Room 3 s → t.diag = s.diag ∧ Sends [.gateDone kind (some c) s.gate.jury,
                 .light .red .amber (some (s.cst.attempts.length + 1)),
                 .stateChange (s.cst.attempts.length + 1) s.cst.round bib none .waiting] s t))
       ∧ (s.cst.rstate ≠ .opened ∨ s.cst.startList = [] → Happens .settleExpiry [.stc, .gate, .diag] s fun t =>
           t.gate = { s.gate with state := .idle, target := none, kind := none, settleTimer := none, returnWaiting := false }
             ∧ t.stc = { s.stc with heldArm := false } ∧ LinkKept s t ∧ Boards [key .gate] s t
             ∧ (Room 1 s → t.diag = s.diag ∧ Sends [.gateDone kind (some c) s.gate.jury,
                 .armDropped (if s.cst.rstate = .opened then .listEmpty else .roundState)] s t)))
     ∧ (∀ k, s.gate.state = .settling → s.gate.settleTimer = some k → c ≠ target → s.gate.corrected = false →
       Happens .settleExpiry [.gate] s fun t =>
         t.gate = { s.gate with state := if c < target then .movingUp else .movingDown,
                                lastDir := some (if c < target then .up else .down), corrected := true, settleTimer := none,
                                stepTimer := some s.prof.profile.hill.gateStep } ∧ Quiet s t)
     ∧ (∀ k, s.gate.state = .settling → s.gate.settleTimer = some k → c ≠ target → s.gate.corrected = true →
       Happens .settleExpiry [.stc, .gate, .diag] s fun t =>
         t.gate = gateFaulted s.gate ∧ t.stc = { s.stc with heldArm := false, coach := none } ∧ LinkKept s t
           ∧ Boards [key .gate] s t
           ∧ (Room 1 s → t.diag = reported .gateDrive c s
               ∧ Sends (.gateFault .gateDrive (some c) :: if s.stc.heldArm then [.armDropped .gateFault] else []) s t)))

/-- The step timer and the home timer (R65, R67): FAULT, the fault capture, and what STC discards. The order of the notices and
keys of one command (log 14), and that a frame begins when it is over (log 9), are the model's choices. -/
def Obligations.AGateTimeoutIsAFault : Prop :=
  ∀ (s : State) (k : Nat),
    (∀ c, s.gate.stepTimer = some k → s.gate.state = .movingUp ∨ s.gate.state = .movingDown → s.gate.current = some c →
      Happens .stepTimeout [.stc, .gate, .diag] s fun t =>
        t.gate = gateFaulted s.gate ∧ t.stc = { s.stc with heldArm := false, coach := none } ∧ LinkKept s t
        ∧ Boards [key .gate] s t ∧ (Room 1 s → t.diag = reported .gateDrive c s ∧
            Sends (.gateFault .gateDrive (some c) :: if s.stc.heldArm then [.armDropped .gateFault] else []) s t))
    ∧ (s.gate.homeTimer = some k → s.gate.state = .homing →
      Happens .homeTimeout [.stc, .gate, .diag] s fun t =>
        t.gate = gateFaulted s.gate ∧ t.stc = { s.stc with heldArm := false, coach := none } ∧ LinkKept s t
        ∧ Boards [key .gate] s t ∧ (Room 1 s → t.diag = reported .gateHomeLost 0 s ∧
            Sends (.gateFault .gateHomeLost none :: if s.stc.heldArm then [.armDropped .gateFault] else []) s t))

/-! ## Speed trap and distance measuring (07) -/

/-- The speed trap (R106, R107, R108). -/
def Obligations.TheSpeedTrapTimesTheTakeOff : Prop :=
  ∀ (s : State) (n m interval : Nat), lineOf s .cellA = some n → lineOf s .cellB = some m →
    (s.meas.trap = .ready → Happens .cellAEdge [.fld, .meas] s fun t =>
      t.meas = { s.meas with trap := .counting, interval := 0, trapTimer := some 2000 } ∧ Quiet s t)
    ∧ (s.meas.trap ≠ .ready → Happens .cellAEdge [.fld] s (Quiet s))
    ∧ (∀ a, s.meas.trap = .counting → onHill? s = some a → interval ≤ 200000 →
      Happens (.cellBEdge interval) [.fld, .cst, .meas, .diag] s fun t =>
        t.meas = { s.meas with trap := .off, trapAttempt := none, interval := interval, trapTimer := none }
        ∧ LinkKept s t ∧ Boards [key .speed] s t ∧ t.brd.subjects = { s.brd.subjects with speed := some a.number }
        ∧ (∀ v, validSpeed s.prof.profile.hill.baseline interval = some v →
            t.cst = changed a.number (fun r => { r with state := .flight, takeoffTime := some s.link.clock,
                                                        speed := some v }) s.cst)
        ∧ (validSpeed s.prof.profile.hill.baseline interval = none →
            t.cst = changed a.number (fun r => { r with
              state := .flight, takeoffTime := some s.link.clock, speed := none,
              faults := if .speedRange ∈ r.faults then r.faults else r.faults ++ [.speedRange] }) s.cst)
        ∧ (Room 1 s → t.diag = s.diag ∧ Sends [.stateChange a.number a.round a.bib (some a.state) .flight] s t))
    ∧ (s.meas.trap = .ready ∨ s.meas.trap = .spent → Happens (.cellBEdge interval) [.fld, .diag] s fun t =>
        t.diag = counted .cellStray s ∧ LinkKept s t ∧ Boards [] s t ∧ Sends (overflows .cellStray s) s t)
    ∧ (s.meas.trap = .off → Happens (.cellBEdge interval) [.fld] s (Quiet s))
    ∧ (∀ k a, s.meas.trap = .counting → s.meas.trapTimer = some k → onHill? s = some a →
      Happens .trapTimerExpiry [.cst, .meas] s fun t =>
        t.meas = { s.meas with trap := .spent, trapTimer := none }
        ∧ t.cst = changed a.number (fun r => { r with
            faults := if .speedMissing ∈ r.faults then r.faults else r.faults ++ [.speedMissing] }) s.cst
        ∧ Quiet s t)

/-- The take-off speed (R107): the interval's limits, and the limit of 360.0 km/h. The conversion of a raw coordinate (R113): a
surveyed point gives its own distance, floored to half-metres and held to 1,000. Between two neighbouring points the position is
interpolated with the quotient truncated, and outside the table it is that of the first or the last point, with BEYOND_SURVEY. -/
def Obligations.SpeedAndDistanceFollowTheirRules : Prop :=
  (∀ (baseline interval v : Nat), validSpeed baseline interval = some v ↔
     1000 ≤ interval ∧ interval ≤ 200000 ∧ v = (baseline * 3600 + interval / 2) / interval ∧ v ≤ 3600)
  ∧ (∀ (ps : List SurveyPoint) (p : SurveyPoint), surveyOk ps = true → p ∈ ps →
     convertMark ps p.raw = (min 1000 (p.mm / 500), decide (1000 < p.mm / 500)))
  ∧ (∀ (ps before after : List SurveyPoint) (p q : SurveyPoint) (r : Nat), surveyOk ps = true → ps = before ++ p :: q :: after →
     p.raw ≤ r → r ≤ q.raw →
     let mm := p.mm + (r - p.raw) * (q.mm - p.mm) / (q.raw - p.raw)
     convertMark ps r = (min 1000 (mm / 500), decide (1000 < mm / 500)))
  ∧ (∀ (ps : List SurveyPoint) (p : SurveyPoint) (r : Nat), surveyOk ps = true →
     (ps.head? = some p → r < p.raw → convertMark ps r = (min 1000 (p.mm / 500), true))
     ∧ (ps.getLast? = some p → p.raw < r → convertMark ps r = (min 1000 (p.mm / 500), true)))

/-- Records of the consoles (R109, R110, R111): a heartbeat, a mark that no attempt takes, of a console ACTIVE or SILENT
before it, and a gap with and without a partial record. A complete record with a framing error, another sum or another
console's id is discarded with one MARK_BAD event, and leaves the console's state and its timer. A DISABLED console's line is
not received. That a framing error is judged when the record is complete (log 12), the order of the notices and keys of one
command (log 14), and that a frame begins when it is over (log 9), are the model's choices. -/
def Obligations.ConsoleRecordsAreTakenOrCounted : Prop :=
  (∀ (s : State) (c : Console), assembly c s.meas = [] → consoleState c s.meas ≠ .disabled →
     (Happens (.heartbeat c (clean (heartbeatBytes c))) [.meas] s fun t =>
       LinkKept s t ∧ Boards [] s t
         ∧ (consoleState c s.meas = .active → t.meas = s.meas.withSilence c (some 5000) ∧ Sends [] s t)
         ∧ (consoleState c s.meas = .silent →
             t.meas = (s.meas.withSilence c (some 5000)).withState c .active ∧ Sends [.console c .silent .active] s t))
     ∧ (∀ bib raw edit, bib < 1024 → raw < 65536 → edit < 64 → matchMark s bib = none →
       Happens (.markRecord c (clean (markRecordBytes c bib raw edit))) [.meas, .diag] s fun t =>
         t.meas = heardFrom c s.meas ∧ t.diag = counted .markStray s ∧ LinkKept s t ∧ Boards [] s t
           ∧ Sends (wakes c s ++ overflows .markStray s ++ [.markStray c bib raw edit]) s t)
     ∧ (∀ x, Happens (.recordGap c x) [.meas] s fun t => Quiet s t
         ∧ assembly c t.meas = if x.byte = 0xE5 ∨ x.byte = 0xE6 then [x] else [])
     ∧ (∀ (i : Instr) (r rest : List RxChar) (lead id : RxChar), i = .markRecord c r ∨ i = .heartbeat c r →
       r = lead :: id :: rest → (lead.byte = 0xE5 ∧ r.length = 7) ∨ (lead.byte = 0xE6 ∧ r.length = 3) →
       (∃ x ∈ r, x.framing = true) ∨ (r.map RxChar.byte).sum ≠ 0 ∨ id.byte ≠ consoleId c →
       Happens i [.diag] s fun t => t.diag = counted .markBad s ∧ OnlySends (overflows .markBad s) s t))
  ∧ (∀ (s : State) (c : Console) (i : Instr), consoleState c s.meas = .disabled →
     (∃ xs, i = .markRecord c xs ∨ i = .heartbeat c xs) ∨ (∃ x, i = .recordGap c x) → Happens i [] s (Quiet s))
  ∧ (∀ (s : State) (c : Console) (x : RxChar), assembly c s.meas ≠ [] → consoleState c s.meas ≠ .disabled →
     Happens (.recordGap c x) [.meas, .diag] s fun t =>
       assembly c t.meas = (if x.byte = 0xE5 ∨ x.byte = 0xE6 then [x] else []) ∧ t.diag = counted .markBad s
         ∧ LinkKept s t ∧ Boards [] s t ∧ Sends (overflows .markBad s) s t)

/-- A mark that an attempt in IN_RUN or FLIGHT takes (R108, R111 to R116): it is stored with its converted distance, and the
on- hill phase ends with its fault set and its notices. A further mark of an attempt in SCORING (R112, R116): a stale one is
ignored, another is stored and the distance is resolved, AGREED within the tolerance and HELD beyond it with CONSOLE_DISAGREE
and DISTANCE_HELD; a first mark after the mark limit waits for the other console. A SILENT console becomes ACTIVE by its
record (R110). With each come the keys, the subjects and the notices: DISTANCE where the distance changes (R116), and POINTS,
RANK, the TOP lines that change and ATTEMPT_COMPLETE where the attempt completes (R128). The order of the notices and keys of
one command (log 14), and that a frame begins when it is over (log 9), are the model's choices. -/
def Obligations.TheFirstMarkEndsTheFlight : Prop :=
  ∀ (s : State) (c : Console) (bib raw edit : Nat) (a : Attempt), HillLaws s → RankingOk s → MarksOk s →
    assembly c s.meas = [] → consoleState c s.meas ≠ .disabled → bib < 1024 → raw < 65536 → edit < 64 →
    matchMark s bib = some a →
    let m : ConsoleMark := { raw, edit, d := (convertMark (s.prof.profile.survey.getD []) raw).1 }
    let marked := if (convertMark (s.prof.profile.survey.getD []) raw).2 then joined .beyondSurvey a.faults else a.faults
    (a.state = .inRun ∨ a.state = .flight →
      Happens (.markRecord c (clean (markRecordBytes c bib raw edit))) [.cst, .gate, .wln, .meas, .scr, .diag] s fun t =>
        (∃ r, attempt? t a.number = some r ∧ (r.state = .scoring ∨ r.state = .complete) ∧ r.endCause = some .mark
          ∧ markOf c r = some m ∧ markOf (otherConsole c) r = none
          ∧ (s.prof.profile.hill.consoleBInUse = false ∨ consoleState (otherConsole c) s.meas ≠ .active →
              r.distance = some m.d ∧ r.distanceStatus = .single)
          ∧ (s.prof.profile.hill.consoleBInUse = true → consoleState (otherConsole c) s.meas = .active →
              r.distance = none ∧ r.distanceStatus = .pendingSecond
                ∧ t.meas.waits = s.meas.waits ++ [(a.number, s.prof.profile.hill.secondMarkWait)])
          ∧ (a.samples ≠ [] → r.windStatus = some .computed ∧ r.wind = windFigure a.samples)
          ∧ (a.samples = [] → r.windStatus = some .absent ∧ .noWind ∈ r.faults)
          ∧ r.faults = faultsOf a s marked
          ∧ Announces (freedKeys a s) (wakes c s ++ endNotices a .mark r.faults s) a r s t
          ∧ t.brd.subjects = scoredSubjects a r s.brd.subjects)
        ∧ t.meas = { heardFrom c s.meas with trap := .off, trapAttempt := none, trapTimer := none, markLimit := none,
                                             waits := t.meas.waits }
        ∧ Scored a s t ∧ GateFreed a s t ∧ t.wln = { s.wln with window := none } ∧ LinkKept s t)
    ∧ (∀ old, a.state = .scoring → markOf c a = some old → edit < old.edit →
      Happens (.markRecord c (clean (markRecordBytes c bib raw edit))) [.meas] s fun t =>
        t.meas = heardFrom c s.meas ∧ OnlySends (wakes c s) s t)
    ∧ (a.state = .scoring → (∀ old, markOf c a = some old → old.edit ≤ edit) →
      Happens (.markRecord c (clean (markRecordBytes c bib raw edit))) [.cst, .meas, .scr, .diag] s fun t =>
        (∃ r, attempt? t a.number = some r ∧ markOf c r = some m ∧ markOf (otherConsole c) r = markOf (otherConsole c) a
          ∧ (r.distanceStatus ≠ .held ∨ a.distanceStatus = .held → r.faults = marked)
          ∧ (∀ o, markOf (otherConsole c) a = some o → m.d ≤ o.d + s.prof.profile.hill.tolerance →
              o.d ≤ m.d + s.prof.profile.hill.tolerance →
              r.distance = some (if c = .a then m.d else o.d) ∧ r.distanceStatus = .agreed)
          ∧ (∀ o, markOf (otherConsole c) a = some o →
              (o.d + s.prof.profile.hill.tolerance < m.d ∨ m.d + s.prof.profile.hill.tolerance < o.d) →
              r.state = .scoring ∧ r.distance = none ∧ r.distanceStatus = .held
                ∧ (a.distanceStatus ≠ .held → .consoleDisagree ∈ r.faults ∧ r.faults = joined .consoleDisagree marked
                    ∧ heldNotices a r = [.distanceHeld a.number a.bib (if c = .a then m.d else o.d)
                        (if c = .a then o.d else m.d)]))
          ∧ (markOf (otherConsole c) a = none →
              (a.distanceStatus = .single ∨ s.prof.profile.hill.consoleBInUse = false
                ∨ consoleState (otherConsole c) s.meas ≠ .active → r.distance = some m.d ∧ r.distanceStatus = .single)
              ∧ (a.distanceStatus = .pendingSecond → s.prof.profile.hill.consoleBInUse = true →
                consoleState (otherConsole c) s.meas = .active →
                  r.distance = none ∧ r.distanceStatus = .pendingSecond ∧ t.meas.waits = s.meas.waits)
              ∧ (a.distanceStatus = .missing → s.prof.profile.hill.consoleBInUse = true →
                consoleState (otherConsole c) s.meas = .active →
                  r.state = .scoring ∧ r.distance = none ∧ r.distanceStatus = .pendingSecond
                    ∧ t.meas.waits = s.meas.waits ++ [(a.number, s.prof.profile.hill.secondMarkWait)]))
          ∧ Announces [] (wakes c s ++ heldNotices a r) a r s t ∧ t.brd.subjects = scoredSubjects a r s.brd.subjects)
        ∧ (markOf (otherConsole c) a ≠ none → t.meas.waits = s.meas.waits.filter fun w => w.1 != a.number)
        ∧ t.meas = { heardFrom c s.meas with waits := t.meas.waits }
        ∧ Scored a s t ∧ LinkKept s t)

/-- The mark limit, the second-mark wait and a console's silence (R110, R115, R117, R118), with the keys, subjects and notices
of what they settle, for a silence that one attempt waits for. A silence that several wait for settles them as the ends of
their waits would, one at a time in the order of the waits (R118); this is stated while a notice and a board frame are on
their lines, so that neither begins in between. The order of the notices and keys of one command (log 14), and that a frame
begins when it is over (log 9), are the model's choices. -/
def Obligations.MarksThatDoNotCome : Prop :=
  (∀ (s : State) (k : Nat) (a : Attempt), HillLaws s → RankingOk s → MarksOk s → attempt? s a.number = some a →
    (s.meas.markLimit = some (a.number, k) → (a.state = .inRun ∨ a.state = .flight) →
      Happens .markLimitExpiry [.cst, .gate, .wln, .meas, .scr, .diag] s fun t =>
        (∃ r, attempt? t a.number = some r ∧ r.state = .scoring ∧ r.endCause = some .limit ∧ r.distance = none
          ∧ r.distanceStatus = .missing ∧ .noMark ∈ r.faults ∧ r.faults = faultsOf a s (joined .noMark a.faults)
          ∧ Announces (freedKeys a s) (endNotices a .limit r.faults s) a r s t)
        ∧ t.brd.subjects = s.brd.subjects
        ∧ t.meas = { s.meas with trap := .off, trapAttempt := none, trapTimer := none, markLimit := none }
        ∧ Scored a s t ∧ GateFreed a s t ∧ t.wln = { s.wln with window := none } ∧ LinkKept s t)
    ∧ (∀ x, (a.number, k) ∈ s.meas.waits → a.markA = some x ∨ (a.markA = none ∧ a.markB = some x) →
      Happens (.secondMarkWaitExpiry a.number) [.cst, .meas, .scr, .diag] s fun t =>
        (∃ r, attempt? t a.number = some r ∧ r.distance = some x.d ∧ r.distanceStatus = .single ∧ Announces [] [] a r s t
          ∧ t.brd.subjects = scoredSubjects a r s.brd.subjects)
        ∧ t.meas = { s.meas with waits := s.meas.waits.filter fun w => w.1 != a.number }
        ∧ Scored a s t ∧ LinkKept s t))
  ∧ (∀ (s : State) (k : Nat) (c : Console), silence c s.meas = some k →
    (consoleState c s.meas = .active → s.meas.waits = [] →
      Happens (.silenceTimerExpiry c) [.meas] s fun t =>
        t.meas = (s.meas.withSilence c none).withState c .silent ∧ LinkKept s t ∧ Boards [] s t
          ∧ Sends [.console c .active .silent] s t)
    ∧ (consoleState c s.meas = .active → HillLaws s → MarksOk s →
      Happens (.silenceTimerExpiry c) [.cst, .meas, .scr, .diag] s fun t =>
        (∀ w ∈ s.meas.waits, ∀ a, attempt? s w.1 = some a → markOf c a = none →
          ∃ r, attempt? t w.1 = some r ∧ r.distance = (markOf (otherConsole c) a).map ConsoleMark.d
            ∧ r.distanceStatus = .single)
        ∧ (∀ a ∈ s.cst.attempts, a.number ∉ s.meas.waits.map Prod.fst ∨ (markOf c a).isSome = true →
            attempt? t a.number = some a)
        ∧ t.meas = { (s.meas.withSilence c none).withState c .silent with
            waits := s.meas.waits.filter fun w => ((attempt? s w.1).map fun a => (markOf c a).isSome).getD true }
        ∧ t.cst.round = s.cst.round ∧ t.cst.startList = s.cst.startList ∧ LinkKept s t)
    ∧ (∀ w a, consoleState c s.meas = .active → HillLaws s → MarksOk s → s.meas.waits = [w] → attempt? s w.1 = some a →
        markOf c a = none →
      Happens (.silenceTimerExpiry c) [.cst, .meas, .scr, .diag] s fun t =>
        (∃ r, attempt? t w.1 = some r ∧ Announces [] [.console c .active .silent] a r s t
          ∧ t.brd.subjects = scoredSubjects a r s.brd.subjects)
        ∧ Scored a s t)
    ∧ (∀ n, consoleState c s.meas = .active → s.link.tx = .notice n → s.brd.sender ≠ none →
      Happens (.silenceTimerExpiry c) [.cst, .meas, .scr, .diag] s fun t =>
        let u := waitsExpired (waitersFor c s) { s with
          meas := (s.meas.withSilence c none).withState c .silent, link := queueNotice (.console c .active .silent) s.link }
        t.cst = u.cst ∧ t.scr = u.scr ∧ t.meas = u.meas ∧ t.diag = u.diag ∧ t.link = u.link ∧ t.brd.queue = u.brd.queue
          ∧ t.brd.subjects = u.brd.subjects)
    ∧ (consoleState c s.meas ≠ .active →
      Happens (.silenceTimerExpiry c) [.meas] s fun t => t.meas = s.meas.withSilence c none ∧ Quiet s t))

/-! ## Scoring and the ranking list (08) -/

/-- ENTER MARK and CLOSE MARKS (R122, R123, R124); SET DISTANCE and SET WIND (R103, R119). With each come the keys, the
subjects and the notices: MARKS where a mark has changed or the marks are closed, DISTANCE where the distance has, and POINTS,
RANK, the TOP lines that change and ATTEMPT_COMPLETE where the attempt completes or its points change (R128, R132). That RANK
names the attempt's bib also where a recompute leaves the total (log 50), the order of the notices and keys of one command
(log 14), and that a frame begins when it is over (log 9), are the model's choices. -/
def Obligations.JudgesAndJuryGiveTheirFigures : Prop :=
  (∀ (s : State) (tag : Byte) (a : Attempt) (judge mark : Nat), Free s → 1 ≤ a.number → a.number ≤ 400 →
     attempt? s a.number = some a → ofConfirmedRound s a = false → RankingOk s →
     (1 ≤ judge → judge ≤ 5 → mark ≤ 40 →
       a.state = .inRun ∨ a.state = .flight ∨ a.state = .scoring ∨ a.state = .complete →
       Completes (.enterMark tag a.number judge mark) .done .none [.cst, .scr, .diag] s fun t =>
         (∃ r, attempt? t a.number = some r ∧ r.marks = a.marks.set (judge - 1) (some mark)
           ∧ r.style = (if (presentMarks (a.marks.set (judge - 1) (some mark))).length = 5 then .full else a.style)
           ∧ Announces (if a.marks[judge - 1]? = some (some mark) then [] else [key .marks]) [] a r s t
           ∧ t.brd.subjects = scoredSubjects a r (if a.marks[judge - 1]? = some (some mark) then s.brd.subjects
               else { s.brd.subjects with marks := some a.number }))
         ∧ (a.state = .inRun ∨ a.state = .flight → t.scr = s.scr
             ∧ t.cst = changed a.number (fun r => { r with
                 marks := r.marks.set (judge - 1) (some mark),
                 style := if (presentMarks (r.marks.set (judge - 1) (some mark))).length = 5 then .full else r.style }) s.cst)
         ∧ Scored a s t ∧ LinkKept s t)
     ∧ (a.state = .waiting ∨ a.state = .cleared ∨ a.state = .lapsed ∨ a.state = .voided ∨ a.state = .cancelled →
         1 ≤ judge → judge ≤ 5 → mark ≤ 40 → Refuses (.enterMark tag a.number judge mark) .state s)
     ∧ (a.state = .inRun ∨ a.state = .flight ∨ a.state = .scoring ∨ a.state = .complete →
         ((presentMarks a.marks).length < 4 → Refuses (.closeMarks tag a.number) .state s)
         ∧ ((presentMarks a.marks).length = 4 → a.style = .opened →
           Completes (.closeMarks tag a.number) .done .none [.cst, .scr, .diag] s fun t =>
             (∃ r, attempt? t a.number = some r ∧ r.style = .closed4 ∧ r.marks = a.marks ∧ Announces [key .marks] [] a r s t
               ∧ t.brd.subjects = scoredSubjects a r { s.brd.subjects with marks := some a.number })
             ∧ (a.state ≠ .complete → Scored a s t) ∧ LinkKept s t)
         ∧ ((presentMarks a.marks).length = 4 → a.style ≠ .opened →
             Completes (.closeMarks tag a.number) .done .none [] s (Quiet s))
         ∧ (4 < (presentMarks a.marks).length → Completes (.closeMarks tag a.number) .done .none [] s (Quiet s))))
  ∧ (∀ (s : State) (tag : Byte) (a : Attempt) (d : Nat) (w : Int), Free s → 1 ≤ a.number → a.number ≤ 400 →
     attempt? s a.number = some a → ofConfirmedRound s a = false → RankingOk s → d ≤ 1000 → -6000 ≤ w → w ≤ 6000 →
     (a.state = .scoring ∨ a.state = .complete →
       (Completes (.setDistance tag a.number d) .done .none [.cst, .meas, .scr, .diag] s fun t =>
         (∃ r, attempt? t a.number = some r ∧ r.distance = some d ∧ r.distanceStatus = .jury ∧ Announces [] [] a r s t
           ∧ t.brd.subjects = scoredSubjects a r s.brd.subjects)
         ∧ t.meas = { s.meas with waits := s.meas.waits.filter fun x => x.1 != a.number }
         ∧ Scored a s t ∧ LinkKept s t)
       ∧ (Completes (.setWind tag a.number w) .done .none [.cst, .scr, .diag] s fun t =>
         (∃ r, attempt? t a.number = some r ∧ r.wind = some w ∧ r.windStatus = some .jury ∧ r.samples = a.samples
           ∧ Announces [] [] a r s t ∧ t.brd.subjects = scoredSubjects a r s.brd.subjects)
         ∧ Scored a s t ∧ LinkKept s t))
     ∧ (a.state ≠ .scoring → a.state ≠ .complete →
         Refuses (.setDistance tag a.number d) .state s ∧ Refuses (.setWind tag a.number w) .state s))

/-- VOID ATTEMPT of an attempt off the hill, of one at the bar, and of one after its leave (R29, R37, R38, R57, R58, R139),
with the keys, the subject of RANK and the notices. The bib that comes back to the head ends a coach reduction that is pending
for another bib. The order of the notices and keys of one command (log 14), and that a frame begins when it is over (log 9),
are the model's choices. -/
def Obligations.AVoidTakesBackWhatWasGiven : Prop :=
  ∀ (s : State) (tag : Byte) (a : Attempt), Free s → 1 ≤ a.number → a.number ≤ 400 → attempt? s a.number = some a →
    ofConfirmedRound s a = false →
    (a.state = .voided ∨ a.state = .cancelled → Refuses (.voidAttempt tag a.number) .state s)
    ∧ (a.state = .scoring ∨ a.state = .complete ∨ a.state = .lapsed →
      (80 ≤ placesHeld s → Refuses (.voidAttempt tag a.number) .full s)
      ∧ (placesHeld s < 80 → coachOff s (a.bib :: s.cst.startList) = false →
          Completes (.voidAttempt tag a.number) .done .none [.cst, .wln, .meas, .scr, .diag] s fun t =>
            TakenBack a s t ∧ Boards (takenBackKeys a s t) s t ∧ (Room 11 s → t.diag = s.diag
              ∧ Sends [.stateChange a.number a.round a.bib (some a.state) .voided] s t))
      ∧ (placesHeld s < 80 → coachOff s (a.bib :: s.cst.startList) = true →
          Completes (.voidAttempt tag a.number) .done .none [.cst, .stc, .gate, .wln, .meas, .scr, .diag] s fun t =>
            TakenBack a s t ∧ CoachEnds s t ∧ Boards (takenBackKeys a s t ++ returnKeys s.gate) s t ∧ (Room 12 s → t.diag = s.diag
              ∧ Sends (.stateChange a.number a.round a.bib (some a.state) .voided :: returnNotices s.gate) s t)))
    ∧ (HillLaws s → LightOk s → onHill? s = some a → a.state = .waiting ∨ a.state = .cleared →
      Completes (.voidAttempt tag a.number) .done .none [.cst, .stc, .gate, .diag] s (VoidedAtBar a s.cst.rstate s))
    ∧ (HillLaws s → LightOk s → onHill? s = some a → a.state = .inRun ∨ a.state = .flight →
      Completes (.voidAttempt tag a.number) .done .none [.cst, .stc, .gate, .wln, .meas, .diag] s fun t =>
        t.cst = { changed a.number (fun r => { r with state := .voided }) s.cst with startList := a.bib :: s.cst.startList }
        ∧ t.wln = { s.wln with window := none }
        ∧ t.meas = { s.meas with trap := .off, trapAttempt := none, trapTimer := none, markLimit := none }
        ∧ t.stc = s.stc ∧ GateFreed a s t ∧ LinkKept s t ∧ Boards (freedKeys a s) s t ∧ t.brd.subjects = s.brd.subjects
        ∧ (Room 1 s → t.diag = s.diag
            ∧ Sends (.stateChange a.number a.round a.bib (some a.state) .voided :: freedNotices a s) s t))

/-- Completion (R127, R128): distance, style and wind settled give the points, the round total and the re-ranking, the keys
with their subjects, the FIRST notice, and the end of a round that has nothing more to come (R18). The points are those of the
distance, the marks, the gates and the wind, by the rules that the statements on them state (R129 to R131). A recompute of a
COMPLETE attempt (R132): its points and total, and the keys and the RECOMPUTED notice where a value has changed. That RANK
then names the attempt's bib, also where the total has not changed, is the model's choice (log 50). The gate points (R130),
and the total with its clamp (R131). -/
def Obligations.ASettledAttemptCompletes : Prop :=
  (∀ (s : State) (a : Attempt), attempt? s a.number = some a →
     (a.state = .scoring → settled a = true →
       attempt? (checkCompletion a.number s) a.number =
         some { a with state := .complete, points := some (computePoints s.prof.profile.hill s.gate.reference a) }
       ∧ (∀ c, findBib s.cst.directory a.bib = some c →
           findBib (checkCompletion a.number s).cst.directory a.bib = some { c with
             totals := c.totals.set (a.round - 1) (some (computePoints s.prof.profile.hill s.gate.reference a).total) })
       ∧ (checkCompletion a.number s).scr.ranking =
           reRanked (checkCompletion a.number s).cst.directory a.bib s.scr.ranking
       ∧ (let t := checkCompletion a.number s
          let ends := s.cst.rstate = .opened ∧ s.cst.startList = [] ∧ ∀ x ∈ s.cst.attempts, x.round = s.cst.round →
            x.number ≠ a.number → x.state.onHill = false ∧ x.state ≠ .scoring
          t.brd.queue = onto ([key .points, key .rank] ++ changedLines (topTen s) (topTen t)) s.brd.queue
          ∧ t.brd.subjects = { s.brd.subjects with points := some a.number, rank := some a.bib }
          ∧ (ends → t.cst.rstate = .ended) ∧ (¬ends → t.cst.rstate = s.cst.rstate) ∧ t.cst.startList = s.cst.startList
          ∧ (∀ c, findBib s.cst.directory a.bib = some c → Room 12 s →
              let p := computePoints s.prof.profile.hill s.gate.reference a
              let d := { c with totals := c.totals.set (a.round - 1) (some p.total) }
              t.diag = s.diag ∧ t.link = queueNotice (.attemptComplete false a.number a.round a.bib a.distance p
                (rankingTotal d) (rankOf t.cst.directory t.scr.ranking d)) s.link)))
     ∧ (a.state ≠ .scoring ∨ settled a = false → checkCompletion a.number s = s))
  ∧ (∀ a : Attempt, settled a = true ↔
     (a.distanceStatus = .agreed ∨ a.distanceStatus = .single ∨ a.distanceStatus = .jury)
     ∧ (a.style = .full ∨ a.style = .closed4) ∧ (a.windStatus = some .computed ∨ a.windStatus = some .jury))
  ∧ (∀ (s : State) (a : Attempt) (c : Competitor), HillLaws s → attempt? s a.number = some a → a.state = .complete →
     findBib s.cst.directory a.bib = some c →
     let p := computePoints s.prof.profile.hill s.gate.reference a
     let t := recompute a.number s
     attempt? t a.number = some { a with points := some p }
     ∧ findBib t.cst.directory a.bib = some { c with totals := c.totals.set (a.round - 1) (some p.total) }
     ∧ t.cst.rstate = s.cst.rstate ∧ t.cst.startList = s.cst.startList
     ∧ (a.points = some p → t.brd = s.brd ∧ t.link = s.link)
     ∧ (a.points ≠ some p →
         t.brd.queue = onto ([key .points, key .rank] ++ changedLines (topTen s) (topTen t)) s.brd.queue
         ∧ t.brd.subjects = { s.brd.subjects with points := some a.number, rank := some a.bib }
         ∧ (Room 12 s → t.link = queueNotice (.attemptComplete true a.number a.round a.bib a.distance p
             (rankingTotal { c with totals := c.totals.set (a.round - 1) (some p.total) })
             (rankOf t.cst.directory t.scr.ranking { c with totals := c.totals.set (a.round - 1) (some p.total) })) s.link)))
  ∧ (∀ (h : HillSection) (a : Attempt) (r j g d : Nat), a.juryGate = some j → a.attemptGate = some g →
     gatePoints h (some r) a d = (h.gf : Int) * ((r : Int) - j) +
       (if a.coach.isSome ∧ h.ch ≤ d then (h.gf : Int) * ((j : Int) - g) else 0))
  ∧ (∀ (h : HillSection) (reference : Option Nat) (a : Attempt),
     let p := computePoints h reference a
     let sum := (p.pD : Int) + p.pS + p.pG + p.pW
     (∀ d w, a.distance = some d → a.wind = some w → p.pD = distancePoints h d ∧ p.pS = stylePoints a.style a.marks
       ∧ p.pG = gatePoints h reference a d ∧ p.pW = windPoints h w)
     ∧ p.total ≤ 99999 ∧ (0 ≤ sum → sum ≤ 99999 → (p.total : Int) = sum) ∧ (sum < 0 → p.total = 0)
       ∧ (99999 < sum → p.total = 99999))

def Obligations.DistancePointsFollowTheRule : Prop :=
  ∀ (h : HillSection) (d : Nat),
    ((distancePoints h d : Nat) : Int) =
      (if (h.base : Int) + h.mvh * ((d : Int) - h.kh) < 0 then 0 else (h.base : Int) + h.mvh * ((d : Int) - h.kh))
    ∧ (hillOk h = true → d ≤ 1000 → distancePoints h d ≤ 21200)

/-- The style points (R125, R126): the highest and the lowest mark fall out; three marks count times 5, two are scaled by 3/2. -/
def Obligations.StylePointsDropTheExtremes : Prop :=
  (∀ a b c d e lo hi : Nat, (∀ x ∈ [a, b, c, d, e], lo ≤ x ∧ x ≤ hi) → lo ∈ [a, b, c, d, e] → hi ∈ [a, b, c, d, e] →
    stylePoints .full [some a, some b, some c, some d, some e] = (a + b + c + d + e - lo - hi) * 5
      ∧ (hi ≤ 40 → stylePoints .full [some a, some b, some c, some d, some e] ≤ 600))
  ∧ ∀ (ms : List (Option Nat)) (lo hi : Nat), ms.length = 5 → (presentMarks ms).length = 4 →
    (∀ x ∈ ms.filterMap id, lo ≤ x ∧ x ≤ hi) → lo ∈ ms.filterMap id → hi ∈ ms.filterMap id →
    stylePoints .closed4 ms = ((ms.filterMap id).sum - lo - hi) * 3 / 2 * 5 ∧ (hi ≤ 40 → stylePoints .closed4 ms ≤ 600)

/-! ## Wind line and wind arithmetic (05, 06) -/

/-- The tangential component (R94, R95): its table's entries, its symmetries, its formula with halves rounded away from zero,
and its range. The wind figure lies between the least and the greatest sample, and is their sum by their number, rounded with
halves away from zero (R102); a cycle mean is truncated toward zero (R96). The wind points (R104) are rounded on the
magnitude, taken off for headwind and added for tailwind. -/
def Obligations.WindArithmeticStaysInRange : Prop :=
  ((∀ x, 1 ≤ x → x ≤ 359 → cosTable (360 - x) = cosTable x) ∧ (∀ x, x ≤ 180 → cosTable (180 - x) = -cosTable x)
     ∧ (∀ x, x ≤ 359 → -10000 ≤ cosTable x ∧ cosTable x ≤ 10000)
     ∧ (∀ e ∈ ([(0, 10000), (10, 9848), (20, 9397), (30, 8660), (40, 7660), (45, 7071), (50, 6428), (60, 5000), (70, 3420),
            (80, 1736), (90, 0), (100, -1736), (110, -3420), (120, -5000), (135, -7071), (150, -8660), (160, -9397),
            (170, -9848), (180, -10000), (200, -9397), (315, 7071)] : List (Nat × Int)), cosTable e.1 = e.2)
     ∧ (∀ speed direction bearing : Nat, speed ≤ 6000 → direction ≤ 359 → bearing ≤ 359 →
         let n : Int := speed * cosTable ((direction + 360 - bearing) % 360)
         (0 ≤ n → tangential speed direction bearing = (n + 5000) / 10000)
           ∧ (n < 0 → tangential speed direction bearing = -((-n + 5000) / 10000)))
     ∧ ∀ speed direction bearing, speed ≤ 6000 → direction ≤ 359 → bearing ≤ 359 →
         -6000 ≤ tangential speed direction bearing ∧ tangential speed direction bearing ≤ 6000
           ∧ tangential 0 direction bearing = 0)
  ∧ (∀ (xs : List Int) (lo hi : Int), xs ≠ [] → (∀ x ∈ xs, lo ≤ x ∧ x ≤ hi) →
     ∃ w, windFigure xs = some w ∧ lo ≤ w ∧ w ≤ hi)
  ∧ (∀ (xs : List Int) (n : Int), n = xs.length →
     (xs = [] → windFigure xs = none ∧ truncatedMean xs = none)
     ∧ (xs ≠ [] → 0 ≤ xs.sum → windFigure xs = some ((2 * xs.sum + n) / (2 * n)) ∧ truncatedMean xs = some (xs.sum / n))
     ∧ (xs ≠ [] → xs.sum < 0 →
         windFigure xs = some (-((2 * -xs.sum + n) / (2 * n))) ∧ truncatedMean xs = some (-(-xs.sum / n))))
  ∧ (∀ (h : HillSection) (w : Int),
     (0 ≤ w → windPoints h w = -((h.hf * w + 50) / 100)) ∧ (w < 0 → windPoints h w = (h.tf * -w + 50) / 100)
     ∧ (h.hf ≤ 500 → h.tf ≤ 500 → -6000 ≤ w → w ≤ 6000 → -30000 ≤ windPoints h w ∧ windPoints h w ≤ 30000))

/-- DISABLE STATION and ENABLE STATION (R84, R86, R88), with STATION_LOST of a scoring station disabled while a wind window is
open, and the cycle that begins in STOPPED (R80). That the record changes and the notice goes at once while a line test runs,
and only polling waits for its end, is the model's choice (log 53). -/
def Obligations.StationsAreDisabledAndEnabled : Prop :=
  (∀ (s : State) (tag : Byte) (k : Nat) (x : StationSlot), Free s → k ≤ 7 → slot? s k = some x →
    s.wln.stations.length = 8 →
    ((station s k).state = .disabled → Completes (.disableStation tag k) .done .none [] s (Quiet s))
    ∧ ((station s k).state ≠ .disabled → s.wln.window = none ∨ x.scoring = false →
      Completes (.disableStation tag k) .done .none [.wln] s fun t =>
        (station t k).state = .disabled ∧ (∀ n, n ≠ k → station t n = station s n)
        ∧ (s.wln.phase ≠ .none → s.wln.polled = k → t.wln.discard = true) ∧ LinkKept s t ∧ Boards [] s t
        ∧ Sends [.station k x.address (station s k).state .disabled (station s k).misses] s t)
    ∧ (∀ n collects, s.wln.window = some (n, collects) → (station s k).state ≠ .disabled → x.scoring = true →
      Completes (.disableStation tag k) .done .none [.cst, .wln] s fun t =>
        t.cst = faulted n .stationLost s.cst
        ∧ (station t k).state = .disabled ∧ (∀ m, m ≠ k → station t m = station s m)
        ∧ (s.wln.phase ≠ .none → s.wln.polled = k → t.wln.discard = true) ∧ LinkKept s t ∧ Boards [] s t
        ∧ Sends [.station k x.address (station s k).state .disabled (station s k).misses] s t)
    ∧ ((station s k).state ≠ .disabled → Completes (.enableStation tag k) .done .none [] s (Quiet s))
    ∧ ((station s k).state = .disabled → s.wln.poll ≠ .stopped ∨ s.wln.test ≠ .idle →
      Completes (.enableStation tag k) .done .none [.wln] s fun t =>
        (station t k).state = .unknown ∧ (station t k).misses = 0 ∧ (∀ n, n ≠ k → station t n = station s n)
        ∧ t.wln.poll = s.wln.poll ∧ t.wln.cycle = s.wln.cycle
        ∧ LinkKept s t ∧ Boards [] s t ∧ Sends [.station k x.address .disabled .unknown 0] s t)
    ∧ ((station s k).state = .disabled → s.wln.poll = .stopped → s.wln.test = .idle →
      Completes (.enableStation tag k) .done .none [.wln] s fun t =>
        station t k = { station s k with state := .unknown, misses := 0, good := false, newcomer := false }
        ∧ (∀ n, n ≠ k → station t n = { station s n with good := false, newcomer := false })
        ∧ t.wln.poll = .inCycle ∧ t.wln.cycle = (s.wln.cycle + 1) % 65536
        ∧ t.wln.cycleTimer = some s.prof.profile.hill.cycleMin
        ∧ t.wln.polled ≤ k ∧ (t.wln.phase = .carrierWait ∨ t.wln.phase = .turnaround)
        ∧ LinkKept s t ∧ Boards [] s t ∧ Sends [.station k x.address .disabled .unknown 0] s t))
  ∧ (∀ (s : State) (tag : Byte) (k : Nat), Free s →
    (7 < k → Refuses (.disableStation tag k) .range s ∧ Refuses (.enableStation tag k) .range s)
    ∧ (k ≤ 7 → slot? s k = none → Refuses (.disableStation tag k) .notFound s ∧ Refuses (.enableStation tag k) .notFound s))

/-- LINE TEST and its measurement (R91, R92): what ends it, its four results, and what polling does then, from STOPPED and
from PAUSED (R79, R80). The echo count of a NOISE result, which no pulse started, is a free value (log 19): the statement says
only that it is at most 4,096. That a character ends the listen at once, while a carrier is judged at its end (log 20), that
the characters after a closed reply are noise until a timer of their own ends (log 23), that a kept cycle has no cycle end
where no station can be polled any longer (log 51), and that the refusal for an attempt on the hill comes before the one for a
running test (log 52) are the model's choices. The order of the notices and keys of one command (log 14), and that a frame
begins when it is over (log 9), are the model's choices. -/
def Obligations.TheLineTestMeasures : Prop :=
  (∀ (s : State) (tag : Byte),
    (Free s → ¬HillClear s → Refuses (.lineTest tag) .state s)
    ∧ (Free s → HillClear s → s.wln.test ≠ .idle → Refuses (.lineTest tag) .busy s)
    ∧ (Free s → HillClear s → s.wln.test = .idle → s.wln.phase ≠ .none →
      Completes (.lineTest tag) .accepted .none [.wln] s fun t =>
        t.wln = { s.wln with test := .waitingExchange } ∧ Quiet s t)
    ∧ (Free s → HillClear s → s.wln.test = .idle → s.wln.phase = .none →
      Completes (.lineTest tag) .accepted .none [.wln] s fun t =>
        (∃ heard, t.wln.test = .listening 1 heard) ∧ (s.wln.poll ≠ .stopped → t.wln.poll = .paused)
          ∧ (s.wln.poll = .stopped → t.wln.poll = .stopped) ∧ t.wln.stations = s.wln.stations ∧ Quiet s t)
    ∧ (∀ r, s.wln.test = .listening r false → sensedFn s .windCd ≠ some true → Happens .listenEnd [.wln] s fun t =>
        t.wln = { s.wln with test := .watching } ∧ Quiet s t))
  ∧ (∀ (s : State) (i : Instr), EndsTest i s →
    (s.wln.poll = .stopped →
      (anyPollable s = false → TestEnds i [] s fun w ns t => t.wln = w ∧ TestOnlySends i ns s t)
      ∧ (∀ k, DueIn ((s.wln.cycle + 1) % 65536) k s → TestEnds i [] s fun w ns t =>
          CycleBegins s t ∧ KeepsTest w t ∧ TestOnlySends i ns s t)
      ∧ (OnlyOffline s → TestEnds i [.stc] s fun w _ t => EmptyCycle s t ∧ KeepsTest w t))
    ∧ (s.wln.poll = .paused → anyPollable s = false → TestEnds i [] s fun w ns t =>
        t.wln = { w with poll := .stopped, cycleTimer := none } ∧ TestOnlySends i ns s t)
    ∧ (s.wln.poll = .paused → s.wln.pausedBetween = true →
      (anyPollable s = true → s.wln.cycleTimer.isSome = true → TestEnds i [] s fun w ns t =>
        t.wln = { w with poll := .between } ∧ TestOnlySends i ns s t)
      ∧ (∀ k, s.wln.cycleTimer = none → DueIn ((s.wln.cycle + 1) % 65536) k s → TestEnds i [] s fun w ns t =>
          CycleBegins s t ∧ KeepsTest w t ∧ TestOnlySends i ns s t)
      ∧ (s.wln.cycleTimer = none → OnlyOffline s → TestEnds i [.stc] s fun w _ t => EmptyCycle s t ∧ KeepsTest w t))
    ∧ (s.wln.poll = .paused → s.wln.pausedBetween = false →
      (∀ k, nextDue s = some k → TestEnds i [] s fun w ns t =>
        t.wln.poll = .inCycle ∧ t.wln.cycle = s.wln.cycle ∧ t.wln.cycleTimer = s.wln.cycleTimer
          ∧ t.wln.stations = s.wln.stations ∧ t.wln.polled = k ∧ (t.wln.phase = .carrierWait ∨ t.wln.phase = .turnaround)
          ∧ KeepsTest w t ∧ TestOnlySends i ns s t)
      ∧ (nextDue s = none → anyPollable s = true → s.wln.cycleTimer.isSome = true →
        TestEnds i [.cst, .stc, .gate] s fun w _ t =>
          t.wln.poll = .between ∧ t.wln.cycle = s.wln.cycle ∧ t.wln.cycleTimer = s.wln.cycleTimer ∧ t.wln.phase = s.wln.phase
            ∧ t.wln.stations = s.wln.stations ∧ t.wln.gating.value = truncatedMean ((gatingReadings s).map Reading.t)
            ∧ KeepsTest w t)
      ∧ (∀ k, nextDue s = none → s.wln.cycleTimer = none → DueIn ((s.wln.cycle + 1) % 65536) k s →
        TestEnds i [.cst, .stc, .gate] s fun w _ t =>
          CycleBegins s t ∧ t.wln.gating.value = truncatedMean ((gatingReadings s).map Reading.t) ∧ KeepsTest w t)
      ∧ (nextDue s = none → s.wln.cycleTimer = none → OnlyOffline s →
        TestEnds i [.cst, .stc, .gate] s fun w _ t => EmptyCycle s t ∧ KeepsTest w t)))

/-- An exchange up to its reply (R74, R75, R76), and characters while none is expected (R89). WIND_TXEN is raised in
TURNAROUND unless SET LINES has moved it in this exchange (R7, R16). Whether a carrier is there when the poll has been sent is
judged with WIND_TXEN inactive and REPLY_WAIT entered. The listen of a line test notes a carrier that comes (R92). A character
is taken as the receive polarity gives it (R73), by whichever of the three commands it comes; the 32nd of a reply closes it as
the gap would. That the commands carry the levels on the line is the model's choice (log 47), and so are these: TURNAROUND and
REPLY_WAIT take the delay and the timeout of the profile as it stands when they begin, against the Notes of R4 (log 48); an
exchange keeps the WIND_CD line it began with, and the commands of the carrier speak of that line alone until it ends (log
22); the characters after a closed reply are noise until a timer of their own ends (trailing, log 23); the end of a turnaround
or of a poll in another phase changes nothing, and a change of the carrier that ends or begins nothing moves the level alone
(log 2); and a frame begins when the command is over (log 9). -/
def Obligations.AnExchangeGoesThroughItsPhases : Prop :=
  ∀ (s : State) (x : RxChar),
    (∀ n, s.wln.phase = .carrierWait → s.wln.cdLine = some n → Happens .carrierClear [.fld, .wln] s fun t =>
      t.wln = { s.wln with phase := .turnaround, carrierTimer := none, txen := !s.wln.txenMoved,
                           turnTimer := some s.prof.profile.hill.turnaround }
        ∧ t.fld = { s.fld with outside := setLevel s.fld.outside n false } ∧ Quiet s t)
    ∧ (∀ n, s.wln.phase ≠ .carrierWait → carrierLine s = some n → Happens .carrierClear [.fld] s fun t =>
        t.fld = { s.fld with outside := setLevel s.fld.outside n false } ∧ Quiet s t)
    ∧ (s.wln.phase ≠ .carrierWait → carrierLine s = none → Happens .carrierClear [] s (Quiet s))
    ∧ (s.wln.phase = .turnaround → Happens .turnaroundEnd [.wln] s fun t =>
        t.wln = { s.wln with phase := .sending, turnTimer := none, contention := 0 } ∧ Quiet s t)
    ∧ (s.wln.phase ≠ .turnaround → Happens .turnaroundEnd [] s (Quiet s))
    ∧ (s.wln.phase ≠ .sending → Happens .pollSent [] s (Quiet s))
    ∧ (s.wln.phase = .sending →
        let w : Wln := { s.wln with txen := false, phase := .replyWait, replyTimer := some s.prof.profile.hill.replyTimeout }
        (carrier { s with wln := w } = false → Happens .pollSent [.wln] s fun t => t.wln = w ∧ Quiet s t)
        ∧ (carrier { s with wln := w } = true → Happens .pollSent [.wln] s fun t => t.wln = receiving [] w ∧ Quiet s t))
    ∧ (∀ n, s.wln.phase = .replyWait → s.wln.cdLine = some n →
        let f : Fld := { s.fld with outside := setLevel s.fld.outside n true }
        (sensed { s with fld := f } n = true → Happens (.replyBegin none) [.fld, .wln] s fun t =>
          t.fld = f ∧ t.wln = receiving [] s.wln ∧ Quiet s t)
        ∧ (sensed { s with fld := f } n = false → Happens (.replyBegin none) [.fld] s fun t => t.fld = f ∧ Quiet s t))
    ∧ (∀ n, s.wln.phase ≠ .replyWait → carrierLine s = some n →
        let f : Fld := { s.fld with outside := setLevel s.fld.outside n true }
        ((∀ r heard, s.wln.test ≠ .listening r heard) → Happens (.replyBegin none) [.fld] s fun t => t.fld = f ∧ Quiet s t)
        ∧ (∀ r heard, s.wln.test = .listening r heard → Happens (.replyBegin none) [.fld, .wln] s fun t =>
          t.fld = f ∧ Quiet s t
            ∧ t.wln = { s.wln with test := .listening r (heard || sensedFn { s with fld := f } .windCd == some true) }))
    ∧ (carrierLine s = none → (∀ r heard, s.wln.test ≠ .listening r heard) → Happens (.replyBegin none) [] s (Quiet s))
    ∧ (∀ i : Instr, i = .replyBegin (some x) ∨ i = .replyCharacter x ∨ i = .noiseByte x →
        (s.wln.phase = .turnaround ∨ s.wln.phase = .sending → Happens i [] s (Quiet s))
        ∧ (s.wln.phase = .replyWait → s.wln.cdLine = none → s.wln.trailing = none → Happens i [.wln] s fun t =>
            t.wln = receiving [polarized s.wln.inverted x] s.wln ∧ Quiet s t)
        ∧ (s.wln.phase = .receiving → s.wln.trailing = none → s.wln.reply.length < 31 → Happens i [.wln] s fun t =>
            t.wln = { s.wln with reply := s.wln.reply ++ [polarized s.wln.inverted x], gapTimer := some 5 } ∧ Quiet s t)
        ∧ (s.wln.phase = .receiving → s.wln.trailing = none → 31 ≤ s.wln.reply.length →
            let w : Wln := { s.wln with reply := s.wln.reply ++ [polarized s.wln.inverted x], gapTimer := some 5,
                                        trailing := some 5 }
            ∃ t, exec i s = .next t ∧ exec .replyGapExpiry { s with wln := w } = .next t)
        ∧ ((∀ r heard, s.wln.test ≠ .listening r heard) →
            (s.wln.trailing = none → s.wln.phase = .none ∨ s.wln.phase = .carrierWait
                ∨ (s.wln.phase = .replyWait ∧ s.wln.cdLine.isSome = true) →
              Happens i [.wln, .diag] s (TakesNoise s.wln s))
            ∧ (s.wln.trailing.isSome = true → s.wln.phase ≠ .turnaround → s.wln.phase ≠ .sending →
              Happens i [.wln, .diag] s (TakesNoise { s.wln with trailing := some 5 } s))))
    ∧ polarized false x = x ∧ polarized true x = { byte := ~~~x.byte, framing := !x.framing }

/-- The tests of a closed reply (R77), and the ends of an exchange (R74, R78, R83, R84, R86, R90): the outcome is applied to
the polled slot's record, the counters and the polarity count, a change of the station's state and of the polarity sends its
notice, and the next due slot's exchange begins. An exchange whose outcome is discarded (R5, R78, R88) leaves all of these. A
scoring station that a miss takes to OFFLINE while a wind window is open adds STATION_LOST. A line test that waits for the end
of the exchange begins its measurement instead, before the cycle decides (log 31, DEDUCED). The order of the notices and keys
of one command (log 14), and that a frame begins when it is over (log 9), are the model's choices. -/
def Obligations.AnOutcomeIsAppliedToThePolledSlot : Prop :=
  (∀ (address speed direction : Nat) (r : List RxChar) (lead a code check : Byte),
    let marked := (r.head?.map RxChar.framing).getD false
    let bs := lead :: a :: (be16 speed ++ be16 direction ++ [code, check])
    (r.length ≠ 8 → judgeReply address r = .bad marked)
    ∧ (r.length = 8 → (∃ x ∈ r, x.framing = true) → judgeReply address r = .bad marked)
    ∧ (lead ≠ 0xD1 ∨ bs.sum ≠ 0 → judgeReply address (clean bs) = .bad false)
    ∧ (lead = 0xD1 → bs.sum = 0 → a.toNat ≠ address → judgeReply address (clean bs) = .wrongAddress)
    ∧ (lead = 0xD1 → bs.sum = 0 → a.toNat = address → direction < 65536 → 359 < direction ∨ statusOf code = none →
        judgeReply address (clean bs) = .bad false))
  ∧ (∀ (s : State) (k : Nat) (x : StationSlot), s.wln.polled = k → k < s.wln.stations.length → slot? s k = some x →
    s.wln.discard = false → NotLast k s →
    (∀ speed direction status code, s.wln.phase = .receiving → s.wln.polledAddress = x.address → x.address < 256 →
      speed < 65536 → direction ≤ 359 → statusOf code = some status →
      (let bs := 0xD1#8 :: byte x.address :: (be16 speed ++ be16 direction ++ [code])
       s.wln.reply = clean (bs ++ [sumCheck bs])) →
      Happens .replyGapExpiry [.wln, .diag] s fun t =>
        (station t k).state = .online ∧ (station t k).misses = 0 ∧ (station t k).good = true
        ∧ (station t k).reading = some
            { speed := min 6000 speed, direction, status, t := tangential (min 6000 speed) direction x.bearing,
              time := s.link.clock, age := 0 }
        ∧ (station t k).replies = min 65535 ((station s k).replies + 1)
        ∧ (station t k).clamped = decide (6000 < speed) ∧ (∀ n, n ≠ k → station t n = station s n)
        ∧ t.wln.inverted = s.wln.inverted
        ∧ t.wln.polarityCount = (if s.prof.profile.hill.autoSwap = 1 then 0 else s.wln.polarityCount)
        ∧ t.diag = counted .windGood s ∧ GoesOn s t
        ∧ OnlySends (overflows .windGood s ++ stationNotices k x.address s t) s t)
    ∧ (∀ n collects, s.wln.window = some (n, collects) → LosesStation k s →
        (s.wln.phase = .replyWait → Happens .replyTimeout [.cst, .wln, .diag] s fun t =>
          Failed k s t ∧ t.cst = faulted n .stationLost s.cst ∧ t.wln.window = s.wln.window ∧ t.diag = counted .windMiss s
          ∧ GoesOn s t ∧ OnlySends (overflows .windMiss s ++ stationNotices k x.address s t) s t)
        ∧ (s.wln.phase = .receiving → (∀ speed direction status,
            judgeReply s.wln.polledAddress s.wln.reply ≠ .good speed direction status) →
          Happens .replyGapExpiry [.cst, .wln, .diag] s fun t =>
            Failed k s t ∧ t.cst = faulted n .stationLost s.cst ∧ t.wln.window = s.wln.window ∧ t.diag = counted .windBad s
            ∧ GoesOn s t ∧ OnlySends (overflows .windBad s ++ stationNotices k x.address s t
                ++ polarityNotices (judgeReply s.wln.polledAddress s.wln.reply) s) s t))
    ∧ (s.wln.phase = .replyWait → ¬LosesStation k s → Happens .replyTimeout [.wln, .diag] s fun t =>
        Failed k s t ∧ (station t k).missCount = min 65535 ((station s k).missCount + 1)
        ∧ (station t k).badCount = (station s k).badCount ∧ t.wln.polarityCount = s.wln.polarityCount
        ∧ t.wln.inverted = s.wln.inverted ∧ t.diag = counted .windMiss s ∧ GoesOn s t
        ∧ OnlySends (overflows .windMiss s ++ stationNotices k x.address s t) s t)
    ∧ (∀ answer, s.wln.phase = .receiving → ¬LosesStation k s → judgeReply s.wln.polledAddress s.wln.reply = answer →
      answer = .bad true ∨ answer = .bad false ∨ answer = .wrongAddress → Happens .replyGapExpiry [.wln, .diag] s fun t =>
        Failed k s t ∧ (station t k).badCount = min 65535 ((station s k).badCount + 1)
        ∧ (station t k).missCount = (station s k).missCount ∧ t.diag = counted .windBad s ∧ GoesOn s t
        ∧ (s.prof.profile.hill.autoSwap ≠ 1 →
            t.wln.polarityCount = s.wln.polarityCount ∧ t.wln.inverted = s.wln.inverted)
        ∧ (s.prof.profile.hill.autoSwap = 1 → answer ≠ .bad true →
            t.wln.polarityCount = 0 ∧ t.wln.inverted = s.wln.inverted)
        ∧ (s.prof.profile.hill.autoSwap = 1 → answer = .bad true → s.wln.polarityCount < 2 →
            t.wln.polarityCount = s.wln.polarityCount + 1 ∧ t.wln.inverted = s.wln.inverted)
        ∧ (s.prof.profile.hill.autoSwap = 1 → answer = .bad true → 2 ≤ s.wln.polarityCount →
            t.wln.polarityCount = 0 ∧ t.wln.inverted = !s.wln.inverted)
        ∧ OnlySends (overflows .windBad s ++ stationNotices k x.address s t ++ polarityNotices answer s) s t)
    ∧ (s.wln.phase = .carrierWait → s.wln.contention < 2 → Happens .contentionMiss [.wln] s fun t =>
        t.wln.contention = s.wln.contention + 1 ∧ t.wln.stations = s.wln.stations ∧ GoesOn s t ∧ Quiet s t)
    ∧ (s.wln.phase = .carrierWait → 2 ≤ s.wln.contention → Happens .contentionMiss [.wln, .diag] s fun t =>
        t.wln.contention = 0 ∧ t.wln.stations = s.wln.stations ∧ GoesOn s t
          ∧ t.diag = reported .lineJam s.wln.polledAddress s ∧ Quiet s t))
  ∧ (∀ (s : State) (i : Instr), EndsExchange i s → s.wln.discard = true → NotLast s.wln.polled s → Happens i [.wln] s fun t =>
    t.wln.stations = s.wln.stations ∧ t.wln.polarityCount = s.wln.polarityCount ∧ t.wln.inverted = s.wln.inverted
      ∧ t.wln.contention = s.wln.contention ∧ GoesOn s t ∧ Quiet s t)

/-- The cycle's moments between exchanges, the cycle end, and the gating mean on the board (R48, R79, R80, R81, R96 to R98,
R100). A cycle begins with its first due slot; the station of an OFFLINE slot is due only in a cycle whose number modulo 8 is
0 (R79), and that a slot which became present in a cycle waits for the next is read from R5 (newcomer, log 32). That becoming
stale is taken once for a record (staleTaken) is the model's choice (log 33), and so is that the time of the last WIND enqueue
is held as what is left of its 1,000 ms (windHold, log 26), and that the record has the age 0 also where a cycle end forms no
mean (log 43). The order of the notices and keys of one command (log 14), and that a frame begins when it is over (log 9), are
the model's choices. -/
def Obligations.CyclesAndTheGatingMean : Prop :=
  ∀ (s : State) (k : Nat),
    (∀ n, s.wln.cycleTimer = some k → s.wln.poll = .between → DueIn ((s.wln.cycle + 1) % 65536) n s →
      Happens .cyclePeriodExpiry [.wln] s fun t => CycleBegins s t ∧ Quiet s t)
    ∧ ((∀ n, canBePolled s n = true ↔ (slot? s n).isSome = true ∧ (station s n).state ≠ .disabled)
      ∧ (anyPollable s = true ↔ ∃ n < 8, canBePolled s n = true)
      ∧ (∀ n, due s n = true ↔ canBePolled s n = true ∧ (station s n).newcomer = false
          ∧ ((station s n).state = .offline → s.wln.cycle % 8 = 0))
      ∧ ∀ n, nextDue s = some n ↔ n < 8 ∧ s.wln.nextSlot ≤ n ∧ due s n = true
          ∧ ∀ m, s.wln.nextSlot ≤ m → due s m = true → n ≤ m)
    ∧ (s.wln.cycleTimer = some k → s.wln.poll = .between → anyPollable s = false →
      Happens .cyclePeriodExpiry [.wln] s fun t =>
        t.wln = { s.wln with poll := .stopped, cycleTimer := none } ∧ Quiet s t)
    ∧ (s.wln.cycleTimer = some k → s.wln.poll = .inCycle → Happens .cyclePeriodExpiry [.wln] s fun t =>
        t.wln = { s.wln with cycleTimer := none } ∧ Quiet s t)
    ∧ (∀ v, s.wln.gating.value = some v → s.wln.gating.staleTaken = false →
        s.prof.profile.hill.freshness < s.wln.gating.age →
      (s.wln.windHold = none → Happens .gatingMeanStale [.wln, .diag] s fun t =>
        t.wln.windHold = some 1000 ∧ t.wln.gating.value = some v ∧ t.wln.gating.staleTaken = true
          ∧ LinkKept s t ∧ Boards [key .wind] s t ∧ (Room 1 s → t.diag = s.diag ∧ Sends [] s t))
      ∧ (s.wln.windHold.isSome = true → Happens .gatingMeanStale [.wln] s fun t =>
        t.wln.windDeferred = true ∧ t.wln.windHold = s.wln.windHold ∧ t.wln.gating.value = some v ∧ Quiet s t))
    ∧ (s.wln.windHold = some k → s.wln.windDeferred = true → Happens .windDeferExpiry [.wln, .diag] s fun t =>
        t.wln = { s.wln with windHold := some 1000, windDeferred := false } ∧ LinkKept s t ∧ Boards [key .wind] s t
          ∧ (Room 1 s → t.diag = s.diag ∧ Sends [] s t))
    ∧ (s.wln.windHold = some k → s.wln.windDeferred = false → Happens .windDeferExpiry [.wln] s fun t =>
        t.wln = { s.wln with windHold := none } ∧ Quiet s t)
    ∧ (∀ v, s.wln.gating.value = some v → s.wln.gating.staleTaken = true → Happens .gatingMeanStale [.wln] s fun t =>
        t.wln = { s.wln with gating := { s.wln.gating with staleQueued := t.wln.gating.staleQueued } } ∧ Quiet s t)
    ∧ CycleEndDoes s (cycleEndWork s)
    ∧ (s.wln.cycleTimer = some k → s.wln.poll = .between → OnlyOffline s →
      Happens .cyclePeriodExpiry [.wln, .stc, .diag] s (EmptyCycle s))
    ∧ (∀ n, s.wln.phase = .replyWait → s.wln.polled = n → s.wln.discard = false → s.wln.test = .idle → s.wln.nextSlot = n + 1 →
        nextDue s = none → canBePolled s n = true → n < 8 → s.wln.stations.length = 8 → (station s n).good = false →
        s.wln.cycleTimer = some k →
      Happens .replyTimeout [.cst, .stc, .gate, .wln, .diag] s fun t =>
        t.wln.poll = .between ∧ t.wln.phase = .none ∧ t.wln.cycle = s.wln.cycle ∧ t.wln.cycleTimer = s.wln.cycleTimer
          ∧ (station t n).misses = min 255 ((station s n).misses + 1)
          ∧ t.wln.gating.value = truncatedMean ((gatingReadings s).map Reading.t)
          ∧ t.wln.gating.time = some s.link.clock ∧ t.wln.gating.age = 0
          ∧ t.wln.scoringMean = truncatedMean ((scoringReadings s).map Reading.t)
          ∧ t.wln.nGating = (gatingReadings s).length ∧ t.wln.nScoring = (scoringReadings s).length)

/-! ## Scoreboard link (09) -/

/-- BOARD MESSAGE and BOARD REFRESH (R148, R149), and the frame that an enqueue begins where the line is idle, no gap runs and
the board is ready (R144, R145). An enqueue while a board with a BOARD_READY line is not ready, and no item was waiting,
starts the stall timer (R147); one that finds it running leaves it. That a frame begins when the command is over is the
model's choice (log 9). -/
def Obligations.MessagesAndRefreshesAreEnqueued : Prop :=
  ∀ (s : State) (tag : Byte) (line : Nat) (text : Text), Free s →
    (1 ≤ line → line ≤ 16 → (∀ b ∈ text, 0x20 ≤ b.toNat ∧ b.toNat ≤ 0x7E) →
      Completes (.boardMessage tag line text) .done .none [.diag] s fun t =>
        t.brd.messages = s.brd.messages.set (line - 1) (text.take 32) ∧ t.brd.subjects = s.brd.subjects
        ∧ (t.brd.sender.map BoardFrame.key = some { field := .message, line } ∨
            { field := .message, line } ∈ t.brd.queue.map BoardItem.key)
        ∧ t.brd.pacing = s.brd.pacing ∧ t.brd.ready = s.brd.ready ∧ t.brd.stalled = s.brd.stalled
        ∧ Frames [{ field := .message, line }] s t ∧ StallFollows s t
        ∧ (s.brd.ready = false → (lineOf s .boardReady).isSome = true → s.brd.stalled = false →
            (s.brd.queue = [] → s.brd.stallTimer = none → t.brd.stallTimer = some 10000)
            ∧ ∀ n, s.brd.stallTimer = some n → t.brd.stallTimer = some n)
        ∧ (MessagesOk s → s.brd.queue = [] → s.brd.sender = none → s.brd.pacing = none → s.brd.ready = true →
            t.brd.queue = [] ∧ t.brd.sender = some { key := { field := .message, line }, text := text.take 32 })
        ∧ LinkKept s t ∧ (Room 1 s → t.diag = s.diag ∧ Sends [] s t))
    ∧ (line = 0 ∨ 16 < line ∨ (∃ b ∈ text, b.toNat < 0x20 ∨ 0x7E < b.toNat) → Refuses (.boardMessage tag line text) .range s)
    ∧ (Completes (.boardRefresh tag) .done .none [.diag] s fun t =>
        t.brd.subjects = s.brd.subjects ∧ LinkKept s t
          ∧ Boards (refreshKeys s.brd.messages) s t
          ∧ (Room (refreshKeys s.brd.messages).length s → t.diag = s.diag ∧ Sends [] s t))
    ∧ (MessagesOk s → refreshKeys s.brd.messages =
        [key .light, key .countdown, key .jumper, key .gate, key .wind, key .speed, key .distance, key .marks, key .points,
          key .rank]
        ++ ((List.range 16).filter fun n => s.brd.messages[n]? ≠ some []).map (fun n => { field := .message, line := n + 1 })
        ++ [10, 9, 8, 7, 6, 5, 4, 3, 2, 1].map fun n => { field := .top, line := n })

/-- The board line (R145, R146, R147), and the texts of its items (R143). That a frame begins when the command is over is the
model's choice (log 9). -/
def Obligations.TheBoardLineIsPacedAndWatched : Prop :=
  ∀ (s : State) (k : Nat),
    (∀ f, s.brd.sender = some f → Happens .boardFrameEnd [.diag] s fun t =>
      t.brd.sender = none ∧ t.brd.pacing = some s.prof.profile.hill.pacing ∧ t.brd.queue = s.brd.queue
        ∧ t.brd.ready = s.brd.ready ∧ t.brd.stalled = s.brd.stalled ∧ t.brd.messages = s.brd.messages
        ∧ t.brd.subjects = s.brd.subjects ∧ StallFollows s t ∧ t.diag = counted .boardFrame s ∧ LinkKept s t
        ∧ Sends (overflows .boardFrame s) s t)
    ∧ (Happens .pacingExpiry [] s fun t =>
        t.brd.pacing = none ∧ t.brd.ready = s.brd.ready ∧ t.brd.stalled = s.brd.stalled ∧ t.brd.messages = s.brd.messages
          ∧ t.brd.subjects = s.brd.subjects ∧ Frames [] s t ∧ StallFollows s t ∧ LinkKept s t ∧ Sends [] s t)
    ∧ (∀ f, s.brd.sender = some f → Happens .pacingExpiry [] s fun t =>
        t.brd.pacing = none ∧ t.brd.sender = some f ∧ t.brd.queue = s.brd.queue ∧ LinkKept s t ∧ Sends [] s t)
    ∧ (∀ i rest, s.brd.sender = none → s.brd.ready = true → sendOrder s.brd.queue = i :: rest →
      Happens .pacingExpiry [] s fun t =>
        t.brd.pacing = none ∧ t.brd.queue = s.brd.queue.erase i
          ∧ t.brd.sender = some { key := i.key, text := itemText s i } ∧ LinkKept s t ∧ Sends [] s t)
    ∧ (∀ n, lineOf s .boardReady = some n → Happens (.boardReadyChange true) [.fld] s fun t =>
        t.brd.ready = true ∧ t.brd.stalled = false ∧ t.brd.stallTimer = none ∧ t.brd.pacing = s.brd.pacing
          ∧ t.brd.messages = s.brd.messages ∧ t.brd.subjects = s.brd.subjects ∧ Frames [] s t ∧ LinkKept s t
          ∧ Sends (if s.brd.stalled then [.boardResumed s.brd.queue.length] else []) s t)
    ∧ (∀ n, lineOf s .boardReady = some n → Happens (.boardReadyChange false) [.fld] s fun t =>
        t.brd.ready = false ∧ t.brd.stalled = s.brd.stalled ∧ t.brd.queue = s.brd.queue ∧ t.brd.sender = s.brd.sender
          ∧ (s.brd.queue ≠ [] → s.brd.stallTimer = none → s.brd.stalled = false → t.brd.stallTimer = some 10000)
          ∧ (s.brd.queue = [] → t.brd.stallTimer = none) ∧ StallFollows s t
          ∧ t.brd.pacing = s.brd.pacing ∧ t.brd.messages = s.brd.messages ∧ t.brd.subjects = s.brd.subjects
          ∧ LinkKept s t ∧ Sends [] s t)
    ∧ (s.brd.stallTimer = some k → s.brd.ready = false → Happens .stallTimerExpiry [.diag] s fun t =>
        t.brd.stalled = true ∧ t.brd.stallTimer = none ∧ t.brd.queue = s.brd.queue
          ∧ t.diag = reported .boardStall s.brd.queue.length s ∧ LinkKept s t
          ∧ Sends [.boardStall s.brd.queue.length] s t)
    ∧ (∀ key, itemText s { key, blank := true } = [] ∧ itemText s { key, blank := false } = (keyText s key).take 32)
    ∧ ItemTexts s
    ∧ (∀ q : List BoardItem,
        let urgent := fun i : BoardItem => i.key.field == .light || i.key.field == .countdown
        let background := fun i : BoardItem => i.key.field == .top
        sendOrder q = q.filter urgent ++ q.filter (fun i => !urgent i && !background i) ++ q.filter background)

/-! ## Clock, notices, counters and restart (10) -/

/-- SET CLOCK, SET NOTICES, SELECT COUNTER and a kind not in the request table (R155, R158, R159, R162); SET LINK waits for
the last byte of its reply (R153), and a partial frame is then discarded, also where only the break setting changes (log 39,
DEDUCED). -/
def Obligations.LinkSettingsAreTaken : Prop :=
  (∀ (s : State) (tag kind : Byte) (time : Nat) (mask : BitVec 16), Free s →
     (time ≤ 86399999 → Completes (.setClock tag time) .done .none [] s fun t =>
       t.link.clock = time ∧ t.link.clockSet = true ∧ t.link.mask = s.link.mask ∧ Boards [] s t ∧ Sends [] s t)
     ∧ (86399999 < time → Refuses (.setClock tag time) .range s)
     ∧ (Completes (.setNotices tag mask) .done .none [] s fun t =>
         t.link.mask = mask ∧ t.link.clock = s.link.clock ∧ Boards [] s t ∧ outgoing t.link = outgoing (startTx s).link)
     ∧ (∀ n k q, 1 < n ∨ 15 < k ∨ 1 < q → Refuses (.selectCounter tag n k q) .range s)
     ∧ (∀ n k q c, counterKinds[k]? = some c → q ≤ 1 →
       (n = 0 → Completes (.selectCounter tag n k q) .done .none [.diag] s fun t =>
         t.diag = { s.diag with counter0 := { kind := c, openOnly := q == 1, value := 0 } } ∧ Quiet s t)
       ∧ (n = 1 → Completes (.selectCounter tag n k q) .done .none [.diag] s fun t =>
         t.diag = { s.diag with counter1 := { kind := c, openOnly := q == 1, value := 0 } } ∧ Quiet s t)
       ∧ (1 < n → Refuses (.selectCounter tag n k q) .range s))
     ∧ (Refuses (.unknownKind tag kind) .unknown s))
  ∧ (∀ (s : State) (tag : Byte) (rate setting : Nat), Free s →
     (rate ≤ 3 → setting ≤ 1 → Completes (.setLink tag rate setting) .done .none [] s fun t => Quiet s t
       ∧ t.link.inHand = some { kind := 0x7A, tag, change := some (rate, setting == 1) })
     ∧ (3 < rate ∨ 1 < setting → Refuses (.setLink tag rate setting) .range s))
  ∧ (∀ (s : State) (r : Reply) (status : Byte) (h : InHand) (rate : Nat) (brk : Bool), s.link.tx = .reply r status →
     s.link.inHand = some h → h.change = some (rate, brk) → s.link.buffer = [] →
     Happens .replySent [.diag] s fun t =>
       t.link.rate = rate ∧ t.link.brk = brk ∧ t.link.inHand = none ∧ Boards [] s t
         ∧ (s.link.asm = [] ∨ (rate = s.link.rate ∧ brk = s.link.brk) → t.link.asm = s.link.asm ∧ t.diag = s.diag)
         ∧ (s.link.asm ≠ [] → rate ≠ s.link.rate ∨ brk ≠ s.link.brk → t.link.asm = [] ∧ t.diag = counted .linkBad s))

/-- RESTART (R164): what each block holds afterwards, the blank items of the board (R151), the LIGHT notice where the light
becomes DARK (R59), and the notices that wait, which stay in the queue. That the notice carries no attempt number is read from
the order of the rules, by which the attempts are gone by then (log 36, DEDUCED); that the stall timer starts where the refill
finds the board not ready is the model's choice (log 45). There are sixteen message lines in every state that a run reaches
(QueuesKeepTheirCapacities). That on an idle, ready line the first frame is LIGHT and shows DARK rests on two choices of the
model: a frame begins when the command is over (log 9), and the light goes DARK after the board queue is refilled (log 14). -/
def Obligations.RestartKeepsTheProfileAndTheLines : Prop :=
  ∀ (s : State) (tag : Byte), Free s → MessagesOk s →
    Completes (.restart tag) .done .none [.cst, .stc, .gate, .meas, .scr, .wln, .diag] s fun t =>
      t.cst = cstReset ∧ t.stc = stcReset ∧ t.scr.ranking = [] ∧ t.wln = { s.wln with window := none }
      ∧ t.meas = { s.meas with trap := .off, trapAttempt := none, interval := 0, trapTimer := none, markLimit := none,
                               waits := [] }
      ∧ (s.gate.state.motion = true → t.gate.state = .unknown ∧ t.gate.current = none)
      ∧ (s.gate.state.motion = false → t.gate.state = s.gate.state ∧ t.gate.current = s.gate.current)
      ∧ t.gate.jury = s.gate.jury ∧ t.gate.reference = none ∧ t.gate.target = none ∧ t.gate.stepTimer = none
      ∧ t.gate.settleTimer = none ∧ t.gate.homeTimer = none ∧ t.gate.returnWaiting = false
      ∧ t.brd.messages = List.replicate 16 [] ∧ t.brd.subjects = noSubjects ∧ t.brd.pacing = s.brd.pacing
      ∧ t.brd.ready = s.brd.ready ∧ t.brd.stalled = s.brd.stalled ∧ StallFollows s t
      ∧ (∃ more, outgoing t.link = outgoing s.link ++ more)
      ∧ ((refreshKeys s.brd.messages).length ≤ 32 →
          t.diag = s.diag ∧ Sends (if s.stc.light = .dark then [] else [.light s.stc.light .dark none]) s t)
      ∧ (s.brd.sender ≠ none ∨ s.brd.pacing ≠ none ∨ s.brd.ready = false →
          t.brd.queue = restartQueue s ∧ t.brd.sender = s.brd.sender)
      ∧ (s.brd.sender = none → s.brd.pacing = none → s.brd.ready = true →
          t.brd.queue = (restartQueue s).tail
            ∧ t.brd.sender = some { key := key .light,
                                    text := if s.stc.light = .dark then [] else ascii ['D', 'A', 'R', 'K'] })
      ∧ (s.brd.messages = List.replicate 16 [] → s.stc.light = .dark →
          restartQueue s = (singleKeys ++ topKeys).map fun k => { key := k, blank := true })
      ∧ t.link.attemptCursor = cursorReset ∧ t.link.rankCursor = cursorReset ∧ t.link.clock = s.link.clock
      ∧ t.link.mask = s.link.mask ∧ t.link.rate = s.link.rate ∧ t.link.buffer = s.link.buffer
end

