-- ==== Sys2Proof/Laws/State.lean ====
section
/-! SUPPORT. What each update of a block does to each field of State: one lemma per field and update. -/

set_option Elab.async false

namespace Sys2Proof.Machine

variable (s : State)

@[simp] theorem State.onProf_prof (f : Prof → Prof) : (s.onProf f).prof = f s.prof := rfl
@[simp] theorem State.onProf_fld (f : Prof → Prof) : (s.onProf f).fld = s.fld := rfl
@[simp] theorem State.onProf_cst (f : Prof → Prof) : (s.onProf f).cst = s.cst := rfl
@[simp] theorem State.onProf_stc (f : Prof → Prof) : (s.onProf f).stc = s.stc := rfl
@[simp] theorem State.onProf_gate (f : Prof → Prof) : (s.onProf f).gate = s.gate := rfl
@[simp] theorem State.onProf_wln (f : Prof → Prof) : (s.onProf f).wln = s.wln := rfl
@[simp] theorem State.onProf_meas (f : Prof → Prof) : (s.onProf f).meas = s.meas := rfl
@[simp] theorem State.onProf_scr (f : Prof → Prof) : (s.onProf f).scr = s.scr := rfl
@[simp] theorem State.onProf_brd (f : Prof → Prof) : (s.onProf f).brd = s.brd := rfl
@[simp] theorem State.onProf_link (f : Prof → Prof) : (s.onProf f).link = s.link := rfl
@[simp] theorem State.onProf_diag (f : Prof → Prof) : (s.onProf f).diag = s.diag := rfl
@[simp] theorem State.onProf_freeCtr (f : Prof → Prof) : (s.onProf f).freeCtr = s.freeCtr := rfl
@[simp] theorem State.onProf_pending (f : Prof → Prof) : (s.onProf f).pending = s.pending := rfl

@[simp] theorem State.onFld_prof (f : Fld → Fld) : (s.onFld f).prof = s.prof := rfl
@[simp] theorem State.onFld_fld (f : Fld → Fld) : (s.onFld f).fld = f s.fld := rfl
@[simp] theorem State.onFld_cst (f : Fld → Fld) : (s.onFld f).cst = s.cst := rfl
@[simp] theorem State.onFld_stc (f : Fld → Fld) : (s.onFld f).stc = s.stc := rfl
@[simp] theorem State.onFld_gate (f : Fld → Fld) : (s.onFld f).gate = s.gate := rfl
@[simp] theorem State.onFld_wln (f : Fld → Fld) : (s.onFld f).wln = s.wln := rfl
@[simp] theorem State.onFld_meas (f : Fld → Fld) : (s.onFld f).meas = s.meas := rfl
@[simp] theorem State.onFld_scr (f : Fld → Fld) : (s.onFld f).scr = s.scr := rfl
@[simp] theorem State.onFld_brd (f : Fld → Fld) : (s.onFld f).brd = s.brd := rfl
@[simp] theorem State.onFld_link (f : Fld → Fld) : (s.onFld f).link = s.link := rfl
@[simp] theorem State.onFld_diag (f : Fld → Fld) : (s.onFld f).diag = s.diag := rfl
@[simp] theorem State.onFld_freeCtr (f : Fld → Fld) : (s.onFld f).freeCtr = s.freeCtr := rfl
@[simp] theorem State.onFld_pending (f : Fld → Fld) : (s.onFld f).pending = s.pending := rfl

@[simp] theorem State.onCst_prof (f : Cst → Cst) : (s.onCst f).prof = s.prof := rfl
@[simp] theorem State.onCst_fld (f : Cst → Cst) : (s.onCst f).fld = s.fld := rfl
@[simp] theorem State.onCst_cst (f : Cst → Cst) : (s.onCst f).cst = f s.cst := rfl
@[simp] theorem State.onCst_stc (f : Cst → Cst) : (s.onCst f).stc = s.stc := rfl
@[simp] theorem State.onCst_gate (f : Cst → Cst) : (s.onCst f).gate = s.gate := rfl
@[simp] theorem State.onCst_wln (f : Cst → Cst) : (s.onCst f).wln = s.wln := rfl
@[simp] theorem State.onCst_meas (f : Cst → Cst) : (s.onCst f).meas = s.meas := rfl
@[simp] theorem State.onCst_scr (f : Cst → Cst) : (s.onCst f).scr = s.scr := rfl
@[simp] theorem State.onCst_brd (f : Cst → Cst) : (s.onCst f).brd = s.brd := rfl
@[simp] theorem State.onCst_link (f : Cst → Cst) : (s.onCst f).link = s.link := rfl
@[simp] theorem State.onCst_diag (f : Cst → Cst) : (s.onCst f).diag = s.diag := rfl
@[simp] theorem State.onCst_freeCtr (f : Cst → Cst) : (s.onCst f).freeCtr = s.freeCtr := rfl
@[simp] theorem State.onCst_pending (f : Cst → Cst) : (s.onCst f).pending = s.pending := rfl

@[simp] theorem State.onStc_prof (f : Stc → Stc) : (s.onStc f).prof = s.prof := rfl
@[simp] theorem State.onStc_fld (f : Stc → Stc) : (s.onStc f).fld = s.fld := rfl
@[simp] theorem State.onStc_cst (f : Stc → Stc) : (s.onStc f).cst = s.cst := rfl
@[simp] theorem State.onStc_stc (f : Stc → Stc) : (s.onStc f).stc = f s.stc := rfl
@[simp] theorem State.onStc_gate (f : Stc → Stc) : (s.onStc f).gate = s.gate := rfl
@[simp] theorem State.onStc_wln (f : Stc → Stc) : (s.onStc f).wln = s.wln := rfl
@[simp] theorem State.onStc_meas (f : Stc → Stc) : (s.onStc f).meas = s.meas := rfl
@[simp] theorem State.onStc_scr (f : Stc → Stc) : (s.onStc f).scr = s.scr := rfl
@[simp] theorem State.onStc_brd (f : Stc → Stc) : (s.onStc f).brd = s.brd := rfl
@[simp] theorem State.onStc_link (f : Stc → Stc) : (s.onStc f).link = s.link := rfl
@[simp] theorem State.onStc_diag (f : Stc → Stc) : (s.onStc f).diag = s.diag := rfl
@[simp] theorem State.onStc_freeCtr (f : Stc → Stc) : (s.onStc f).freeCtr = s.freeCtr := rfl
@[simp] theorem State.onStc_pending (f : Stc → Stc) : (s.onStc f).pending = s.pending := rfl

@[simp] theorem State.onGate_prof (f : Gate → Gate) : (s.onGate f).prof = s.prof := rfl
@[simp] theorem State.onGate_fld (f : Gate → Gate) : (s.onGate f).fld = s.fld := rfl
@[simp] theorem State.onGate_cst (f : Gate → Gate) : (s.onGate f).cst = s.cst := rfl
@[simp] theorem State.onGate_stc (f : Gate → Gate) : (s.onGate f).stc = s.stc := rfl
@[simp] theorem State.onGate_gate (f : Gate → Gate) : (s.onGate f).gate = f s.gate := rfl
@[simp] theorem State.onGate_wln (f : Gate → Gate) : (s.onGate f).wln = s.wln := rfl
@[simp] theorem State.onGate_meas (f : Gate → Gate) : (s.onGate f).meas = s.meas := rfl
@[simp] theorem State.onGate_scr (f : Gate → Gate) : (s.onGate f).scr = s.scr := rfl
@[simp] theorem State.onGate_brd (f : Gate → Gate) : (s.onGate f).brd = s.brd := rfl
@[simp] theorem State.onGate_link (f : Gate → Gate) : (s.onGate f).link = s.link := rfl
@[simp] theorem State.onGate_diag (f : Gate → Gate) : (s.onGate f).diag = s.diag := rfl
@[simp] theorem State.onGate_freeCtr (f : Gate → Gate) : (s.onGate f).freeCtr = s.freeCtr := rfl
@[simp] theorem State.onGate_pending (f : Gate → Gate) : (s.onGate f).pending = s.pending := rfl

@[simp] theorem State.onWln_prof (f : Wln → Wln) : (s.onWln f).prof = s.prof := rfl
@[simp] theorem State.onWln_fld (f : Wln → Wln) : (s.onWln f).fld = s.fld := rfl
@[simp] theorem State.onWln_cst (f : Wln → Wln) : (s.onWln f).cst = s.cst := rfl
@[simp] theorem State.onWln_stc (f : Wln → Wln) : (s.onWln f).stc = s.stc := rfl
@[simp] theorem State.onWln_gate (f : Wln → Wln) : (s.onWln f).gate = s.gate := rfl
@[simp] theorem State.onWln_wln (f : Wln → Wln) : (s.onWln f).wln = f s.wln := rfl
@[simp] theorem State.onWln_meas (f : Wln → Wln) : (s.onWln f).meas = s.meas := rfl
@[simp] theorem State.onWln_scr (f : Wln → Wln) : (s.onWln f).scr = s.scr := rfl
@[simp] theorem State.onWln_brd (f : Wln → Wln) : (s.onWln f).brd = s.brd := rfl
@[simp] theorem State.onWln_link (f : Wln → Wln) : (s.onWln f).link = s.link := rfl
@[simp] theorem State.onWln_diag (f : Wln → Wln) : (s.onWln f).diag = s.diag := rfl
@[simp] theorem State.onWln_freeCtr (f : Wln → Wln) : (s.onWln f).freeCtr = s.freeCtr := rfl
@[simp] theorem State.onWln_pending (f : Wln → Wln) : (s.onWln f).pending = s.pending := rfl

@[simp] theorem State.onMeas_prof (f : Meas → Meas) : (s.onMeas f).prof = s.prof := rfl
@[simp] theorem State.onMeas_fld (f : Meas → Meas) : (s.onMeas f).fld = s.fld := rfl
@[simp] theorem State.onMeas_cst (f : Meas → Meas) : (s.onMeas f).cst = s.cst := rfl
@[simp] theorem State.onMeas_stc (f : Meas → Meas) : (s.onMeas f).stc = s.stc := rfl
@[simp] theorem State.onMeas_gate (f : Meas → Meas) : (s.onMeas f).gate = s.gate := rfl
@[simp] theorem State.onMeas_wln (f : Meas → Meas) : (s.onMeas f).wln = s.wln := rfl
@[simp] theorem State.onMeas_meas (f : Meas → Meas) : (s.onMeas f).meas = f s.meas := rfl
@[simp] theorem State.onMeas_scr (f : Meas → Meas) : (s.onMeas f).scr = s.scr := rfl
@[simp] theorem State.onMeas_brd (f : Meas → Meas) : (s.onMeas f).brd = s.brd := rfl
@[simp] theorem State.onMeas_link (f : Meas → Meas) : (s.onMeas f).link = s.link := rfl
@[simp] theorem State.onMeas_diag (f : Meas → Meas) : (s.onMeas f).diag = s.diag := rfl
@[simp] theorem State.onMeas_freeCtr (f : Meas → Meas) : (s.onMeas f).freeCtr = s.freeCtr := rfl
@[simp] theorem State.onMeas_pending (f : Meas → Meas) : (s.onMeas f).pending = s.pending := rfl

@[simp] theorem State.onScr_prof (f : Scr → Scr) : (s.onScr f).prof = s.prof := rfl
@[simp] theorem State.onScr_fld (f : Scr → Scr) : (s.onScr f).fld = s.fld := rfl
@[simp] theorem State.onScr_cst (f : Scr → Scr) : (s.onScr f).cst = s.cst := rfl
@[simp] theorem State.onScr_stc (f : Scr → Scr) : (s.onScr f).stc = s.stc := rfl
@[simp] theorem State.onScr_gate (f : Scr → Scr) : (s.onScr f).gate = s.gate := rfl
@[simp] theorem State.onScr_wln (f : Scr → Scr) : (s.onScr f).wln = s.wln := rfl
@[simp] theorem State.onScr_meas (f : Scr → Scr) : (s.onScr f).meas = s.meas := rfl
@[simp] theorem State.onScr_scr (f : Scr → Scr) : (s.onScr f).scr = f s.scr := rfl
@[simp] theorem State.onScr_brd (f : Scr → Scr) : (s.onScr f).brd = s.brd := rfl
@[simp] theorem State.onScr_link (f : Scr → Scr) : (s.onScr f).link = s.link := rfl
@[simp] theorem State.onScr_diag (f : Scr → Scr) : (s.onScr f).diag = s.diag := rfl
@[simp] theorem State.onScr_freeCtr (f : Scr → Scr) : (s.onScr f).freeCtr = s.freeCtr := rfl
@[simp] theorem State.onScr_pending (f : Scr → Scr) : (s.onScr f).pending = s.pending := rfl

@[simp] theorem State.onBrd_prof (f : Brd → Brd) : (s.onBrd f).prof = s.prof := rfl
@[simp] theorem State.onBrd_fld (f : Brd → Brd) : (s.onBrd f).fld = s.fld := rfl
@[simp] theorem State.onBrd_cst (f : Brd → Brd) : (s.onBrd f).cst = s.cst := rfl
@[simp] theorem State.onBrd_stc (f : Brd → Brd) : (s.onBrd f).stc = s.stc := rfl
@[simp] theorem State.onBrd_gate (f : Brd → Brd) : (s.onBrd f).gate = s.gate := rfl
@[simp] theorem State.onBrd_wln (f : Brd → Brd) : (s.onBrd f).wln = s.wln := rfl
@[simp] theorem State.onBrd_meas (f : Brd → Brd) : (s.onBrd f).meas = s.meas := rfl
@[simp] theorem State.onBrd_scr (f : Brd → Brd) : (s.onBrd f).scr = s.scr := rfl
@[simp] theorem State.onBrd_brd (f : Brd → Brd) : (s.onBrd f).brd = f s.brd := rfl
@[simp] theorem State.onBrd_link (f : Brd → Brd) : (s.onBrd f).link = s.link := rfl
@[simp] theorem State.onBrd_diag (f : Brd → Brd) : (s.onBrd f).diag = s.diag := rfl
@[simp] theorem State.onBrd_freeCtr (f : Brd → Brd) : (s.onBrd f).freeCtr = s.freeCtr := rfl
@[simp] theorem State.onBrd_pending (f : Brd → Brd) : (s.onBrd f).pending = s.pending := rfl

@[simp] theorem State.onLink_prof (f : Link → Link) : (s.onLink f).prof = s.prof := rfl
@[simp] theorem State.onLink_fld (f : Link → Link) : (s.onLink f).fld = s.fld := rfl
@[simp] theorem State.onLink_cst (f : Link → Link) : (s.onLink f).cst = s.cst := rfl
@[simp] theorem State.onLink_stc (f : Link → Link) : (s.onLink f).stc = s.stc := rfl
@[simp] theorem State.onLink_gate (f : Link → Link) : (s.onLink f).gate = s.gate := rfl
@[simp] theorem State.onLink_wln (f : Link → Link) : (s.onLink f).wln = s.wln := rfl
@[simp] theorem State.onLink_meas (f : Link → Link) : (s.onLink f).meas = s.meas := rfl
@[simp] theorem State.onLink_scr (f : Link → Link) : (s.onLink f).scr = s.scr := rfl
@[simp] theorem State.onLink_brd (f : Link → Link) : (s.onLink f).brd = s.brd := rfl
@[simp] theorem State.onLink_link (f : Link → Link) : (s.onLink f).link = f s.link := rfl
@[simp] theorem State.onLink_diag (f : Link → Link) : (s.onLink f).diag = s.diag := rfl
@[simp] theorem State.onLink_freeCtr (f : Link → Link) : (s.onLink f).freeCtr = s.freeCtr := rfl
@[simp] theorem State.onLink_pending (f : Link → Link) : (s.onLink f).pending = s.pending := rfl

@[simp] theorem State.onDiag_prof (f : Diag → Diag) : (s.onDiag f).prof = s.prof := rfl
@[simp] theorem State.onDiag_fld (f : Diag → Diag) : (s.onDiag f).fld = s.fld := rfl
@[simp] theorem State.onDiag_cst (f : Diag → Diag) : (s.onDiag f).cst = s.cst := rfl
@[simp] theorem State.onDiag_stc (f : Diag → Diag) : (s.onDiag f).stc = s.stc := rfl
@[simp] theorem State.onDiag_gate (f : Diag → Diag) : (s.onDiag f).gate = s.gate := rfl
@[simp] theorem State.onDiag_wln (f : Diag → Diag) : (s.onDiag f).wln = s.wln := rfl
@[simp] theorem State.onDiag_meas (f : Diag → Diag) : (s.onDiag f).meas = s.meas := rfl
@[simp] theorem State.onDiag_scr (f : Diag → Diag) : (s.onDiag f).scr = s.scr := rfl
@[simp] theorem State.onDiag_brd (f : Diag → Diag) : (s.onDiag f).brd = s.brd := rfl
@[simp] theorem State.onDiag_link (f : Diag → Diag) : (s.onDiag f).link = s.link := rfl
@[simp] theorem State.onDiag_diag (f : Diag → Diag) : (s.onDiag f).diag = f s.diag := rfl
@[simp] theorem State.onDiag_freeCtr (f : Diag → Diag) : (s.onDiag f).freeCtr = s.freeCtr := rfl
@[simp] theorem State.onDiag_pending (f : Diag → Diag) : (s.onDiag f).pending = s.pending := rfl

@[simp] theorem State.withPending_prof (cs : List Instr) : (s.withPending cs).prof = s.prof := rfl
@[simp] theorem State.withPending_fld (cs : List Instr) : (s.withPending cs).fld = s.fld := rfl
@[simp] theorem State.withPending_cst (cs : List Instr) : (s.withPending cs).cst = s.cst := rfl
@[simp] theorem State.withPending_stc (cs : List Instr) : (s.withPending cs).stc = s.stc := rfl
@[simp] theorem State.withPending_gate (cs : List Instr) : (s.withPending cs).gate = s.gate := rfl
@[simp] theorem State.withPending_wln (cs : List Instr) : (s.withPending cs).wln = s.wln := rfl
@[simp] theorem State.withPending_meas (cs : List Instr) : (s.withPending cs).meas = s.meas := rfl
@[simp] theorem State.withPending_scr (cs : List Instr) : (s.withPending cs).scr = s.scr := rfl
@[simp] theorem State.withPending_brd (cs : List Instr) : (s.withPending cs).brd = s.brd := rfl
@[simp] theorem State.withPending_link (cs : List Instr) : (s.withPending cs).link = s.link := rfl
@[simp] theorem State.withPending_diag (cs : List Instr) : (s.withPending cs).diag = s.diag := rfl
@[simp] theorem State.withPending_freeCtr (cs : List Instr) : (s.withPending cs).freeCtr = s.freeCtr := rfl
@[simp] theorem State.withPending_pending (cs : List Instr) : (s.withPending cs).pending = cs := rfl

end Sys2Proof.Machine
end

