-- ==== Sys2Proof/Laws/Frames.lean ====
section
/-! SUPPORT. Which blocks the operations that several blocks share leave as they are: one lemma per operation and block. -/

set_option Elab.async false

namespace Sys2Proof.Machine

variable (s : State)

@[simp] theorem setOutside_prof (i : Option Nat) (v : Bool) : (setOutside i v s).prof = s.prof := by cases i <;> rfl
@[simp] theorem setOutside_cst (i : Option Nat) (v : Bool) : (setOutside i v s).cst = s.cst := by cases i <;> rfl
@[simp] theorem setOutside_stc (i : Option Nat) (v : Bool) : (setOutside i v s).stc = s.stc := by cases i <;> rfl
@[simp] theorem setOutside_gate (i : Option Nat) (v : Bool) : (setOutside i v s).gate = s.gate := by cases i <;> rfl
@[simp] theorem setOutside_wln (i : Option Nat) (v : Bool) : (setOutside i v s).wln = s.wln := by cases i <;> rfl
@[simp] theorem setOutside_meas (i : Option Nat) (v : Bool) : (setOutside i v s).meas = s.meas := by cases i <;> rfl
@[simp] theorem setOutside_scr (i : Option Nat) (v : Bool) : (setOutside i v s).scr = s.scr := by cases i <;> rfl
@[simp] theorem setOutside_brd (i : Option Nat) (v : Bool) : (setOutside i v s).brd = s.brd := by cases i <;> rfl
@[simp] theorem setOutside_link (i : Option Nat) (v : Bool) : (setOutside i v s).link = s.link := by cases i <;> rfl
@[simp] theorem setOutside_diag (i : Option Nat) (v : Bool) : (setOutside i v s).diag = s.diag := by cases i <;> rfl
@[simp] theorem setOutside_freeCtr (i : Option Nat) (v : Bool) : (setOutside i v s).freeCtr = s.freeCtr := by cases i <;> rfl
@[simp] theorem setOutside_pending (i : Option Nat) (v : Bool) : (setOutside i v s).pending = s.pending := by cases i <;> rfl

@[simp] theorem notify_prof (b : NoticeBody) : (notify b s).prof = s.prof := rfl
@[simp] theorem notify_fld (b : NoticeBody) : (notify b s).fld = s.fld := rfl
@[simp] theorem notify_cst (b : NoticeBody) : (notify b s).cst = s.cst := rfl
@[simp] theorem notify_stc (b : NoticeBody) : (notify b s).stc = s.stc := rfl
@[simp] theorem notify_gate (b : NoticeBody) : (notify b s).gate = s.gate := rfl
@[simp] theorem notify_wln (b : NoticeBody) : (notify b s).wln = s.wln := rfl
@[simp] theorem notify_meas (b : NoticeBody) : (notify b s).meas = s.meas := rfl
@[simp] theorem notify_scr (b : NoticeBody) : (notify b s).scr = s.scr := rfl
@[simp] theorem notify_brd (b : NoticeBody) : (notify b s).brd = s.brd := rfl
@[simp] theorem notify_diag (b : NoticeBody) : (notify b s).diag = s.diag := rfl
@[simp] theorem notify_freeCtr (b : NoticeBody) : (notify b s).freeCtr = s.freeCtr := rfl
@[simp] theorem notify_pending (b : NoticeBody) : (notify b s).pending = s.pending := rfl

@[simp] theorem count_prof (k : CounterKind) : (count k s).prof = s.prof := by simp only [count]; (repeat' split); all_goals simp
@[simp] theorem count_fld (k : CounterKind) : (count k s).fld = s.fld := by simp only [count]; (repeat' split); all_goals simp
@[simp] theorem count_cst (k : CounterKind) : (count k s).cst = s.cst := by simp only [count]; (repeat' split); all_goals simp
@[simp] theorem count_stc (k : CounterKind) : (count k s).stc = s.stc := by simp only [count]; (repeat' split); all_goals simp
@[simp] theorem count_gate (k : CounterKind) : (count k s).gate = s.gate := by simp only [count]; (repeat' split); all_goals simp
@[simp] theorem count_wln (k : CounterKind) : (count k s).wln = s.wln := by simp only [count]; (repeat' split); all_goals simp
@[simp] theorem count_meas (k : CounterKind) : (count k s).meas = s.meas := by simp only [count]; (repeat' split); all_goals simp
@[simp] theorem count_scr (k : CounterKind) : (count k s).scr = s.scr := by simp only [count]; (repeat' split); all_goals simp
@[simp] theorem count_brd (k : CounterKind) : (count k s).brd = s.brd := by simp only [count]; (repeat' split); all_goals simp
@[simp] theorem count_freeCtr (k : CounterKind) : (count k s).freeCtr = s.freeCtr := by simp only [count]; (repeat' split); all_goals simp
@[simp] theorem count_pending (k : CounterKind) : (count k s).pending = s.pending := by simp only [count]; (repeat' split); all_goals simp

@[simp] theorem reportFault_prof (k : FaultKind) (d : Nat) : (reportFault k d s).prof = s.prof := rfl
@[simp] theorem reportFault_fld (k : FaultKind) (d : Nat) : (reportFault k d s).fld = s.fld := rfl
@[simp] theorem reportFault_cst (k : FaultKind) (d : Nat) : (reportFault k d s).cst = s.cst := rfl
@[simp] theorem reportFault_stc (k : FaultKind) (d : Nat) : (reportFault k d s).stc = s.stc := rfl
@[simp] theorem reportFault_gate (k : FaultKind) (d : Nat) : (reportFault k d s).gate = s.gate := rfl
@[simp] theorem reportFault_wln (k : FaultKind) (d : Nat) : (reportFault k d s).wln = s.wln := rfl
@[simp] theorem reportFault_meas (k : FaultKind) (d : Nat) : (reportFault k d s).meas = s.meas := rfl
@[simp] theorem reportFault_scr (k : FaultKind) (d : Nat) : (reportFault k d s).scr = s.scr := rfl
@[simp] theorem reportFault_brd (k : FaultKind) (d : Nat) : (reportFault k d s).brd = s.brd := rfl
@[simp] theorem reportFault_link (k : FaultKind) (d : Nat) : (reportFault k d s).link = s.link := rfl
@[simp] theorem reportFault_freeCtr (k : FaultKind) (d : Nat) : (reportFault k d s).freeCtr = s.freeCtr := rfl
@[simp] theorem reportFault_pending (k : FaultKind) (d : Nat) : (reportFault k d s).pending = s.pending := rfl

@[simp] theorem setAttempt_prof (n : Nat) (f : Attempt → Attempt) : (setAttempt n f s).prof = s.prof := rfl
@[simp] theorem setAttempt_fld (n : Nat) (f : Attempt → Attempt) : (setAttempt n f s).fld = s.fld := rfl
@[simp] theorem setAttempt_stc (n : Nat) (f : Attempt → Attempt) : (setAttempt n f s).stc = s.stc := rfl
@[simp] theorem setAttempt_gate (n : Nat) (f : Attempt → Attempt) : (setAttempt n f s).gate = s.gate := rfl
@[simp] theorem setAttempt_wln (n : Nat) (f : Attempt → Attempt) : (setAttempt n f s).wln = s.wln := rfl
@[simp] theorem setAttempt_meas (n : Nat) (f : Attempt → Attempt) : (setAttempt n f s).meas = s.meas := rfl
@[simp] theorem setAttempt_scr (n : Nat) (f : Attempt → Attempt) : (setAttempt n f s).scr = s.scr := rfl
@[simp] theorem setAttempt_brd (n : Nat) (f : Attempt → Attempt) : (setAttempt n f s).brd = s.brd := rfl
@[simp] theorem setAttempt_link (n : Nat) (f : Attempt → Attempt) : (setAttempt n f s).link = s.link := rfl
@[simp] theorem setAttempt_diag (n : Nat) (f : Attempt → Attempt) : (setAttempt n f s).diag = s.diag := rfl
@[simp] theorem setAttempt_freeCtr (n : Nat) (f : Attempt → Attempt) : (setAttempt n f s).freeCtr = s.freeCtr := rfl
@[simp] theorem setAttempt_pending (n : Nat) (f : Attempt → Attempt) : (setAttempt n f s).pending = s.pending := rfl

@[simp] theorem addFault_prof (n : Nat) (f : DeferredFault) : (addFault n f s).prof = s.prof := by simp [addFault]
@[simp] theorem addFault_fld (n : Nat) (f : DeferredFault) : (addFault n f s).fld = s.fld := by simp [addFault]
@[simp] theorem addFault_stc (n : Nat) (f : DeferredFault) : (addFault n f s).stc = s.stc := by simp [addFault]
@[simp] theorem addFault_gate (n : Nat) (f : DeferredFault) : (addFault n f s).gate = s.gate := by simp [addFault]
@[simp] theorem addFault_wln (n : Nat) (f : DeferredFault) : (addFault n f s).wln = s.wln := by simp [addFault]
@[simp] theorem addFault_meas (n : Nat) (f : DeferredFault) : (addFault n f s).meas = s.meas := by simp [addFault]
@[simp] theorem addFault_scr (n : Nat) (f : DeferredFault) : (addFault n f s).scr = s.scr := by simp [addFault]
@[simp] theorem addFault_brd (n : Nat) (f : DeferredFault) : (addFault n f s).brd = s.brd := by simp [addFault]
@[simp] theorem addFault_link (n : Nat) (f : DeferredFault) : (addFault n f s).link = s.link := by simp [addFault]
@[simp] theorem addFault_diag (n : Nat) (f : DeferredFault) : (addFault n f s).diag = s.diag := by simp [addFault]
@[simp] theorem addFault_freeCtr (n : Nat) (f : DeferredFault) : (addFault n f s).freeCtr = s.freeCtr := by simp [addFault]
@[simp] theorem addFault_pending (n : Nat) (f : DeferredFault) : (addFault n f s).pending = s.pending := by simp [addFault]

@[simp] theorem setCompetitor_prof (b : Nat) (f : Competitor → Competitor) : (setCompetitor b f s).prof = s.prof := rfl
@[simp] theorem setCompetitor_fld (b : Nat) (f : Competitor → Competitor) : (setCompetitor b f s).fld = s.fld := rfl
@[simp] theorem setCompetitor_stc (b : Nat) (f : Competitor → Competitor) : (setCompetitor b f s).stc = s.stc := rfl
@[simp] theorem setCompetitor_gate (b : Nat) (f : Competitor → Competitor) : (setCompetitor b f s).gate = s.gate := rfl
@[simp] theorem setCompetitor_wln (b : Nat) (f : Competitor → Competitor) : (setCompetitor b f s).wln = s.wln := rfl
@[simp] theorem setCompetitor_meas (b : Nat) (f : Competitor → Competitor) : (setCompetitor b f s).meas = s.meas := rfl
@[simp] theorem setCompetitor_scr (b : Nat) (f : Competitor → Competitor) : (setCompetitor b f s).scr = s.scr := rfl
@[simp] theorem setCompetitor_brd (b : Nat) (f : Competitor → Competitor) : (setCompetitor b f s).brd = s.brd := rfl
@[simp] theorem setCompetitor_link (b : Nat) (f : Competitor → Competitor) : (setCompetitor b f s).link = s.link := rfl
@[simp] theorem setCompetitor_diag (b : Nat) (f : Competitor → Competitor) : (setCompetitor b f s).diag = s.diag := rfl
@[simp] theorem setCompetitor_freeCtr (b : Nat) (f : Competitor → Competitor) : (setCompetitor b f s).freeCtr = s.freeCtr := rfl
@[simp] theorem setCompetitor_pending (b : Nat) (f : Competitor → Competitor) : (setCompetitor b f s).pending = s.pending := rfl

@[simp] theorem setTotal_prof (b r : Nat) (v : Option Nat) : (setTotal b r v s).prof = s.prof := by simp [setTotal]
@[simp] theorem setTotal_fld (b r : Nat) (v : Option Nat) : (setTotal b r v s).fld = s.fld := by simp [setTotal]
@[simp] theorem setTotal_stc (b r : Nat) (v : Option Nat) : (setTotal b r v s).stc = s.stc := by simp [setTotal]
@[simp] theorem setTotal_gate (b r : Nat) (v : Option Nat) : (setTotal b r v s).gate = s.gate := by simp [setTotal]
@[simp] theorem setTotal_wln (b r : Nat) (v : Option Nat) : (setTotal b r v s).wln = s.wln := by simp [setTotal]
@[simp] theorem setTotal_meas (b r : Nat) (v : Option Nat) : (setTotal b r v s).meas = s.meas := by simp [setTotal]
@[simp] theorem setTotal_scr (b r : Nat) (v : Option Nat) : (setTotal b r v s).scr = s.scr := by simp [setTotal]
@[simp] theorem setTotal_brd (b r : Nat) (v : Option Nat) : (setTotal b r v s).brd = s.brd := by simp [setTotal]
@[simp] theorem setTotal_link (b r : Nat) (v : Option Nat) : (setTotal b r v s).link = s.link := by simp [setTotal]
@[simp] theorem setTotal_diag (b r : Nat) (v : Option Nat) : (setTotal b r v s).diag = s.diag := by simp [setTotal]
@[simp] theorem setTotal_freeCtr (b r : Nat) (v : Option Nat) : (setTotal b r v s).freeCtr = s.freeCtr := by simp [setTotal]
@[simp] theorem setTotal_pending (b r : Nat) (v : Option Nat) : (setTotal b r v s).pending = s.pending := by simp [setTotal]

@[simp] theorem setDisqualified_prof (b : Nat) (v : Bool) : (setDisqualified b v s).prof = s.prof := by simp [setDisqualified]
@[simp] theorem setDisqualified_fld (b : Nat) (v : Bool) : (setDisqualified b v s).fld = s.fld := by simp [setDisqualified]
@[simp] theorem setDisqualified_stc (b : Nat) (v : Bool) : (setDisqualified b v s).stc = s.stc := by simp [setDisqualified]
@[simp] theorem setDisqualified_gate (b : Nat) (v : Bool) : (setDisqualified b v s).gate = s.gate := by simp [setDisqualified]
@[simp] theorem setDisqualified_wln (b : Nat) (v : Bool) : (setDisqualified b v s).wln = s.wln := by simp [setDisqualified]
@[simp] theorem setDisqualified_meas (b : Nat) (v : Bool) : (setDisqualified b v s).meas = s.meas := by simp [setDisqualified]
@[simp] theorem setDisqualified_scr (b : Nat) (v : Bool) : (setDisqualified b v s).scr = s.scr := by simp [setDisqualified]
@[simp] theorem setDisqualified_brd (b : Nat) (v : Bool) : (setDisqualified b v s).brd = s.brd := by simp [setDisqualified]
@[simp] theorem setDisqualified_link (b : Nat) (v : Bool) : (setDisqualified b v s).link = s.link := by simp [setDisqualified]
@[simp] theorem setDisqualified_diag (b : Nat) (v : Bool) : (setDisqualified b v s).diag = s.diag := by simp [setDisqualified]
@[simp] theorem setDisqualified_freeCtr (b : Nat) (v : Bool) : (setDisqualified b v s).freeCtr = s.freeCtr := by simp [setDisqualified]
@[simp] theorem setDisqualified_pending (b : Nat) (v : Bool) : (setDisqualified b v s).pending = s.pending := by simp [setDisqualified]

@[simp] theorem endCheck_prof : (endCheck s).prof = s.prof := by simp only [endCheck]; (repeat' split); all_goals simp
@[simp] theorem endCheck_fld : (endCheck s).fld = s.fld := by simp only [endCheck]; (repeat' split); all_goals simp
@[simp] theorem endCheck_stc : (endCheck s).stc = s.stc := by simp only [endCheck]; (repeat' split); all_goals simp
@[simp] theorem endCheck_gate : (endCheck s).gate = s.gate := by simp only [endCheck]; (repeat' split); all_goals simp
@[simp] theorem endCheck_wln : (endCheck s).wln = s.wln := by simp only [endCheck]; (repeat' split); all_goals simp
@[simp] theorem endCheck_meas : (endCheck s).meas = s.meas := by simp only [endCheck]; (repeat' split); all_goals simp
@[simp] theorem endCheck_scr : (endCheck s).scr = s.scr := by simp only [endCheck]; (repeat' split); all_goals simp
@[simp] theorem endCheck_brd : (endCheck s).brd = s.brd := by simp only [endCheck]; (repeat' split); all_goals simp
@[simp] theorem endCheck_link : (endCheck s).link = s.link := by simp only [endCheck]; (repeat' split); all_goals simp
@[simp] theorem endCheck_diag : (endCheck s).diag = s.diag := by simp only [endCheck]; (repeat' split); all_goals simp
@[simp] theorem endCheck_freeCtr : (endCheck s).freeCtr = s.freeCtr := by simp only [endCheck]; (repeat' split); all_goals simp
@[simp] theorem endCheck_pending : (endCheck s).pending = s.pending := by simp only [endCheck]; (repeat' split); all_goals simp

@[simp] theorem notifyState_prof (n r b : Nat) (o : Option AttemptState) (x : AttemptState) : (notifyState n r b o x s).prof = s.prof := by simp [notifyState]
@[simp] theorem notifyState_fld (n r b : Nat) (o : Option AttemptState) (x : AttemptState) : (notifyState n r b o x s).fld = s.fld := by simp [notifyState]
@[simp] theorem notifyState_cst (n r b : Nat) (o : Option AttemptState) (x : AttemptState) : (notifyState n r b o x s).cst = s.cst := by simp [notifyState]
@[simp] theorem notifyState_stc (n r b : Nat) (o : Option AttemptState) (x : AttemptState) : (notifyState n r b o x s).stc = s.stc := by simp [notifyState]
@[simp] theorem notifyState_gate (n r b : Nat) (o : Option AttemptState) (x : AttemptState) : (notifyState n r b o x s).gate = s.gate := by simp [notifyState]
@[simp] theorem notifyState_wln (n r b : Nat) (o : Option AttemptState) (x : AttemptState) : (notifyState n r b o x s).wln = s.wln := by simp [notifyState]
@[simp] theorem notifyState_meas (n r b : Nat) (o : Option AttemptState) (x : AttemptState) : (notifyState n r b o x s).meas = s.meas := by simp [notifyState]
@[simp] theorem notifyState_scr (n r b : Nat) (o : Option AttemptState) (x : AttemptState) : (notifyState n r b o x s).scr = s.scr := by simp [notifyState]
@[simp] theorem notifyState_brd (n r b : Nat) (o : Option AttemptState) (x : AttemptState) : (notifyState n r b o x s).brd = s.brd := by simp [notifyState]
@[simp] theorem notifyState_diag (n r b : Nat) (o : Option AttemptState) (x : AttemptState) : (notifyState n r b o x s).diag = s.diag := by simp [notifyState]
@[simp] theorem notifyState_freeCtr (n r b : Nat) (o : Option AttemptState) (x : AttemptState) : (notifyState n r b o x s).freeCtr = s.freeCtr := by simp [notifyState]
@[simp] theorem notifyState_pending (n r b : Nat) (o : Option AttemptState) (x : AttemptState) : (notifyState n r b o x s).pending = s.pending := by simp [notifyState]

@[simp] theorem enqueueWith_prof (k : Key) (b : Bool) : (enqueueWith k b s).prof = s.prof := by simp only [enqueueWith]; (repeat' split); all_goals simp
@[simp] theorem enqueueWith_fld (k : Key) (b : Bool) : (enqueueWith k b s).fld = s.fld := by simp only [enqueueWith]; (repeat' split); all_goals simp
@[simp] theorem enqueueWith_cst (k : Key) (b : Bool) : (enqueueWith k b s).cst = s.cst := by simp only [enqueueWith]; (repeat' split); all_goals simp
@[simp] theorem enqueueWith_stc (k : Key) (b : Bool) : (enqueueWith k b s).stc = s.stc := by simp only [enqueueWith]; (repeat' split); all_goals simp
@[simp] theorem enqueueWith_gate (k : Key) (b : Bool) : (enqueueWith k b s).gate = s.gate := by simp only [enqueueWith]; (repeat' split); all_goals simp
@[simp] theorem enqueueWith_wln (k : Key) (b : Bool) : (enqueueWith k b s).wln = s.wln := by simp only [enqueueWith]; (repeat' split); all_goals simp
@[simp] theorem enqueueWith_meas (k : Key) (b : Bool) : (enqueueWith k b s).meas = s.meas := by simp only [enqueueWith]; (repeat' split); all_goals simp
@[simp] theorem enqueueWith_scr (k : Key) (b : Bool) : (enqueueWith k b s).scr = s.scr := by simp only [enqueueWith]; (repeat' split); all_goals simp
@[simp] theorem enqueueWith_freeCtr (k : Key) (b : Bool) : (enqueueWith k b s).freeCtr = s.freeCtr := by simp only [enqueueWith]; (repeat' split); all_goals simp
@[simp] theorem enqueueWith_pending (k : Key) (b : Bool) : (enqueueWith k b s).pending = s.pending := by simp only [enqueueWith]; (repeat' split); all_goals simp

@[simp] theorem enqueue_prof (k : Key) : (enqueue k s).prof = s.prof := by simp [enqueue]
@[simp] theorem enqueue_fld (k : Key) : (enqueue k s).fld = s.fld := by simp [enqueue]
@[simp] theorem enqueue_cst (k : Key) : (enqueue k s).cst = s.cst := by simp [enqueue]
@[simp] theorem enqueue_stc (k : Key) : (enqueue k s).stc = s.stc := by simp [enqueue]
@[simp] theorem enqueue_gate (k : Key) : (enqueue k s).gate = s.gate := by simp [enqueue]
@[simp] theorem enqueue_wln (k : Key) : (enqueue k s).wln = s.wln := by simp [enqueue]
@[simp] theorem enqueue_meas (k : Key) : (enqueue k s).meas = s.meas := by simp [enqueue]
@[simp] theorem enqueue_scr (k : Key) : (enqueue k s).scr = s.scr := by simp [enqueue]
@[simp] theorem enqueue_freeCtr (k : Key) : (enqueue k s).freeCtr = s.freeCtr := by simp [enqueue]
@[simp] theorem enqueue_pending (k : Key) : (enqueue k s).pending = s.pending := by simp [enqueue]

@[simp] theorem enqueueSubject_prof (f : BoardField) (n : Nat) : (enqueueSubject f n s).prof = s.prof := by simp only [enqueueSubject]; (repeat' split); all_goals simp
@[simp] theorem enqueueSubject_fld (f : BoardField) (n : Nat) : (enqueueSubject f n s).fld = s.fld := by simp only [enqueueSubject]; (repeat' split); all_goals simp
@[simp] theorem enqueueSubject_cst (f : BoardField) (n : Nat) : (enqueueSubject f n s).cst = s.cst := by simp only [enqueueSubject]; (repeat' split); all_goals simp
@[simp] theorem enqueueSubject_stc (f : BoardField) (n : Nat) : (enqueueSubject f n s).stc = s.stc := by simp only [enqueueSubject]; (repeat' split); all_goals simp
@[simp] theorem enqueueSubject_gate (f : BoardField) (n : Nat) : (enqueueSubject f n s).gate = s.gate := by simp only [enqueueSubject]; (repeat' split); all_goals simp
@[simp] theorem enqueueSubject_wln (f : BoardField) (n : Nat) : (enqueueSubject f n s).wln = s.wln := by simp only [enqueueSubject]; (repeat' split); all_goals simp
@[simp] theorem enqueueSubject_meas (f : BoardField) (n : Nat) : (enqueueSubject f n s).meas = s.meas := by simp only [enqueueSubject]; (repeat' split); all_goals simp
@[simp] theorem enqueueSubject_scr (f : BoardField) (n : Nat) : (enqueueSubject f n s).scr = s.scr := by simp only [enqueueSubject]; (repeat' split); all_goals simp
@[simp] theorem enqueueSubject_freeCtr (f : BoardField) (n : Nat) : (enqueueSubject f n s).freeCtr = s.freeCtr := by simp only [enqueueSubject]; (repeat' split); all_goals simp
@[simp] theorem enqueueSubject_pending (f : BoardField) (n : Nat) : (enqueueSubject f n s).pending = s.pending := by simp only [enqueueSubject]; (repeat' split); all_goals simp

@[simp] theorem enqueueAll_prof (ks : List Key) (b : Bool) : (enqueueAll ks b s).prof = s.prof := by
  induction ks generalizing s with
  | nil => rfl
  | cons k r ih => simp only [enqueueAll, List.foldl_cons] at ih ⊢; rw [ih]; simp
@[simp] theorem enqueueAll_fld (ks : List Key) (b : Bool) : (enqueueAll ks b s).fld = s.fld := by
  induction ks generalizing s with
  | nil => rfl
  | cons k r ih => simp only [enqueueAll, List.foldl_cons] at ih ⊢; rw [ih]; simp
@[simp] theorem enqueueAll_cst (ks : List Key) (b : Bool) : (enqueueAll ks b s).cst = s.cst := by
  induction ks generalizing s with
  | nil => rfl
  | cons k r ih => simp only [enqueueAll, List.foldl_cons] at ih ⊢; rw [ih]; simp
@[simp] theorem enqueueAll_stc (ks : List Key) (b : Bool) : (enqueueAll ks b s).stc = s.stc := by
  induction ks generalizing s with
  | nil => rfl
  | cons k r ih => simp only [enqueueAll, List.foldl_cons] at ih ⊢; rw [ih]; simp
@[simp] theorem enqueueAll_gate (ks : List Key) (b : Bool) : (enqueueAll ks b s).gate = s.gate := by
  induction ks generalizing s with
  | nil => rfl
  | cons k r ih => simp only [enqueueAll, List.foldl_cons] at ih ⊢; rw [ih]; simp
@[simp] theorem enqueueAll_wln (ks : List Key) (b : Bool) : (enqueueAll ks b s).wln = s.wln := by
  induction ks generalizing s with
  | nil => rfl
  | cons k r ih => simp only [enqueueAll, List.foldl_cons] at ih ⊢; rw [ih]; simp
@[simp] theorem enqueueAll_meas (ks : List Key) (b : Bool) : (enqueueAll ks b s).meas = s.meas := by
  induction ks generalizing s with
  | nil => rfl
  | cons k r ih => simp only [enqueueAll, List.foldl_cons] at ih ⊢; rw [ih]; simp
@[simp] theorem enqueueAll_scr (ks : List Key) (b : Bool) : (enqueueAll ks b s).scr = s.scr := by
  induction ks generalizing s with
  | nil => rfl
  | cons k r ih => simp only [enqueueAll, List.foldl_cons] at ih ⊢; rw [ih]; simp
@[simp] theorem enqueueAll_freeCtr (ks : List Key) (b : Bool) : (enqueueAll ks b s).freeCtr = s.freeCtr := by
  induction ks generalizing s with
  | nil => rfl
  | cons k r ih => simp only [enqueueAll, List.foldl_cons] at ih ⊢; rw [ih]; simp
@[simp] theorem enqueueAll_pending (ks : List Key) (b : Bool) : (enqueueAll ks b s).pending = s.pending := by
  induction ks generalizing s with
  | nil => rfl
  | cons k r ih => simp only [enqueueAll, List.foldl_cons] at ih ⊢; rw [ih]; simp

@[simp] theorem beginFrame_prof : (beginFrame s).prof = s.prof := by simp only [beginFrame]; (repeat' split); all_goals simp
@[simp] theorem beginFrame_fld : (beginFrame s).fld = s.fld := by simp only [beginFrame]; (repeat' split); all_goals simp
@[simp] theorem beginFrame_cst : (beginFrame s).cst = s.cst := by simp only [beginFrame]; (repeat' split); all_goals simp
@[simp] theorem beginFrame_stc : (beginFrame s).stc = s.stc := by simp only [beginFrame]; (repeat' split); all_goals simp
@[simp] theorem beginFrame_gate : (beginFrame s).gate = s.gate := by simp only [beginFrame]; (repeat' split); all_goals simp
@[simp] theorem beginFrame_wln : (beginFrame s).wln = s.wln := by simp only [beginFrame]; (repeat' split); all_goals simp
@[simp] theorem beginFrame_meas : (beginFrame s).meas = s.meas := by simp only [beginFrame]; (repeat' split); all_goals simp
@[simp] theorem beginFrame_scr : (beginFrame s).scr = s.scr := by simp only [beginFrame]; (repeat' split); all_goals simp
@[simp] theorem beginFrame_link : (beginFrame s).link = s.link := by simp only [beginFrame]; (repeat' split); all_goals simp
@[simp] theorem beginFrame_diag : (beginFrame s).diag = s.diag := by simp only [beginFrame]; (repeat' split); all_goals simp
@[simp] theorem beginFrame_freeCtr : (beginFrame s).freeCtr = s.freeCtr := by simp only [beginFrame]; (repeat' split); all_goals simp
@[simp] theorem beginFrame_pending : (beginFrame s).pending = s.pending := by simp only [beginFrame]; (repeat' split); all_goals simp

@[simp] theorem stallRule_prof : (stallRule s).prof = s.prof := by simp only [stallRule]; (repeat' split); all_goals simp
@[simp] theorem stallRule_fld : (stallRule s).fld = s.fld := by simp only [stallRule]; (repeat' split); all_goals simp
@[simp] theorem stallRule_cst : (stallRule s).cst = s.cst := by simp only [stallRule]; (repeat' split); all_goals simp
@[simp] theorem stallRule_stc : (stallRule s).stc = s.stc := by simp only [stallRule]; (repeat' split); all_goals simp
@[simp] theorem stallRule_gate : (stallRule s).gate = s.gate := by simp only [stallRule]; (repeat' split); all_goals simp
@[simp] theorem stallRule_wln : (stallRule s).wln = s.wln := by simp only [stallRule]; (repeat' split); all_goals simp
@[simp] theorem stallRule_meas : (stallRule s).meas = s.meas := by simp only [stallRule]; (repeat' split); all_goals simp
@[simp] theorem stallRule_scr : (stallRule s).scr = s.scr := by simp only [stallRule]; (repeat' split); all_goals simp
@[simp] theorem stallRule_link : (stallRule s).link = s.link := by simp only [stallRule]; (repeat' split); all_goals simp
@[simp] theorem stallRule_diag : (stallRule s).diag = s.diag := by simp only [stallRule]; (repeat' split); all_goals simp
@[simp] theorem stallRule_freeCtr : (stallRule s).freeCtr = s.freeCtr := by simp only [stallRule]; (repeat' split); all_goals simp
@[simp] theorem stallRule_pending : (stallRule s).pending = s.pending := by simp only [stallRule]; (repeat' split); all_goals simp

@[simp] theorem setReady_prof (v : Bool) : (setReady v s).prof = s.prof := by simp only [setReady]; (repeat' split); all_goals simp
@[simp] theorem setReady_fld (v : Bool) : (setReady v s).fld = s.fld := by simp only [setReady]; (repeat' split); all_goals simp
@[simp] theorem setReady_cst (v : Bool) : (setReady v s).cst = s.cst := by simp only [setReady]; (repeat' split); all_goals simp
@[simp] theorem setReady_stc (v : Bool) : (setReady v s).stc = s.stc := by simp only [setReady]; (repeat' split); all_goals simp
@[simp] theorem setReady_gate (v : Bool) : (setReady v s).gate = s.gate := by simp only [setReady]; (repeat' split); all_goals simp
@[simp] theorem setReady_wln (v : Bool) : (setReady v s).wln = s.wln := by simp only [setReady]; (repeat' split); all_goals simp
@[simp] theorem setReady_meas (v : Bool) : (setReady v s).meas = s.meas := by simp only [setReady]; (repeat' split); all_goals simp
@[simp] theorem setReady_scr (v : Bool) : (setReady v s).scr = s.scr := by simp only [setReady]; (repeat' split); all_goals simp
@[simp] theorem setReady_diag (v : Bool) : (setReady v s).diag = s.diag := by simp only [setReady]; (repeat' split); all_goals simp
@[simp] theorem setReady_freeCtr (v : Bool) : (setReady v s).freeCtr = s.freeCtr := by simp only [setReady]; (repeat' split); all_goals simp
@[simp] theorem setReady_pending (v : Bool) : (setReady v s).pending = s.pending := by simp only [setReady]; (repeat' split); all_goals simp

@[simp] theorem startTx_prof : (startTx s).prof = s.prof := by simp only [startTx]; (repeat' split); all_goals simp
@[simp] theorem startTx_fld : (startTx s).fld = s.fld := by simp only [startTx]; (repeat' split); all_goals simp
@[simp] theorem startTx_cst : (startTx s).cst = s.cst := by simp only [startTx]; (repeat' split); all_goals simp
@[simp] theorem startTx_stc : (startTx s).stc = s.stc := by simp only [startTx]; (repeat' split); all_goals simp
@[simp] theorem startTx_gate : (startTx s).gate = s.gate := by simp only [startTx]; (repeat' split); all_goals simp
@[simp] theorem startTx_wln : (startTx s).wln = s.wln := by simp only [startTx]; (repeat' split); all_goals simp
@[simp] theorem startTx_meas : (startTx s).meas = s.meas := by simp only [startTx]; (repeat' split); all_goals simp
@[simp] theorem startTx_scr : (startTx s).scr = s.scr := by simp only [startTx]; (repeat' split); all_goals simp
@[simp] theorem startTx_brd : (startTx s).brd = s.brd := by simp only [startTx]; (repeat' split); all_goals simp
@[simp] theorem startTx_diag : (startTx s).diag = s.diag := by simp only [startTx]; (repeat' split); all_goals simp
@[simp] theorem startTx_freeCtr : (startTx s).freeCtr = s.freeCtr := by simp only [startTx]; (repeat' split); all_goals simp
@[simp] theorem startTx_pending : (startTx s).pending = s.pending := by simp only [startTx]; (repeat' split); all_goals simp

@[simp] theorem settle_prof : (settle s).prof = s.prof := by simp [settle]
@[simp] theorem settle_fld : (settle s).fld = s.fld := by simp [settle]
@[simp] theorem settle_cst : (settle s).cst = s.cst := by simp [settle]
@[simp] theorem settle_stc : (settle s).stc = s.stc := by simp [settle]
@[simp] theorem settle_gate : (settle s).gate = s.gate := by simp [settle]
@[simp] theorem settle_wln : (settle s).wln = s.wln := by simp [settle]
@[simp] theorem settle_meas : (settle s).meas = s.meas := by simp [settle]
@[simp] theorem settle_scr : (settle s).scr = s.scr := by simp [settle]
@[simp] theorem settle_diag : (settle s).diag = s.diag := by simp [settle]
@[simp] theorem settle_freeCtr : (settle s).freeCtr = s.freeCtr := by simp [settle]
@[simp] theorem settle_pending : (settle s).pending = s.pending := by simp [settle]

@[simp] theorem joinBuffer_prof (b : List Byte) : (joinBuffer b s).prof = s.prof := rfl
@[simp] theorem joinBuffer_fld (b : List Byte) : (joinBuffer b s).fld = s.fld := rfl
@[simp] theorem joinBuffer_cst (b : List Byte) : (joinBuffer b s).cst = s.cst := rfl
@[simp] theorem joinBuffer_stc (b : List Byte) : (joinBuffer b s).stc = s.stc := rfl
@[simp] theorem joinBuffer_gate (b : List Byte) : (joinBuffer b s).gate = s.gate := rfl
@[simp] theorem joinBuffer_wln (b : List Byte) : (joinBuffer b s).wln = s.wln := rfl
@[simp] theorem joinBuffer_meas (b : List Byte) : (joinBuffer b s).meas = s.meas := rfl
@[simp] theorem joinBuffer_scr (b : List Byte) : (joinBuffer b s).scr = s.scr := rfl
@[simp] theorem joinBuffer_brd (b : List Byte) : (joinBuffer b s).brd = s.brd := rfl
@[simp] theorem joinBuffer_diag (b : List Byte) : (joinBuffer b s).diag = s.diag := rfl
@[simp] theorem joinBuffer_freeCtr (b : List Byte) : (joinBuffer b s).freeCtr = s.freeCtr := rfl
@[simp] theorem joinBuffer_pending (b : List Byte) : (joinBuffer b s).pending = s.pending := rfl

@[simp] theorem setLight_prof (l : Light) : (setLight l s).prof = s.prof := by simp only [setLight]; (repeat' split); all_goals simp
@[simp] theorem setLight_fld (l : Light) : (setLight l s).fld = s.fld := by simp only [setLight]; (repeat' split); all_goals simp
@[simp] theorem setLight_cst (l : Light) : (setLight l s).cst = s.cst := by simp only [setLight]; (repeat' split); all_goals simp
@[simp] theorem setLight_gate (l : Light) : (setLight l s).gate = s.gate := by simp only [setLight]; (repeat' split); all_goals simp
@[simp] theorem setLight_wln (l : Light) : (setLight l s).wln = s.wln := by simp only [setLight]; (repeat' split); all_goals simp
@[simp] theorem setLight_meas (l : Light) : (setLight l s).meas = s.meas := by simp only [setLight]; (repeat' split); all_goals simp
@[simp] theorem setLight_scr (l : Light) : (setLight l s).scr = s.scr := by simp only [setLight]; (repeat' split); all_goals simp
@[simp] theorem setLight_freeCtr (l : Light) : (setLight l s).freeCtr = s.freeCtr := by simp only [setLight]; (repeat' split); all_goals simp
@[simp] theorem setLight_pending (l : Light) : (setLight l s).pending = s.pending := by simp only [setLight]; (repeat' split); all_goals simp

@[simp] theorem updateLight_prof : (updateLight s).prof = s.prof := by simp [updateLight]
@[simp] theorem updateLight_fld : (updateLight s).fld = s.fld := by simp [updateLight]
@[simp] theorem updateLight_cst : (updateLight s).cst = s.cst := by simp [updateLight]
@[simp] theorem updateLight_gate : (updateLight s).gate = s.gate := by simp [updateLight]
@[simp] theorem updateLight_wln : (updateLight s).wln = s.wln := by simp [updateLight]
@[simp] theorem updateLight_meas : (updateLight s).meas = s.meas := by simp [updateLight]
@[simp] theorem updateLight_scr : (updateLight s).scr = s.scr := by simp [updateLight]
@[simp] theorem updateLight_freeCtr : (updateLight s).freeCtr = s.freeCtr := by simp [updateLight]
@[simp] theorem updateLight_pending : (updateLight s).pending = s.pending := by simp [updateLight]

@[simp] theorem stopWindow_prof : (stopWindow s).prof = s.prof := by simp only [stopWindow]; (repeat' split); all_goals simp
@[simp] theorem stopWindow_fld : (stopWindow s).fld = s.fld := by simp only [stopWindow]; (repeat' split); all_goals simp
@[simp] theorem stopWindow_cst : (stopWindow s).cst = s.cst := by simp only [stopWindow]; (repeat' split); all_goals simp
@[simp] theorem stopWindow_gate : (stopWindow s).gate = s.gate := by simp only [stopWindow]; (repeat' split); all_goals simp
@[simp] theorem stopWindow_wln : (stopWindow s).wln = s.wln := by simp only [stopWindow]; (repeat' split); all_goals simp
@[simp] theorem stopWindow_meas : (stopWindow s).meas = s.meas := by simp only [stopWindow]; (repeat' split); all_goals simp
@[simp] theorem stopWindow_scr : (stopWindow s).scr = s.scr := by simp only [stopWindow]; (repeat' split); all_goals simp
@[simp] theorem stopWindow_freeCtr : (stopWindow s).freeCtr = s.freeCtr := by simp only [stopWindow]; (repeat' split); all_goals simp
@[simp] theorem stopWindow_pending : (stopWindow s).pending = s.pending := by simp only [stopWindow]; (repeat' split); all_goals simp

@[simp] theorem dropClear_prof : (dropClear s).prof = s.prof := rfl
@[simp] theorem dropClear_fld : (dropClear s).fld = s.fld := rfl
@[simp] theorem dropClear_cst : (dropClear s).cst = s.cst := rfl
@[simp] theorem dropClear_gate : (dropClear s).gate = s.gate := rfl
@[simp] theorem dropClear_wln : (dropClear s).wln = s.wln := rfl
@[simp] theorem dropClear_meas : (dropClear s).meas = s.meas := rfl
@[simp] theorem dropClear_scr : (dropClear s).scr = s.scr := rfl
@[simp] theorem dropClear_brd : (dropClear s).brd = s.brd := rfl
@[simp] theorem dropClear_link : (dropClear s).link = s.link := rfl
@[simp] theorem dropClear_diag : (dropClear s).diag = s.diag := rfl
@[simp] theorem dropClear_freeCtr : (dropClear s).freeCtr = s.freeCtr := rfl
@[simp] theorem dropClear_pending : (dropClear s).pending = s.pending := rfl

@[simp] theorem armEffect_prof : (armEffect s).prof = s.prof := by simp only [armEffect]; (repeat' split); all_goals simp
@[simp] theorem armEffect_fld : (armEffect s).fld = s.fld := by simp only [armEffect]; (repeat' split); all_goals simp
@[simp] theorem armEffect_gate : (armEffect s).gate = s.gate := by simp only [armEffect]; (repeat' split); all_goals simp
@[simp] theorem armEffect_wln : (armEffect s).wln = s.wln := by simp only [armEffect]; (repeat' split); all_goals simp
@[simp] theorem armEffect_meas : (armEffect s).meas = s.meas := by simp only [armEffect]; (repeat' split); all_goals simp
@[simp] theorem armEffect_scr : (armEffect s).scr = s.scr := by simp only [armEffect]; (repeat' split); all_goals simp
@[simp] theorem armEffect_freeCtr : (armEffect s).freeCtr = s.freeCtr := by simp only [armEffect]; (repeat' split); all_goals simp
@[simp] theorem armEffect_pending : (armEffect s).pending = s.pending := by simp only [armEffect]; (repeat' split); all_goals simp

@[simp] theorem dropHeldArm_prof (c : DropCause) : (dropHeldArm c s).prof = s.prof := by simp only [dropHeldArm]; (repeat' split); all_goals simp
@[simp] theorem dropHeldArm_fld (c : DropCause) : (dropHeldArm c s).fld = s.fld := by simp only [dropHeldArm]; (repeat' split); all_goals simp
@[simp] theorem dropHeldArm_cst (c : DropCause) : (dropHeldArm c s).cst = s.cst := by simp only [dropHeldArm]; (repeat' split); all_goals simp
@[simp] theorem dropHeldArm_gate (c : DropCause) : (dropHeldArm c s).gate = s.gate := by simp only [dropHeldArm]; (repeat' split); all_goals simp
@[simp] theorem dropHeldArm_wln (c : DropCause) : (dropHeldArm c s).wln = s.wln := by simp only [dropHeldArm]; (repeat' split); all_goals simp
@[simp] theorem dropHeldArm_meas (c : DropCause) : (dropHeldArm c s).meas = s.meas := by simp only [dropHeldArm]; (repeat' split); all_goals simp
@[simp] theorem dropHeldArm_scr (c : DropCause) : (dropHeldArm c s).scr = s.scr := by simp only [dropHeldArm]; (repeat' split); all_goals simp
@[simp] theorem dropHeldArm_brd (c : DropCause) : (dropHeldArm c s).brd = s.brd := by simp only [dropHeldArm]; (repeat' split); all_goals simp
@[simp] theorem dropHeldArm_diag (c : DropCause) : (dropHeldArm c s).diag = s.diag := by simp only [dropHeldArm]; (repeat' split); all_goals simp
@[simp] theorem dropHeldArm_freeCtr (c : DropCause) : (dropHeldArm c s).freeCtr = s.freeCtr := by simp only [dropHeldArm]; (repeat' split); all_goals simp
@[simp] theorem dropHeldArm_pending (c : DropCause) : (dropHeldArm c s).pending = s.pending := by simp only [dropHeldArm]; (repeat' split); all_goals simp

@[simp] theorem takeHeldArm_prof : (takeHeldArm s).prof = s.prof := by simp only [takeHeldArm]; (repeat' split); all_goals simp
@[simp] theorem takeHeldArm_fld : (takeHeldArm s).fld = s.fld := by simp only [takeHeldArm]; (repeat' split); all_goals simp
@[simp] theorem takeHeldArm_gate : (takeHeldArm s).gate = s.gate := by simp only [takeHeldArm]; (repeat' split); all_goals simp
@[simp] theorem takeHeldArm_wln : (takeHeldArm s).wln = s.wln := by simp only [takeHeldArm]; (repeat' split); all_goals simp
@[simp] theorem takeHeldArm_meas : (takeHeldArm s).meas = s.meas := by simp only [takeHeldArm]; (repeat' split); all_goals simp
@[simp] theorem takeHeldArm_scr : (takeHeldArm s).scr = s.scr := by simp only [takeHeldArm]; (repeat' split); all_goals simp
@[simp] theorem takeHeldArm_freeCtr : (takeHeldArm s).freeCtr = s.freeCtr := by simp only [takeHeldArm]; (repeat' split); all_goals simp
@[simp] theorem takeHeldArm_pending : (takeHeldArm s).pending = s.pending := by simp only [takeHeldArm]; (repeat' split); all_goals simp

@[simp] theorem startMove_prof (k : MoveKind) (a b : Nat) : (startMove k a b s).prof = s.prof := by simp [startMove]
@[simp] theorem startMove_fld (k : MoveKind) (a b : Nat) : (startMove k a b s).fld = s.fld := by simp [startMove]
@[simp] theorem startMove_cst (k : MoveKind) (a b : Nat) : (startMove k a b s).cst = s.cst := by simp [startMove]
@[simp] theorem startMove_stc (k : MoveKind) (a b : Nat) : (startMove k a b s).stc = s.stc := by simp [startMove]
@[simp] theorem startMove_wln (k : MoveKind) (a b : Nat) : (startMove k a b s).wln = s.wln := by simp [startMove]
@[simp] theorem startMove_meas (k : MoveKind) (a b : Nat) : (startMove k a b s).meas = s.meas := by simp [startMove]
@[simp] theorem startMove_scr (k : MoveKind) (a b : Nat) : (startMove k a b s).scr = s.scr := by simp [startMove]
@[simp] theorem startMove_brd (k : MoveKind) (a b : Nat) : (startMove k a b s).brd = s.brd := by simp [startMove]
@[simp] theorem startMove_diag (k : MoveKind) (a b : Nat) : (startMove k a b s).diag = s.diag := by simp [startMove]
@[simp] theorem startMove_freeCtr (k : MoveKind) (a b : Nat) : (startMove k a b s).freeCtr = s.freeCtr := by simp [startMove]
@[simp] theorem startMove_pending (k : MoveKind) (a b : Nat) : (startMove k a b s).pending = s.pending := by simp [startMove]

@[simp] theorem manualMove_prof (k : MoveKind) (a : Nat) : (manualMove k a s).prof = s.prof := by simp [manualMove]
@[simp] theorem manualMove_fld (k : MoveKind) (a : Nat) : (manualMove k a s).fld = s.fld := by simp [manualMove]
@[simp] theorem manualMove_cst (k : MoveKind) (a : Nat) : (manualMove k a s).cst = s.cst := by simp [manualMove]
@[simp] theorem manualMove_stc (k : MoveKind) (a : Nat) : (manualMove k a s).stc = s.stc := by simp [manualMove]
@[simp] theorem manualMove_wln (k : MoveKind) (a : Nat) : (manualMove k a s).wln = s.wln := by simp [manualMove]
@[simp] theorem manualMove_meas (k : MoveKind) (a : Nat) : (manualMove k a s).meas = s.meas := by simp [manualMove]
@[simp] theorem manualMove_scr (k : MoveKind) (a : Nat) : (manualMove k a s).scr = s.scr := by simp [manualMove]
@[simp] theorem manualMove_freeCtr (k : MoveKind) (a : Nat) : (manualMove k a s).freeCtr = s.freeCtr := by simp [manualMove]
@[simp] theorem manualMove_pending (k : MoveKind) (a : Nat) : (manualMove k a s).pending = s.pending := by simp [manualMove]

@[simp] theorem returnInIdle_prof : (returnInIdle s).prof = s.prof := by simp only [returnInIdle]; (repeat' split); all_goals simp
@[simp] theorem returnInIdle_fld : (returnInIdle s).fld = s.fld := by simp only [returnInIdle]; (repeat' split); all_goals simp
@[simp] theorem returnInIdle_cst : (returnInIdle s).cst = s.cst := by simp only [returnInIdle]; (repeat' split); all_goals simp
@[simp] theorem returnInIdle_stc : (returnInIdle s).stc = s.stc := by simp only [returnInIdle]; (repeat' split); all_goals simp
@[simp] theorem returnInIdle_wln : (returnInIdle s).wln = s.wln := by simp only [returnInIdle]; (repeat' split); all_goals simp
@[simp] theorem returnInIdle_meas : (returnInIdle s).meas = s.meas := by simp only [returnInIdle]; (repeat' split); all_goals simp
@[simp] theorem returnInIdle_scr : (returnInIdle s).scr = s.scr := by simp only [returnInIdle]; (repeat' split); all_goals simp
@[simp] theorem returnInIdle_brd : (returnInIdle s).brd = s.brd := by simp only [returnInIdle]; (repeat' split); all_goals simp
@[simp] theorem returnInIdle_diag : (returnInIdle s).diag = s.diag := by simp only [returnInIdle]; (repeat' split); all_goals simp
@[simp] theorem returnInIdle_freeCtr : (returnInIdle s).freeCtr = s.freeCtr := by simp only [returnInIdle]; (repeat' split); all_goals simp
@[simp] theorem returnInIdle_pending : (returnInIdle s).pending = s.pending := by simp only [returnInIdle]; (repeat' split); all_goals simp

@[simp] theorem requestReturn_prof : (requestReturn s).prof = s.prof := by simp only [requestReturn]; (repeat' split); all_goals simp
@[simp] theorem requestReturn_fld : (requestReturn s).fld = s.fld := by simp only [requestReturn]; (repeat' split); all_goals simp
@[simp] theorem requestReturn_cst : (requestReturn s).cst = s.cst := by simp only [requestReturn]; (repeat' split); all_goals simp
@[simp] theorem requestReturn_stc : (requestReturn s).stc = s.stc := by simp only [requestReturn]; (repeat' split); all_goals simp
@[simp] theorem requestReturn_wln : (requestReturn s).wln = s.wln := by simp only [requestReturn]; (repeat' split); all_goals simp
@[simp] theorem requestReturn_meas : (requestReturn s).meas = s.meas := by simp only [requestReturn]; (repeat' split); all_goals simp
@[simp] theorem requestReturn_scr : (requestReturn s).scr = s.scr := by simp only [requestReturn]; (repeat' split); all_goals simp
@[simp] theorem requestReturn_freeCtr : (requestReturn s).freeCtr = s.freeCtr := by simp only [requestReturn]; (repeat' split); all_goals simp
@[simp] theorem requestReturn_pending : (requestReturn s).pending = s.pending := by simp only [requestReturn]; (repeat' split); all_goals simp

@[simp] theorem afterHeadChange_prof : (afterHeadChange s).prof = s.prof := by simp only [afterHeadChange]; (repeat' split); all_goals simp
@[simp] theorem afterHeadChange_fld : (afterHeadChange s).fld = s.fld := by simp only [afterHeadChange]; (repeat' split); all_goals simp
@[simp] theorem afterHeadChange_cst : (afterHeadChange s).cst = s.cst := by simp only [afterHeadChange]; (repeat' split); all_goals simp
@[simp] theorem afterHeadChange_wln : (afterHeadChange s).wln = s.wln := by simp only [afterHeadChange]; (repeat' split); all_goals simp
@[simp] theorem afterHeadChange_meas : (afterHeadChange s).meas = s.meas := by simp only [afterHeadChange]; (repeat' split); all_goals simp
@[simp] theorem afterHeadChange_scr : (afterHeadChange s).scr = s.scr := by simp only [afterHeadChange]; (repeat' split); all_goals simp
@[simp] theorem afterHeadChange_freeCtr : (afterHeadChange s).freeCtr = s.freeCtr := by simp only [afterHeadChange]; (repeat' split); all_goals simp
@[simp] theorem afterHeadChange_pending : (afterHeadChange s).pending = s.pending := by simp only [afterHeadChange]; (repeat' split); all_goals simp

@[simp] theorem enterFault_prof (k : FaultKind) (l : Option Nat) : (enterFault k l s).prof = s.prof := by simp [enterFault]
@[simp] theorem enterFault_fld (k : FaultKind) (l : Option Nat) : (enterFault k l s).fld = s.fld := by simp [enterFault]
@[simp] theorem enterFault_cst (k : FaultKind) (l : Option Nat) : (enterFault k l s).cst = s.cst := by simp [enterFault]
@[simp] theorem enterFault_wln (k : FaultKind) (l : Option Nat) : (enterFault k l s).wln = s.wln := by simp [enterFault]
@[simp] theorem enterFault_meas (k : FaultKind) (l : Option Nat) : (enterFault k l s).meas = s.meas := by simp [enterFault]
@[simp] theorem enterFault_scr (k : FaultKind) (l : Option Nat) : (enterFault k l s).scr = s.scr := by simp [enterFault]
@[simp] theorem enterFault_freeCtr (k : FaultKind) (l : Option Nat) : (enterFault k l s).freeCtr = s.freeCtr := by simp [enterFault]
@[simp] theorem enterFault_pending (k : FaultKind) (l : Option Nat) : (enterFault k l s).pending = s.pending := by simp [enterFault]

end Sys2Proof.Machine
end

