-- ==== Sys2Proof/Laws/FramesScoring.lean ====
section
/-! SUPPORT. Which blocks scoring, voids, measuring and the green leave as they are: one lemma per operation and block. -/

set_option Elab.async false

namespace Sys2Proof.Machine

variable (s : State)

@[simp] theorem announceRanking_prof (b : List (Option (Nat × Option Nat × Nat))) (x : Option Nat) : (announceRanking b x s).prof = s.prof := by simp only [announceRanking]; (repeat' split); all_goals simp
@[simp] theorem announceRanking_fld (b : List (Option (Nat × Option Nat × Nat))) (x : Option Nat) : (announceRanking b x s).fld = s.fld := by simp only [announceRanking]; (repeat' split); all_goals simp
@[simp] theorem announceRanking_cst (b : List (Option (Nat × Option Nat × Nat))) (x : Option Nat) : (announceRanking b x s).cst = s.cst := by simp only [announceRanking]; (repeat' split); all_goals simp
@[simp] theorem announceRanking_stc (b : List (Option (Nat × Option Nat × Nat))) (x : Option Nat) : (announceRanking b x s).stc = s.stc := by simp only [announceRanking]; (repeat' split); all_goals simp
@[simp] theorem announceRanking_gate (b : List (Option (Nat × Option Nat × Nat))) (x : Option Nat) : (announceRanking b x s).gate = s.gate := by simp only [announceRanking]; (repeat' split); all_goals simp
@[simp] theorem announceRanking_wln (b : List (Option (Nat × Option Nat × Nat))) (x : Option Nat) : (announceRanking b x s).wln = s.wln := by simp only [announceRanking]; (repeat' split); all_goals simp
@[simp] theorem announceRanking_meas (b : List (Option (Nat × Option Nat × Nat))) (x : Option Nat) : (announceRanking b x s).meas = s.meas := by simp only [announceRanking]; (repeat' split); all_goals simp
@[simp] theorem announceRanking_scr (b : List (Option (Nat × Option Nat × Nat))) (x : Option Nat) : (announceRanking b x s).scr = s.scr := by simp only [announceRanking]; (repeat' split); all_goals simp
@[simp] theorem announceRanking_freeCtr (b : List (Option (Nat × Option Nat × Nat))) (x : Option Nat) : (announceRanking b x s).freeCtr = s.freeCtr := by simp only [announceRanking]; (repeat' split); all_goals simp
@[simp] theorem announceRanking_pending (b : List (Option (Nat × Option Nat × Nat))) (x : Option Nat) : (announceRanking b x s).pending = s.pending := by simp only [announceRanking]; (repeat' split); all_goals simp

@[simp] theorem reRank_prof (b : Nat) : (reRank b s).prof = s.prof := rfl
@[simp] theorem reRank_fld (b : Nat) : (reRank b s).fld = s.fld := rfl
@[simp] theorem reRank_cst (b : Nat) : (reRank b s).cst = s.cst := rfl
@[simp] theorem reRank_stc (b : Nat) : (reRank b s).stc = s.stc := rfl
@[simp] theorem reRank_gate (b : Nat) : (reRank b s).gate = s.gate := rfl
@[simp] theorem reRank_wln (b : Nat) : (reRank b s).wln = s.wln := rfl
@[simp] theorem reRank_meas (b : Nat) : (reRank b s).meas = s.meas := rfl
@[simp] theorem reRank_brd (b : Nat) : (reRank b s).brd = s.brd := rfl
@[simp] theorem reRank_link (b : Nat) : (reRank b s).link = s.link := rfl
@[simp] theorem reRank_diag (b : Nat) : (reRank b s).diag = s.diag := rfl
@[simp] theorem reRank_freeCtr (b : Nat) : (reRank b s).freeCtr = s.freeCtr := rfl
@[simp] theorem reRank_pending (b : Nat) : (reRank b s).pending = s.pending := rfl

@[simp] theorem notifyComplete_prof (r : Bool) (a : Attempt) (p : Points) : (notifyComplete r a p s).prof = s.prof := by simp [notifyComplete]
@[simp] theorem notifyComplete_fld (r : Bool) (a : Attempt) (p : Points) : (notifyComplete r a p s).fld = s.fld := by simp [notifyComplete]
@[simp] theorem notifyComplete_cst (r : Bool) (a : Attempt) (p : Points) : (notifyComplete r a p s).cst = s.cst := by simp [notifyComplete]
@[simp] theorem notifyComplete_stc (r : Bool) (a : Attempt) (p : Points) : (notifyComplete r a p s).stc = s.stc := by simp [notifyComplete]
@[simp] theorem notifyComplete_gate (r : Bool) (a : Attempt) (p : Points) : (notifyComplete r a p s).gate = s.gate := by simp [notifyComplete]
@[simp] theorem notifyComplete_wln (r : Bool) (a : Attempt) (p : Points) : (notifyComplete r a p s).wln = s.wln := by simp [notifyComplete]
@[simp] theorem notifyComplete_meas (r : Bool) (a : Attempt) (p : Points) : (notifyComplete r a p s).meas = s.meas := by simp [notifyComplete]
@[simp] theorem notifyComplete_scr (r : Bool) (a : Attempt) (p : Points) : (notifyComplete r a p s).scr = s.scr := by simp [notifyComplete]
@[simp] theorem notifyComplete_brd (r : Bool) (a : Attempt) (p : Points) : (notifyComplete r a p s).brd = s.brd := by simp [notifyComplete]
@[simp] theorem notifyComplete_diag (r : Bool) (a : Attempt) (p : Points) : (notifyComplete r a p s).diag = s.diag := by simp [notifyComplete]
@[simp] theorem notifyComplete_freeCtr (r : Bool) (a : Attempt) (p : Points) : (notifyComplete r a p s).freeCtr = s.freeCtr := by simp [notifyComplete]
@[simp] theorem notifyComplete_pending (r : Bool) (a : Attempt) (p : Points) : (notifyComplete r a p s).pending = s.pending := by simp [notifyComplete]

@[simp] theorem completeAttempt_prof (a : Attempt) : (completeAttempt a s).prof = s.prof := by simp [completeAttempt]
@[simp] theorem completeAttempt_fld (a : Attempt) : (completeAttempt a s).fld = s.fld := by simp [completeAttempt]
@[simp] theorem completeAttempt_stc (a : Attempt) : (completeAttempt a s).stc = s.stc := by simp [completeAttempt]
@[simp] theorem completeAttempt_gate (a : Attempt) : (completeAttempt a s).gate = s.gate := by simp [completeAttempt]
@[simp] theorem completeAttempt_wln (a : Attempt) : (completeAttempt a s).wln = s.wln := by simp [completeAttempt]
@[simp] theorem completeAttempt_meas (a : Attempt) : (completeAttempt a s).meas = s.meas := by simp [completeAttempt]
@[simp] theorem completeAttempt_freeCtr (a : Attempt) : (completeAttempt a s).freeCtr = s.freeCtr := by simp [completeAttempt]
@[simp] theorem completeAttempt_pending (a : Attempt) : (completeAttempt a s).pending = s.pending := by simp [completeAttempt]

@[simp] theorem checkCompletion_prof (n : Nat) : (checkCompletion n s).prof = s.prof := by simp only [checkCompletion]; (repeat' split); all_goals simp
@[simp] theorem checkCompletion_fld (n : Nat) : (checkCompletion n s).fld = s.fld := by simp only [checkCompletion]; (repeat' split); all_goals simp
@[simp] theorem checkCompletion_stc (n : Nat) : (checkCompletion n s).stc = s.stc := by simp only [checkCompletion]; (repeat' split); all_goals simp
@[simp] theorem checkCompletion_gate (n : Nat) : (checkCompletion n s).gate = s.gate := by simp only [checkCompletion]; (repeat' split); all_goals simp
@[simp] theorem checkCompletion_wln (n : Nat) : (checkCompletion n s).wln = s.wln := by simp only [checkCompletion]; (repeat' split); all_goals simp
@[simp] theorem checkCompletion_meas (n : Nat) : (checkCompletion n s).meas = s.meas := by simp only [checkCompletion]; (repeat' split); all_goals simp
@[simp] theorem checkCompletion_freeCtr (n : Nat) : (checkCompletion n s).freeCtr = s.freeCtr := by simp only [checkCompletion]; (repeat' split); all_goals simp
@[simp] theorem checkCompletion_pending (n : Nat) : (checkCompletion n s).pending = s.pending := by simp only [checkCompletion]; (repeat' split); all_goals simp

@[simp] theorem recompute_prof (n : Nat) : (recompute n s).prof = s.prof := by simp only [recompute]; (repeat' split); all_goals simp
@[simp] theorem recompute_fld (n : Nat) : (recompute n s).fld = s.fld := by simp only [recompute]; (repeat' split); all_goals simp
@[simp] theorem recompute_stc (n : Nat) : (recompute n s).stc = s.stc := by simp only [recompute]; (repeat' split); all_goals simp
@[simp] theorem recompute_gate (n : Nat) : (recompute n s).gate = s.gate := by simp only [recompute]; (repeat' split); all_goals simp
@[simp] theorem recompute_wln (n : Nat) : (recompute n s).wln = s.wln := by simp only [recompute]; (repeat' split); all_goals simp
@[simp] theorem recompute_meas (n : Nat) : (recompute n s).meas = s.meas := by simp only [recompute]; (repeat' split); all_goals simp
@[simp] theorem recompute_freeCtr (n : Nat) : (recompute n s).freeCtr = s.freeCtr := by simp only [recompute]; (repeat' split); all_goals simp
@[simp] theorem recompute_pending (n : Nat) : (recompute n s).pending = s.pending := by simp only [recompute]; (repeat' split); all_goals simp

@[simp] theorem afterInput_prof (n : Nat) : (afterInput n s).prof = s.prof := by simp only [afterInput]; (repeat' split); all_goals simp
@[simp] theorem afterInput_fld (n : Nat) : (afterInput n s).fld = s.fld := by simp only [afterInput]; (repeat' split); all_goals simp
@[simp] theorem afterInput_stc (n : Nat) : (afterInput n s).stc = s.stc := by simp only [afterInput]; (repeat' split); all_goals simp
@[simp] theorem afterInput_gate (n : Nat) : (afterInput n s).gate = s.gate := by simp only [afterInput]; (repeat' split); all_goals simp
@[simp] theorem afterInput_wln (n : Nat) : (afterInput n s).wln = s.wln := by simp only [afterInput]; (repeat' split); all_goals simp
@[simp] theorem afterInput_meas (n : Nat) : (afterInput n s).meas = s.meas := by simp only [afterInput]; (repeat' split); all_goals simp
@[simp] theorem afterInput_freeCtr (n : Nat) : (afterInput n s).freeCtr = s.freeCtr := by simp only [afterInput]; (repeat' split); all_goals simp
@[simp] theorem afterInput_pending (n : Nat) : (afterInput n s).pending = s.pending := by simp only [afterInput]; (repeat' split); all_goals simp

@[simp] theorem returnToHead_prof (b : Nat) : (returnToHead b s).prof = s.prof := rfl
@[simp] theorem returnToHead_fld (b : Nat) : (returnToHead b s).fld = s.fld := rfl
@[simp] theorem returnToHead_stc (b : Nat) : (returnToHead b s).stc = s.stc := rfl
@[simp] theorem returnToHead_gate (b : Nat) : (returnToHead b s).gate = s.gate := rfl
@[simp] theorem returnToHead_wln (b : Nat) : (returnToHead b s).wln = s.wln := rfl
@[simp] theorem returnToHead_meas (b : Nat) : (returnToHead b s).meas = s.meas := rfl
@[simp] theorem returnToHead_scr (b : Nat) : (returnToHead b s).scr = s.scr := rfl
@[simp] theorem returnToHead_brd (b : Nat) : (returnToHead b s).brd = s.brd := rfl
@[simp] theorem returnToHead_link (b : Nat) : (returnToHead b s).link = s.link := rfl
@[simp] theorem returnToHead_diag (b : Nat) : (returnToHead b s).diag = s.diag := rfl
@[simp] theorem returnToHead_freeCtr (b : Nat) : (returnToHead b s).freeCtr = s.freeCtr := rfl
@[simp] theorem returnToHead_pending (b : Nat) : (returnToHead b s).pending = s.pending := rfl

@[simp] theorem stopMeasuring_prof : (stopMeasuring s).prof = s.prof := rfl
@[simp] theorem stopMeasuring_fld : (stopMeasuring s).fld = s.fld := rfl
@[simp] theorem stopMeasuring_cst : (stopMeasuring s).cst = s.cst := rfl
@[simp] theorem stopMeasuring_stc : (stopMeasuring s).stc = s.stc := rfl
@[simp] theorem stopMeasuring_gate : (stopMeasuring s).gate = s.gate := rfl
@[simp] theorem stopMeasuring_wln : (stopMeasuring s).wln = s.wln := rfl
@[simp] theorem stopMeasuring_scr : (stopMeasuring s).scr = s.scr := rfl
@[simp] theorem stopMeasuring_brd : (stopMeasuring s).brd = s.brd := rfl
@[simp] theorem stopMeasuring_link : (stopMeasuring s).link = s.link := rfl
@[simp] theorem stopMeasuring_diag : (stopMeasuring s).diag = s.diag := rfl
@[simp] theorem stopMeasuring_freeCtr : (stopMeasuring s).freeCtr = s.freeCtr := rfl
@[simp] theorem stopMeasuring_pending : (stopMeasuring s).pending = s.pending := rfl

@[simp] theorem dropWindow_prof : (dropWindow s).prof = s.prof := rfl
@[simp] theorem dropWindow_fld : (dropWindow s).fld = s.fld := rfl
@[simp] theorem dropWindow_cst : (dropWindow s).cst = s.cst := rfl
@[simp] theorem dropWindow_stc : (dropWindow s).stc = s.stc := rfl
@[simp] theorem dropWindow_gate : (dropWindow s).gate = s.gate := rfl
@[simp] theorem dropWindow_meas : (dropWindow s).meas = s.meas := rfl
@[simp] theorem dropWindow_scr : (dropWindow s).scr = s.scr := rfl
@[simp] theorem dropWindow_brd : (dropWindow s).brd = s.brd := rfl
@[simp] theorem dropWindow_link : (dropWindow s).link = s.link := rfl
@[simp] theorem dropWindow_diag : (dropWindow s).diag = s.diag := rfl
@[simp] theorem dropWindow_freeCtr : (dropWindow s).freeCtr = s.freeCtr := rfl
@[simp] theorem dropWindow_pending : (dropWindow s).pending = s.pending := rfl

@[simp] theorem coachReturn_prof (a : Attempt) : (coachReturn a s).prof = s.prof := by simp only [coachReturn]; (repeat' split); all_goals simp
@[simp] theorem coachReturn_fld (a : Attempt) : (coachReturn a s).fld = s.fld := by simp only [coachReturn]; (repeat' split); all_goals simp
@[simp] theorem coachReturn_cst (a : Attempt) : (coachReturn a s).cst = s.cst := by simp only [coachReturn]; (repeat' split); all_goals simp
@[simp] theorem coachReturn_stc (a : Attempt) : (coachReturn a s).stc = s.stc := by simp only [coachReturn]; (repeat' split); all_goals simp
@[simp] theorem coachReturn_wln (a : Attempt) : (coachReturn a s).wln = s.wln := by simp only [coachReturn]; (repeat' split); all_goals simp
@[simp] theorem coachReturn_meas (a : Attempt) : (coachReturn a s).meas = s.meas := by simp only [coachReturn]; (repeat' split); all_goals simp
@[simp] theorem coachReturn_scr (a : Attempt) : (coachReturn a s).scr = s.scr := by simp only [coachReturn]; (repeat' split); all_goals simp
@[simp] theorem coachReturn_freeCtr (a : Attempt) : (coachReturn a s).freeCtr = s.freeCtr := by simp only [coachReturn]; (repeat' split); all_goals simp
@[simp] theorem coachReturn_pending (a : Attempt) : (coachReturn a s).pending = s.pending := by simp only [coachReturn]; (repeat' split); all_goals simp

@[simp] theorem endTrap_prof (n : Nat) : (endTrap n s).prof = s.prof := by simp only [endTrap]; (repeat' split); all_goals simp
@[simp] theorem endTrap_fld (n : Nat) : (endTrap n s).fld = s.fld := by simp only [endTrap]; (repeat' split); all_goals simp
@[simp] theorem endTrap_stc (n : Nat) : (endTrap n s).stc = s.stc := by simp only [endTrap]; (repeat' split); all_goals simp
@[simp] theorem endTrap_gate (n : Nat) : (endTrap n s).gate = s.gate := by simp only [endTrap]; (repeat' split); all_goals simp
@[simp] theorem endTrap_wln (n : Nat) : (endTrap n s).wln = s.wln := by simp only [endTrap]; (repeat' split); all_goals simp
@[simp] theorem endTrap_scr (n : Nat) : (endTrap n s).scr = s.scr := by simp only [endTrap]; (repeat' split); all_goals simp
@[simp] theorem endTrap_brd (n : Nat) : (endTrap n s).brd = s.brd := by simp only [endTrap]; (repeat' split); all_goals simp
@[simp] theorem endTrap_link (n : Nat) : (endTrap n s).link = s.link := by simp only [endTrap]; (repeat' split); all_goals simp
@[simp] theorem endTrap_diag (n : Nat) : (endTrap n s).diag = s.diag := by simp only [endTrap]; (repeat' split); all_goals simp
@[simp] theorem endTrap_freeCtr (n : Nat) : (endTrap n s).freeCtr = s.freeCtr := by simp only [endTrap]; (repeat' split); all_goals simp
@[simp] theorem endTrap_pending (n : Nat) : (endTrap n s).pending = s.pending := by simp only [endTrap]; (repeat' split); all_goals simp

@[simp] theorem closeWindow_prof (n : Nat) : (closeWindow n s).prof = s.prof := by simp only [closeWindow]; (repeat' split); all_goals simp
@[simp] theorem closeWindow_fld (n : Nat) : (closeWindow n s).fld = s.fld := by simp only [closeWindow]; (repeat' split); all_goals simp
@[simp] theorem closeWindow_stc (n : Nat) : (closeWindow n s).stc = s.stc := by simp only [closeWindow]; (repeat' split); all_goals simp
@[simp] theorem closeWindow_gate (n : Nat) : (closeWindow n s).gate = s.gate := by simp only [closeWindow]; (repeat' split); all_goals simp
@[simp] theorem closeWindow_meas (n : Nat) : (closeWindow n s).meas = s.meas := by simp only [closeWindow]; (repeat' split); all_goals simp
@[simp] theorem closeWindow_freeCtr (n : Nat) : (closeWindow n s).freeCtr = s.freeCtr := by simp only [closeWindow]; (repeat' split); all_goals simp
@[simp] theorem closeWindow_pending (n : Nat) : (closeWindow n s).pending = s.pending := by simp only [closeWindow]; (repeat' split); all_goals simp

@[simp] theorem reportFaults_prof (n : Nat) (c : EndCause) : (reportFaults n c s).prof = s.prof := by simp only [reportFaults]; (repeat' split); all_goals simp
@[simp] theorem reportFaults_fld (n : Nat) (c : EndCause) : (reportFaults n c s).fld = s.fld := by simp only [reportFaults]; (repeat' split); all_goals simp
@[simp] theorem reportFaults_cst (n : Nat) (c : EndCause) : (reportFaults n c s).cst = s.cst := by simp only [reportFaults]; (repeat' split); all_goals simp
@[simp] theorem reportFaults_stc (n : Nat) (c : EndCause) : (reportFaults n c s).stc = s.stc := by simp only [reportFaults]; (repeat' split); all_goals simp
@[simp] theorem reportFaults_gate (n : Nat) (c : EndCause) : (reportFaults n c s).gate = s.gate := by simp only [reportFaults]; (repeat' split); all_goals simp
@[simp] theorem reportFaults_wln (n : Nat) (c : EndCause) : (reportFaults n c s).wln = s.wln := by simp only [reportFaults]; (repeat' split); all_goals simp
@[simp] theorem reportFaults_meas (n : Nat) (c : EndCause) : (reportFaults n c s).meas = s.meas := by simp only [reportFaults]; (repeat' split); all_goals simp
@[simp] theorem reportFaults_scr (n : Nat) (c : EndCause) : (reportFaults n c s).scr = s.scr := by simp only [reportFaults]; (repeat' split); all_goals simp
@[simp] theorem reportFaults_brd (n : Nat) (c : EndCause) : (reportFaults n c s).brd = s.brd := by simp only [reportFaults]; (repeat' split); all_goals simp
@[simp] theorem reportFaults_diag (n : Nat) (c : EndCause) : (reportFaults n c s).diag = s.diag := by simp only [reportFaults]; (repeat' split); all_goals simp
@[simp] theorem reportFaults_freeCtr (n : Nat) (c : EndCause) : (reportFaults n c s).freeCtr = s.freeCtr := by simp only [reportFaults]; (repeat' split); all_goals simp
@[simp] theorem reportFaults_pending (n : Nat) (c : EndCause) : (reportFaults n c s).pending = s.pending := by simp only [reportFaults]; (repeat' split); all_goals simp

@[simp] theorem leaveHill_prof (a : Attempt) (c : EndCause) : (leaveHill a c s).prof = s.prof := by simp [leaveHill]
@[simp] theorem leaveHill_fld (a : Attempt) (c : EndCause) : (leaveHill a c s).fld = s.fld := by simp [leaveHill]
@[simp] theorem leaveHill_stc (a : Attempt) (c : EndCause) : (leaveHill a c s).stc = s.stc := by simp [leaveHill]
@[simp] theorem leaveHill_freeCtr (a : Attempt) (c : EndCause) : (leaveHill a c s).freeCtr = s.freeCtr := by simp [leaveHill]
@[simp] theorem leaveHill_pending (a : Attempt) (c : EndCause) : (leaveHill a c s).pending = s.pending := by simp [leaveHill]

@[simp] theorem stopWait_prof (n : Nat) : (stopWait n s).prof = s.prof := rfl
@[simp] theorem stopWait_fld (n : Nat) : (stopWait n s).fld = s.fld := rfl
@[simp] theorem stopWait_cst (n : Nat) : (stopWait n s).cst = s.cst := rfl
@[simp] theorem stopWait_stc (n : Nat) : (stopWait n s).stc = s.stc := rfl
@[simp] theorem stopWait_gate (n : Nat) : (stopWait n s).gate = s.gate := rfl
@[simp] theorem stopWait_wln (n : Nat) : (stopWait n s).wln = s.wln := rfl
@[simp] theorem stopWait_scr (n : Nat) : (stopWait n s).scr = s.scr := rfl
@[simp] theorem stopWait_brd (n : Nat) : (stopWait n s).brd = s.brd := rfl
@[simp] theorem stopWait_link (n : Nat) : (stopWait n s).link = s.link := rfl
@[simp] theorem stopWait_diag (n : Nat) : (stopWait n s).diag = s.diag := rfl
@[simp] theorem stopWait_freeCtr (n : Nat) : (stopWait n s).freeCtr = s.freeCtr := rfl
@[simp] theorem stopWait_pending (n : Nat) : (stopWait n s).pending = s.pending := rfl

@[simp] theorem announceDistance_prof (n : Nat) (x y : Option Nat) : (announceDistance n x y s).prof = s.prof := by simp only [announceDistance]; (repeat' split); all_goals simp
@[simp] theorem announceDistance_fld (n : Nat) (x y : Option Nat) : (announceDistance n x y s).fld = s.fld := by simp only [announceDistance]; (repeat' split); all_goals simp
@[simp] theorem announceDistance_cst (n : Nat) (x y : Option Nat) : (announceDistance n x y s).cst = s.cst := by simp only [announceDistance]; (repeat' split); all_goals simp
@[simp] theorem announceDistance_stc (n : Nat) (x y : Option Nat) : (announceDistance n x y s).stc = s.stc := by simp only [announceDistance]; (repeat' split); all_goals simp
@[simp] theorem announceDistance_gate (n : Nat) (x y : Option Nat) : (announceDistance n x y s).gate = s.gate := by simp only [announceDistance]; (repeat' split); all_goals simp
@[simp] theorem announceDistance_wln (n : Nat) (x y : Option Nat) : (announceDistance n x y s).wln = s.wln := by simp only [announceDistance]; (repeat' split); all_goals simp
@[simp] theorem announceDistance_meas (n : Nat) (x y : Option Nat) : (announceDistance n x y s).meas = s.meas := by simp only [announceDistance]; (repeat' split); all_goals simp
@[simp] theorem announceDistance_scr (n : Nat) (x y : Option Nat) : (announceDistance n x y s).scr = s.scr := by simp only [announceDistance]; (repeat' split); all_goals simp
@[simp] theorem announceDistance_freeCtr (n : Nat) (x y : Option Nat) : (announceDistance n x y s).freeCtr = s.freeCtr := by simp only [announceDistance]; (repeat' split); all_goals simp
@[simp] theorem announceDistance_pending (n : Nat) (x y : Option Nat) : (announceDistance n x y s).pending = s.pending := by simp only [announceDistance]; (repeat' split); all_goals simp

@[simp] theorem followWait_prof (n : Nat) (x y : DistanceStatus) : (followWait n x y s).prof = s.prof := by simp only [followWait]; (repeat' split); all_goals simp
@[simp] theorem followWait_fld (n : Nat) (x y : DistanceStatus) : (followWait n x y s).fld = s.fld := by simp only [followWait]; (repeat' split); all_goals simp
@[simp] theorem followWait_cst (n : Nat) (x y : DistanceStatus) : (followWait n x y s).cst = s.cst := by simp only [followWait]; (repeat' split); all_goals simp
@[simp] theorem followWait_stc (n : Nat) (x y : DistanceStatus) : (followWait n x y s).stc = s.stc := by simp only [followWait]; (repeat' split); all_goals simp
@[simp] theorem followWait_gate (n : Nat) (x y : DistanceStatus) : (followWait n x y s).gate = s.gate := by simp only [followWait]; (repeat' split); all_goals simp
@[simp] theorem followWait_wln (n : Nat) (x y : DistanceStatus) : (followWait n x y s).wln = s.wln := by simp only [followWait]; (repeat' split); all_goals simp
@[simp] theorem followWait_scr (n : Nat) (x y : DistanceStatus) : (followWait n x y s).scr = s.scr := by simp only [followWait]; (repeat' split); all_goals simp
@[simp] theorem followWait_brd (n : Nat) (x y : DistanceStatus) : (followWait n x y s).brd = s.brd := by simp only [followWait]; (repeat' split); all_goals simp
@[simp] theorem followWait_link (n : Nat) (x y : DistanceStatus) : (followWait n x y s).link = s.link := by simp only [followWait]; (repeat' split); all_goals simp
@[simp] theorem followWait_diag (n : Nat) (x y : DistanceStatus) : (followWait n x y s).diag = s.diag := by simp only [followWait]; (repeat' split); all_goals simp
@[simp] theorem followWait_freeCtr (n : Nat) (x y : DistanceStatus) : (followWait n x y s).freeCtr = s.freeCtr := by simp only [followWait]; (repeat' split); all_goals simp
@[simp] theorem followWait_pending (n : Nat) (x y : DistanceStatus) : (followWait n x y s).pending = s.pending := by simp only [followWait]; (repeat' split); all_goals simp

@[simp] theorem reportHeld_prof (a : Attempt) : (reportHeld a s).prof = s.prof := by simp [reportHeld]
@[simp] theorem reportHeld_fld (a : Attempt) : (reportHeld a s).fld = s.fld := by simp [reportHeld]
@[simp] theorem reportHeld_stc (a : Attempt) : (reportHeld a s).stc = s.stc := by simp [reportHeld]
@[simp] theorem reportHeld_gate (a : Attempt) : (reportHeld a s).gate = s.gate := by simp [reportHeld]
@[simp] theorem reportHeld_wln (a : Attempt) : (reportHeld a s).wln = s.wln := by simp [reportHeld]
@[simp] theorem reportHeld_meas (a : Attempt) : (reportHeld a s).meas = s.meas := by simp [reportHeld]
@[simp] theorem reportHeld_scr (a : Attempt) : (reportHeld a s).scr = s.scr := by simp [reportHeld]
@[simp] theorem reportHeld_brd (a : Attempt) : (reportHeld a s).brd = s.brd := by simp [reportHeld]
@[simp] theorem reportHeld_diag (a : Attempt) : (reportHeld a s).diag = s.diag := by simp [reportHeld]
@[simp] theorem reportHeld_freeCtr (a : Attempt) : (reportHeld a s).freeCtr = s.freeCtr := by simp [reportHeld]
@[simp] theorem reportHeld_pending (a : Attempt) : (reportHeld a s).pending = s.pending := by simp [reportHeld]

@[simp] theorem resolve_prof (n : Nat) : (resolve n s).prof = s.prof := by simp only [resolve]; (repeat' split); all_goals simp
@[simp] theorem resolve_fld (n : Nat) : (resolve n s).fld = s.fld := by simp only [resolve]; (repeat' split); all_goals simp
@[simp] theorem resolve_stc (n : Nat) : (resolve n s).stc = s.stc := by simp only [resolve]; (repeat' split); all_goals simp
@[simp] theorem resolve_gate (n : Nat) : (resolve n s).gate = s.gate := by simp only [resolve]; (repeat' split); all_goals simp
@[simp] theorem resolve_wln (n : Nat) : (resolve n s).wln = s.wln := by simp only [resolve]; (repeat' split); all_goals simp
@[simp] theorem resolve_freeCtr (n : Nat) : (resolve n s).freeCtr = s.freeCtr := by simp only [resolve]; (repeat' split); all_goals simp
@[simp] theorem resolve_pending (n : Nat) : (resolve n s).pending = s.pending := by simp only [resolve]; (repeat' split); all_goals simp

@[simp] theorem settleSingle_prof (n : Nat) : (settleSingle n s).prof = s.prof := by simp only [settleSingle]; (repeat' split); all_goals simp
@[simp] theorem settleSingle_fld (n : Nat) : (settleSingle n s).fld = s.fld := by simp only [settleSingle]; (repeat' split); all_goals simp
@[simp] theorem settleSingle_stc (n : Nat) : (settleSingle n s).stc = s.stc := by simp only [settleSingle]; (repeat' split); all_goals simp
@[simp] theorem settleSingle_gate (n : Nat) : (settleSingle n s).gate = s.gate := by simp only [settleSingle]; (repeat' split); all_goals simp
@[simp] theorem settleSingle_wln (n : Nat) : (settleSingle n s).wln = s.wln := by simp only [settleSingle]; (repeat' split); all_goals simp
@[simp] theorem settleSingle_freeCtr (n : Nat) : (settleSingle n s).freeCtr = s.freeCtr := by simp only [settleSingle]; (repeat' split); all_goals simp
@[simp] theorem settleSingle_pending (n : Nat) : (settleSingle n s).pending = s.pending := by simp only [settleSingle]; (repeat' split); all_goals simp

@[simp] theorem storeMark_prof (c : Console) (n r e : Nat) : (storeMark c n r e s).prof = s.prof := by simp only [storeMark]; (repeat' split); all_goals simp
@[simp] theorem storeMark_fld (c : Console) (n r e : Nat) : (storeMark c n r e s).fld = s.fld := by simp only [storeMark]; (repeat' split); all_goals simp
@[simp] theorem storeMark_stc (c : Console) (n r e : Nat) : (storeMark c n r e s).stc = s.stc := by simp only [storeMark]; (repeat' split); all_goals simp
@[simp] theorem storeMark_gate (c : Console) (n r e : Nat) : (storeMark c n r e s).gate = s.gate := by simp only [storeMark]; (repeat' split); all_goals simp
@[simp] theorem storeMark_wln (c : Console) (n r e : Nat) : (storeMark c n r e s).wln = s.wln := by simp only [storeMark]; (repeat' split); all_goals simp
@[simp] theorem storeMark_meas (c : Console) (n r e : Nat) : (storeMark c n r e s).meas = s.meas := by simp only [storeMark]; (repeat' split); all_goals simp
@[simp] theorem storeMark_scr (c : Console) (n r e : Nat) : (storeMark c n r e s).scr = s.scr := by simp only [storeMark]; (repeat' split); all_goals simp
@[simp] theorem storeMark_brd (c : Console) (n r e : Nat) : (storeMark c n r e s).brd = s.brd := by simp only [storeMark]; (repeat' split); all_goals simp
@[simp] theorem storeMark_link (c : Console) (n r e : Nat) : (storeMark c n r e s).link = s.link := by simp only [storeMark]; (repeat' split); all_goals simp
@[simp] theorem storeMark_diag (c : Console) (n r e : Nat) : (storeMark c n r e s).diag = s.diag := by simp only [storeMark]; (repeat' split); all_goals simp
@[simp] theorem storeMark_freeCtr (c : Console) (n r e : Nat) : (storeMark c n r e s).freeCtr = s.freeCtr := by simp only [storeMark]; (repeat' split); all_goals simp
@[simp] theorem storeMark_pending (c : Console) (n r e : Nat) : (storeMark c n r e s).pending = s.pending := by simp only [storeMark]; (repeat' split); all_goals simp

@[simp] theorem faultOnHill_prof (f : DeferredFault) : (faultOnHill f s).prof = s.prof := by simp only [faultOnHill]; (repeat' split); all_goals simp
@[simp] theorem faultOnHill_fld (f : DeferredFault) : (faultOnHill f s).fld = s.fld := by simp only [faultOnHill]; (repeat' split); all_goals simp
@[simp] theorem faultOnHill_stc (f : DeferredFault) : (faultOnHill f s).stc = s.stc := by simp only [faultOnHill]; (repeat' split); all_goals simp
@[simp] theorem faultOnHill_gate (f : DeferredFault) : (faultOnHill f s).gate = s.gate := by simp only [faultOnHill]; (repeat' split); all_goals simp
@[simp] theorem faultOnHill_wln (f : DeferredFault) : (faultOnHill f s).wln = s.wln := by simp only [faultOnHill]; (repeat' split); all_goals simp
@[simp] theorem faultOnHill_meas (f : DeferredFault) : (faultOnHill f s).meas = s.meas := by simp only [faultOnHill]; (repeat' split); all_goals simp
@[simp] theorem faultOnHill_scr (f : DeferredFault) : (faultOnHill f s).scr = s.scr := by simp only [faultOnHill]; (repeat' split); all_goals simp
@[simp] theorem faultOnHill_brd (f : DeferredFault) : (faultOnHill f s).brd = s.brd := by simp only [faultOnHill]; (repeat' split); all_goals simp
@[simp] theorem faultOnHill_link (f : DeferredFault) : (faultOnHill f s).link = s.link := by simp only [faultOnHill]; (repeat' split); all_goals simp
@[simp] theorem faultOnHill_diag (f : DeferredFault) : (faultOnHill f s).diag = s.diag := by simp only [faultOnHill]; (repeat' split); all_goals simp
@[simp] theorem faultOnHill_freeCtr (f : DeferredFault) : (faultOnHill f s).freeCtr = s.freeCtr := by simp only [faultOnHill]; (repeat' split); all_goals simp
@[simp] theorem faultOnHill_pending (f : DeferredFault) : (faultOnHill f s).pending = s.pending := by simp only [faultOnHill]; (repeat' split); all_goals simp

@[simp] theorem copyGates_prof (n : Nat) : (copyGates n s).prof = s.prof := by simp [copyGates]
@[simp] theorem copyGates_fld (n : Nat) : (copyGates n s).fld = s.fld := by simp [copyGates]
@[simp] theorem copyGates_stc (n : Nat) : (copyGates n s).stc = s.stc := by simp [copyGates]
@[simp] theorem copyGates_wln (n : Nat) : (copyGates n s).wln = s.wln := by simp [copyGates]
@[simp] theorem copyGates_meas (n : Nat) : (copyGates n s).meas = s.meas := by simp [copyGates]
@[simp] theorem copyGates_scr (n : Nat) : (copyGates n s).scr = s.scr := by simp [copyGates]
@[simp] theorem copyGates_brd (n : Nat) : (copyGates n s).brd = s.brd := by simp [copyGates]
@[simp] theorem copyGates_link (n : Nat) : (copyGates n s).link = s.link := by simp [copyGates]
@[simp] theorem copyGates_diag (n : Nat) : (copyGates n s).diag = s.diag := by simp [copyGates]
@[simp] theorem copyGates_freeCtr (n : Nat) : (copyGates n s).freeCtr = s.freeCtr := by simp [copyGates]
@[simp] theorem copyGates_pending (n : Nat) : (copyGates n s).pending = s.pending := by simp [copyGates]

@[simp] theorem giveGreen_prof (a : Attempt) : (giveGreen a s).prof = s.prof := by simp [giveGreen]
@[simp] theorem giveGreen_fld (a : Attempt) : (giveGreen a s).fld = s.fld := by simp [giveGreen]
@[simp] theorem giveGreen_wln (a : Attempt) : (giveGreen a s).wln = s.wln := by simp [giveGreen]
@[simp] theorem giveGreen_meas (a : Attempt) : (giveGreen a s).meas = s.meas := by simp [giveGreen]
@[simp] theorem giveGreen_scr (a : Attempt) : (giveGreen a s).scr = s.scr := by simp [giveGreen]
@[simp] theorem giveGreen_freeCtr (a : Attempt) : (giveGreen a s).freeCtr = s.freeCtr := by simp [giveGreen]
@[simp] theorem giveGreen_pending (a : Attempt) : (giveGreen a s).pending = s.pending := by simp [giveGreen]

@[simp] theorem withholdGreen_prof (a : Attempt) : (withholdGreen a s).prof = s.prof := by simp only [withholdGreen]; (repeat' split); all_goals simp
@[simp] theorem withholdGreen_fld (a : Attempt) : (withholdGreen a s).fld = s.fld := by simp only [withholdGreen]; (repeat' split); all_goals simp
@[simp] theorem withholdGreen_cst (a : Attempt) : (withholdGreen a s).cst = s.cst := by simp only [withholdGreen]; (repeat' split); all_goals simp
@[simp] theorem withholdGreen_gate (a : Attempt) : (withholdGreen a s).gate = s.gate := by simp only [withholdGreen]; (repeat' split); all_goals simp
@[simp] theorem withholdGreen_wln (a : Attempt) : (withholdGreen a s).wln = s.wln := by simp only [withholdGreen]; (repeat' split); all_goals simp
@[simp] theorem withholdGreen_meas (a : Attempt) : (withholdGreen a s).meas = s.meas := by simp only [withholdGreen]; (repeat' split); all_goals simp
@[simp] theorem withholdGreen_scr (a : Attempt) : (withholdGreen a s).scr = s.scr := by simp only [withholdGreen]; (repeat' split); all_goals simp
@[simp] theorem withholdGreen_brd (a : Attempt) : (withholdGreen a s).brd = s.brd := by simp only [withholdGreen]; (repeat' split); all_goals simp
@[simp] theorem withholdGreen_freeCtr (a : Attempt) : (withholdGreen a s).freeCtr = s.freeCtr := by simp only [withholdGreen]; (repeat' split); all_goals simp
@[simp] theorem withholdGreen_pending (a : Attempt) : (withholdGreen a s).pending = s.pending := by simp only [withholdGreen]; (repeat' split); all_goals simp

@[simp] theorem judgeClear_prof : (judgeClear s).prof = s.prof := by simp only [judgeClear]; (repeat' split); all_goals simp
@[simp] theorem judgeClear_fld : (judgeClear s).fld = s.fld := by simp only [judgeClear]; (repeat' split); all_goals simp
@[simp] theorem judgeClear_wln : (judgeClear s).wln = s.wln := by simp only [judgeClear]; (repeat' split); all_goals simp
@[simp] theorem judgeClear_meas : (judgeClear s).meas = s.meas := by simp only [judgeClear]; (repeat' split); all_goals simp
@[simp] theorem judgeClear_scr : (judgeClear s).scr = s.scr := by simp only [judgeClear]; (repeat' split); all_goals simp
@[simp] theorem judgeClear_freeCtr : (judgeClear s).freeCtr = s.freeCtr := by simp only [judgeClear]; (repeat' split); all_goals simp
@[simp] theorem judgeClear_pending : (judgeClear s).pending = s.pending := by simp only [judgeClear]; (repeat' split); all_goals simp

end Sys2Proof.Machine
end

