-- ==== Sys2Proof/Laws/FramesWind.lean ====
section
/-! SUPPORT. Which blocks the wind line leave as they are: one lemma per operation and block. -/

set_option Elab.async false

namespace Sys2Proof.Machine

variable (s : State)

@[simp] theorem noise_prof : (noise s).prof = s.prof := by simp [noise]
@[simp] theorem noise_fld : (noise s).fld = s.fld := by simp [noise]
@[simp] theorem noise_cst : (noise s).cst = s.cst := by simp [noise]
@[simp] theorem noise_stc : (noise s).stc = s.stc := by simp [noise]
@[simp] theorem noise_gate : (noise s).gate = s.gate := by simp [noise]
@[simp] theorem noise_meas : (noise s).meas = s.meas := by simp [noise]
@[simp] theorem noise_scr : (noise s).scr = s.scr := by simp [noise]
@[simp] theorem noise_brd : (noise s).brd = s.brd := by simp [noise]
@[simp] theorem noise_freeCtr : (noise s).freeCtr = s.freeCtr := by simp [noise]
@[simp] theorem noise_pending : (noise s).pending = s.pending := by simp [noise]

@[simp] theorem setStation_prof (k : Nat) (f : Station → Station) : (setStation k f s).prof = s.prof := rfl
@[simp] theorem setStation_fld (k : Nat) (f : Station → Station) : (setStation k f s).fld = s.fld := rfl
@[simp] theorem setStation_cst (k : Nat) (f : Station → Station) : (setStation k f s).cst = s.cst := rfl
@[simp] theorem setStation_stc (k : Nat) (f : Station → Station) : (setStation k f s).stc = s.stc := rfl
@[simp] theorem setStation_gate (k : Nat) (f : Station → Station) : (setStation k f s).gate = s.gate := rfl
@[simp] theorem setStation_meas (k : Nat) (f : Station → Station) : (setStation k f s).meas = s.meas := rfl
@[simp] theorem setStation_scr (k : Nat) (f : Station → Station) : (setStation k f s).scr = s.scr := rfl
@[simp] theorem setStation_brd (k : Nat) (f : Station → Station) : (setStation k f s).brd = s.brd := rfl
@[simp] theorem setStation_link (k : Nat) (f : Station → Station) : (setStation k f s).link = s.link := rfl
@[simp] theorem setStation_diag (k : Nat) (f : Station → Station) : (setStation k f s).diag = s.diag := rfl
@[simp] theorem setStation_freeCtr (k : Nat) (f : Station → Station) : (setStation k f s).freeCtr = s.freeCtr := rfl
@[simp] theorem setStation_pending (k : Nat) (f : Station → Station) : (setStation k f s).pending = s.pending := rfl

@[simp] theorem stationLost_prof (k : Nat) : (stationLost k s).prof = s.prof := by simp only [stationLost]; (repeat' split); all_goals simp
@[simp] theorem stationLost_fld (k : Nat) : (stationLost k s).fld = s.fld := by simp only [stationLost]; (repeat' split); all_goals simp
@[simp] theorem stationLost_stc (k : Nat) : (stationLost k s).stc = s.stc := by simp only [stationLost]; (repeat' split); all_goals simp
@[simp] theorem stationLost_gate (k : Nat) : (stationLost k s).gate = s.gate := by simp only [stationLost]; (repeat' split); all_goals simp
@[simp] theorem stationLost_wln (k : Nat) : (stationLost k s).wln = s.wln := by simp only [stationLost]; (repeat' split); all_goals simp
@[simp] theorem stationLost_meas (k : Nat) : (stationLost k s).meas = s.meas := by simp only [stationLost]; (repeat' split); all_goals simp
@[simp] theorem stationLost_scr (k : Nat) : (stationLost k s).scr = s.scr := by simp only [stationLost]; (repeat' split); all_goals simp
@[simp] theorem stationLost_brd (k : Nat) : (stationLost k s).brd = s.brd := by simp only [stationLost]; (repeat' split); all_goals simp
@[simp] theorem stationLost_link (k : Nat) : (stationLost k s).link = s.link := by simp only [stationLost]; (repeat' split); all_goals simp
@[simp] theorem stationLost_diag (k : Nat) : (stationLost k s).diag = s.diag := by simp only [stationLost]; (repeat' split); all_goals simp
@[simp] theorem stationLost_freeCtr (k : Nat) : (stationLost k s).freeCtr = s.freeCtr := by simp only [stationLost]; (repeat' split); all_goals simp
@[simp] theorem stationLost_pending (k : Nat) : (stationLost k s).pending = s.pending := by simp only [stationLost]; (repeat' split); all_goals simp

@[simp] theorem moveStation_prof (k : Nat) (x : StationState) : (moveStation k x s).prof = s.prof := by simp only [moveStation]; (repeat' split); all_goals simp
@[simp] theorem moveStation_fld (k : Nat) (x : StationState) : (moveStation k x s).fld = s.fld := by simp only [moveStation]; (repeat' split); all_goals simp
@[simp] theorem moveStation_stc (k : Nat) (x : StationState) : (moveStation k x s).stc = s.stc := by simp only [moveStation]; (repeat' split); all_goals simp
@[simp] theorem moveStation_gate (k : Nat) (x : StationState) : (moveStation k x s).gate = s.gate := by simp only [moveStation]; (repeat' split); all_goals simp
@[simp] theorem moveStation_meas (k : Nat) (x : StationState) : (moveStation k x s).meas = s.meas := by simp only [moveStation]; (repeat' split); all_goals simp
@[simp] theorem moveStation_scr (k : Nat) (x : StationState) : (moveStation k x s).scr = s.scr := by simp only [moveStation]; (repeat' split); all_goals simp
@[simp] theorem moveStation_brd (k : Nat) (x : StationState) : (moveStation k x s).brd = s.brd := by simp only [moveStation]; (repeat' split); all_goals simp
@[simp] theorem moveStation_diag (k : Nat) (x : StationState) : (moveStation k x s).diag = s.diag := by simp only [moveStation]; (repeat' split); all_goals simp
@[simp] theorem moveStation_freeCtr (k : Nat) (x : StationState) : (moveStation k x s).freeCtr = s.freeCtr := by simp only [moveStation]; (repeat' split); all_goals simp
@[simp] theorem moveStation_pending (k : Nat) (x : StationState) : (moveStation k x s).pending = s.pending := by simp only [moveStation]; (repeat' split); all_goals simp

@[simp] theorem enterTurnaround_prof : (enterTurnaround s).prof = s.prof := rfl
@[simp] theorem enterTurnaround_fld : (enterTurnaround s).fld = s.fld := rfl
@[simp] theorem enterTurnaround_cst : (enterTurnaround s).cst = s.cst := rfl
@[simp] theorem enterTurnaround_stc : (enterTurnaround s).stc = s.stc := rfl
@[simp] theorem enterTurnaround_gate : (enterTurnaround s).gate = s.gate := rfl
@[simp] theorem enterTurnaround_meas : (enterTurnaround s).meas = s.meas := rfl
@[simp] theorem enterTurnaround_scr : (enterTurnaround s).scr = s.scr := rfl
@[simp] theorem enterTurnaround_brd : (enterTurnaround s).brd = s.brd := rfl
@[simp] theorem enterTurnaround_link : (enterTurnaround s).link = s.link := rfl
@[simp] theorem enterTurnaround_diag : (enterTurnaround s).diag = s.diag := rfl
@[simp] theorem enterTurnaround_freeCtr : (enterTurnaround s).freeCtr = s.freeCtr := rfl
@[simp] theorem enterTurnaround_pending : (enterTurnaround s).pending = s.pending := rfl

@[simp] theorem beginExchange_prof (k : Nat) : (beginExchange k s).prof = s.prof := by simp only [beginExchange]; (repeat' split); all_goals simp
@[simp] theorem beginExchange_fld (k : Nat) : (beginExchange k s).fld = s.fld := by simp only [beginExchange]; (repeat' split); all_goals simp
@[simp] theorem beginExchange_cst (k : Nat) : (beginExchange k s).cst = s.cst := by simp only [beginExchange]; (repeat' split); all_goals simp
@[simp] theorem beginExchange_stc (k : Nat) : (beginExchange k s).stc = s.stc := by simp only [beginExchange]; (repeat' split); all_goals simp
@[simp] theorem beginExchange_gate (k : Nat) : (beginExchange k s).gate = s.gate := by simp only [beginExchange]; (repeat' split); all_goals simp
@[simp] theorem beginExchange_meas (k : Nat) : (beginExchange k s).meas = s.meas := by simp only [beginExchange]; (repeat' split); all_goals simp
@[simp] theorem beginExchange_scr (k : Nat) : (beginExchange k s).scr = s.scr := by simp only [beginExchange]; (repeat' split); all_goals simp
@[simp] theorem beginExchange_brd (k : Nat) : (beginExchange k s).brd = s.brd := by simp only [beginExchange]; (repeat' split); all_goals simp
@[simp] theorem beginExchange_link (k : Nat) : (beginExchange k s).link = s.link := by simp only [beginExchange]; (repeat' split); all_goals simp
@[simp] theorem beginExchange_diag (k : Nat) : (beginExchange k s).diag = s.diag := by simp only [beginExchange]; (repeat' split); all_goals simp
@[simp] theorem beginExchange_freeCtr (k : Nat) : (beginExchange k s).freeCtr = s.freeCtr := by simp only [beginExchange]; (repeat' split); all_goals simp
@[simp] theorem beginExchange_pending (k : Nat) : (beginExchange k s).pending = s.pending := by simp only [beginExchange]; (repeat' split); all_goals simp

@[simp] theorem storeMeans_prof : (storeMeans s).prof = s.prof := rfl
@[simp] theorem storeMeans_fld : (storeMeans s).fld = s.fld := rfl
@[simp] theorem storeMeans_cst : (storeMeans s).cst = s.cst := rfl
@[simp] theorem storeMeans_stc : (storeMeans s).stc = s.stc := rfl
@[simp] theorem storeMeans_gate : (storeMeans s).gate = s.gate := rfl
@[simp] theorem storeMeans_meas : (storeMeans s).meas = s.meas := rfl
@[simp] theorem storeMeans_scr : (storeMeans s).scr = s.scr := rfl
@[simp] theorem storeMeans_brd : (storeMeans s).brd = s.brd := rfl
@[simp] theorem storeMeans_link : (storeMeans s).link = s.link := rfl
@[simp] theorem storeMeans_diag : (storeMeans s).diag = s.diag := rfl
@[simp] theorem storeMeans_freeCtr : (storeMeans s).freeCtr = s.freeCtr := rfl
@[simp] theorem storeMeans_pending : (storeMeans s).pending = s.pending := rfl

@[simp] theorem appendSample_prof : (appendSample s).prof = s.prof := by simp only [appendSample]; (repeat' split); all_goals simp
@[simp] theorem appendSample_fld : (appendSample s).fld = s.fld := by simp only [appendSample]; (repeat' split); all_goals simp
@[simp] theorem appendSample_stc : (appendSample s).stc = s.stc := by simp only [appendSample]; (repeat' split); all_goals simp
@[simp] theorem appendSample_gate : (appendSample s).gate = s.gate := by simp only [appendSample]; (repeat' split); all_goals simp
@[simp] theorem appendSample_meas : (appendSample s).meas = s.meas := by simp only [appendSample]; (repeat' split); all_goals simp
@[simp] theorem appendSample_scr : (appendSample s).scr = s.scr := by simp only [appendSample]; (repeat' split); all_goals simp
@[simp] theorem appendSample_brd : (appendSample s).brd = s.brd := by simp only [appendSample]; (repeat' split); all_goals simp
@[simp] theorem appendSample_link : (appendSample s).link = s.link := by simp only [appendSample]; (repeat' split); all_goals simp
@[simp] theorem appendSample_diag : (appendSample s).diag = s.diag := by simp only [appendSample]; (repeat' split); all_goals simp
@[simp] theorem appendSample_freeCtr : (appendSample s).freeCtr = s.freeCtr := by simp only [appendSample]; (repeat' split); all_goals simp
@[simp] theorem appendSample_pending : (appendSample s).pending = s.pending := by simp only [appendSample]; (repeat' split); all_goals simp

@[simp] theorem windChange_prof : (windChange s).prof = s.prof := by simp only [windChange]; (repeat' split); all_goals simp
@[simp] theorem windChange_fld : (windChange s).fld = s.fld := by simp only [windChange]; (repeat' split); all_goals simp
@[simp] theorem windChange_cst : (windChange s).cst = s.cst := by simp only [windChange]; (repeat' split); all_goals simp
@[simp] theorem windChange_stc : (windChange s).stc = s.stc := by simp only [windChange]; (repeat' split); all_goals simp
@[simp] theorem windChange_gate : (windChange s).gate = s.gate := by simp only [windChange]; (repeat' split); all_goals simp
@[simp] theorem windChange_meas : (windChange s).meas = s.meas := by simp only [windChange]; (repeat' split); all_goals simp
@[simp] theorem windChange_scr : (windChange s).scr = s.scr := by simp only [windChange]; (repeat' split); all_goals simp
@[simp] theorem windChange_freeCtr : (windChange s).freeCtr = s.freeCtr := by simp only [windChange]; (repeat' split); all_goals simp
@[simp] theorem windChange_pending : (windChange s).pending = s.pending := by simp only [windChange]; (repeat' split); all_goals simp

@[simp] theorem cycleEndWork_prof : (cycleEndWork s).prof = s.prof := by simp only [cycleEndWork]; (repeat' split); all_goals simp
@[simp] theorem cycleEndWork_fld : (cycleEndWork s).fld = s.fld := by simp only [cycleEndWork]; (repeat' split); all_goals simp
@[simp] theorem cycleEndWork_meas : (cycleEndWork s).meas = s.meas := by simp only [cycleEndWork]; (repeat' split); all_goals simp
@[simp] theorem cycleEndWork_scr : (cycleEndWork s).scr = s.scr := by simp only [cycleEndWork]; (repeat' split); all_goals simp
@[simp] theorem cycleEndWork_freeCtr : (cycleEndWork s).freeCtr = s.freeCtr := by simp only [cycleEndWork]; (repeat' split); all_goals simp
@[simp] theorem cycleEndWork_pending : (cycleEndWork s).pending = s.pending := by simp only [cycleEndWork]; (repeat' split); all_goals simp

@[simp] theorem endCycle_prof : (endCycle s).prof = s.prof := by simp only [endCycle]; (repeat' split); all_goals simp
@[simp] theorem endCycle_fld : (endCycle s).fld = s.fld := by simp only [endCycle]; (repeat' split); all_goals simp
@[simp] theorem endCycle_meas : (endCycle s).meas = s.meas := by simp only [endCycle]; (repeat' split); all_goals simp
@[simp] theorem endCycle_scr : (endCycle s).scr = s.scr := by simp only [endCycle]; (repeat' split); all_goals simp
@[simp] theorem endCycle_freeCtr : (endCycle s).freeCtr = s.freeCtr := by simp only [endCycle]; (repeat' split); all_goals simp
@[simp] theorem endCycle_pending : (endCycle s).pending = s.pending := by simp only [endCycle]; (repeat' split); all_goals simp

@[simp] theorem runSlots_prof : (runSlots s).prof = s.prof := by simp only [runSlots]; (repeat' split); all_goals simp
@[simp] theorem runSlots_fld : (runSlots s).fld = s.fld := by simp only [runSlots]; (repeat' split); all_goals simp
@[simp] theorem runSlots_meas : (runSlots s).meas = s.meas := by simp only [runSlots]; (repeat' split); all_goals simp
@[simp] theorem runSlots_scr : (runSlots s).scr = s.scr := by simp only [runSlots]; (repeat' split); all_goals simp
@[simp] theorem runSlots_freeCtr : (runSlots s).freeCtr = s.freeCtr := by simp only [runSlots]; (repeat' split); all_goals simp
@[simp] theorem runSlots_pending : (runSlots s).pending = s.pending := by simp only [runSlots]; (repeat' split); all_goals simp

@[simp] theorem beginCycle_prof (n : Nat) : (beginCycle n s).prof = s.prof := by simp [beginCycle]
@[simp] theorem beginCycle_fld (n : Nat) : (beginCycle n s).fld = s.fld := by simp [beginCycle]
@[simp] theorem beginCycle_meas (n : Nat) : (beginCycle n s).meas = s.meas := by simp [beginCycle]
@[simp] theorem beginCycle_scr (n : Nat) : (beginCycle n s).scr = s.scr := by simp [beginCycle]
@[simp] theorem beginCycle_freeCtr (n : Nat) : (beginCycle n s).freeCtr = s.freeCtr := by simp [beginCycle]
@[simp] theorem beginCycle_pending (n : Nat) : (beginCycle n s).pending = s.pending := by simp [beginCycle]

@[simp] theorem nextCycle_prof : (nextCycle s).prof = s.prof := by simp [nextCycle]
@[simp] theorem nextCycle_fld : (nextCycle s).fld = s.fld := by simp [nextCycle]
@[simp] theorem nextCycle_meas : (nextCycle s).meas = s.meas := by simp [nextCycle]
@[simp] theorem nextCycle_scr : (nextCycle s).scr = s.scr := by simp [nextCycle]
@[simp] theorem nextCycle_freeCtr : (nextCycle s).freeCtr = s.freeCtr := by simp [nextCycle]
@[simp] theorem nextCycle_pending : (nextCycle s).pending = s.pending := by simp [nextCycle]

@[simp] theorem cycleMoment_prof : (cycleMoment s).prof = s.prof := by simp only [cycleMoment]; (repeat' split); all_goals simp
@[simp] theorem cycleMoment_fld : (cycleMoment s).fld = s.fld := by simp only [cycleMoment]; (repeat' split); all_goals simp
@[simp] theorem cycleMoment_meas : (cycleMoment s).meas = s.meas := by simp only [cycleMoment]; (repeat' split); all_goals simp
@[simp] theorem cycleMoment_scr : (cycleMoment s).scr = s.scr := by simp only [cycleMoment]; (repeat' split); all_goals simp
@[simp] theorem cycleMoment_freeCtr : (cycleMoment s).freeCtr = s.freeCtr := by simp only [cycleMoment]; (repeat' split); all_goals simp
@[simp] theorem cycleMoment_pending : (cycleMoment s).pending = s.pending := by simp only [cycleMoment]; (repeat' split); all_goals simp

@[simp] theorem followOn_prof : (followOn s).prof = s.prof := by simp only [followOn]; (repeat' split); all_goals simp
@[simp] theorem followOn_fld : (followOn s).fld = s.fld := by simp only [followOn]; (repeat' split); all_goals simp
@[simp] theorem followOn_meas : (followOn s).meas = s.meas := by simp only [followOn]; (repeat' split); all_goals simp
@[simp] theorem followOn_scr : (followOn s).scr = s.scr := by simp only [followOn]; (repeat' split); all_goals simp
@[simp] theorem followOn_freeCtr : (followOn s).freeCtr = s.freeCtr := by simp only [followOn]; (repeat' split); all_goals simp
@[simp] theorem followOn_pending : (followOn s).pending = s.pending := by simp only [followOn]; (repeat' split); all_goals simp

@[simp] theorem continueCycle_prof : (continueCycle s).prof = s.prof := by simp [continueCycle]
@[simp] theorem continueCycle_fld : (continueCycle s).fld = s.fld := by simp [continueCycle]
@[simp] theorem continueCycle_meas : (continueCycle s).meas = s.meas := by simp [continueCycle]
@[simp] theorem continueCycle_scr : (continueCycle s).scr = s.scr := by simp [continueCycle]
@[simp] theorem continueCycle_freeCtr : (continueCycle s).freeCtr = s.freeCtr := by simp [continueCycle]
@[simp] theorem continueCycle_pending : (continueCycle s).pending = s.pending := by simp [continueCycle]

@[simp] theorem pollable_prof : (pollable s).prof = s.prof := by simp only [pollable]; (repeat' split); all_goals simp
@[simp] theorem pollable_fld : (pollable s).fld = s.fld := by simp only [pollable]; (repeat' split); all_goals simp
@[simp] theorem pollable_meas : (pollable s).meas = s.meas := by simp only [pollable]; (repeat' split); all_goals simp
@[simp] theorem pollable_scr : (pollable s).scr = s.scr := by simp only [pollable]; (repeat' split); all_goals simp
@[simp] theorem pollable_freeCtr : (pollable s).freeCtr = s.freeCtr := by simp only [pollable]; (repeat' split); all_goals simp
@[simp] theorem pollable_pending : (pollable s).pending = s.pending := by simp only [pollable]; (repeat' split); all_goals simp

@[simp] theorem movePolarity_prof (a : Answer) : (movePolarity a s).prof = s.prof := by simp only [movePolarity]; (repeat' split); all_goals simp
@[simp] theorem movePolarity_fld (a : Answer) : (movePolarity a s).fld = s.fld := by simp only [movePolarity]; (repeat' split); all_goals simp
@[simp] theorem movePolarity_cst (a : Answer) : (movePolarity a s).cst = s.cst := by simp only [movePolarity]; (repeat' split); all_goals simp
@[simp] theorem movePolarity_stc (a : Answer) : (movePolarity a s).stc = s.stc := by simp only [movePolarity]; (repeat' split); all_goals simp
@[simp] theorem movePolarity_gate (a : Answer) : (movePolarity a s).gate = s.gate := by simp only [movePolarity]; (repeat' split); all_goals simp
@[simp] theorem movePolarity_meas (a : Answer) : (movePolarity a s).meas = s.meas := by simp only [movePolarity]; (repeat' split); all_goals simp
@[simp] theorem movePolarity_scr (a : Answer) : (movePolarity a s).scr = s.scr := by simp only [movePolarity]; (repeat' split); all_goals simp
@[simp] theorem movePolarity_brd (a : Answer) : (movePolarity a s).brd = s.brd := by simp only [movePolarity]; (repeat' split); all_goals simp
@[simp] theorem movePolarity_diag (a : Answer) : (movePolarity a s).diag = s.diag := by simp only [movePolarity]; (repeat' split); all_goals simp
@[simp] theorem movePolarity_freeCtr (a : Answer) : (movePolarity a s).freeCtr = s.freeCtr := by simp only [movePolarity]; (repeat' split); all_goals simp
@[simp] theorem movePolarity_pending (a : Answer) : (movePolarity a s).pending = s.pending := by simp only [movePolarity]; (repeat' split); all_goals simp

@[simp] theorem afterFailure_prof (k : Nat) : (afterFailure k s).prof = s.prof := by simp only [afterFailure]; (repeat' split); all_goals simp
@[simp] theorem afterFailure_fld (k : Nat) : (afterFailure k s).fld = s.fld := by simp only [afterFailure]; (repeat' split); all_goals simp
@[simp] theorem afterFailure_stc (k : Nat) : (afterFailure k s).stc = s.stc := by simp only [afterFailure]; (repeat' split); all_goals simp
@[simp] theorem afterFailure_gate (k : Nat) : (afterFailure k s).gate = s.gate := by simp only [afterFailure]; (repeat' split); all_goals simp
@[simp] theorem afterFailure_meas (k : Nat) : (afterFailure k s).meas = s.meas := by simp only [afterFailure]; (repeat' split); all_goals simp
@[simp] theorem afterFailure_scr (k : Nat) : (afterFailure k s).scr = s.scr := by simp only [afterFailure]; (repeat' split); all_goals simp
@[simp] theorem afterFailure_brd (k : Nat) : (afterFailure k s).brd = s.brd := by simp only [afterFailure]; (repeat' split); all_goals simp
@[simp] theorem afterFailure_diag (k : Nat) : (afterFailure k s).diag = s.diag := by simp only [afterFailure]; (repeat' split); all_goals simp
@[simp] theorem afterFailure_freeCtr (k : Nat) : (afterFailure k s).freeCtr = s.freeCtr := by simp only [afterFailure]; (repeat' split); all_goals simp
@[simp] theorem afterFailure_pending (k : Nat) : (afterFailure k s).pending = s.pending := by simp only [afterFailure]; (repeat' split); all_goals simp

@[simp] theorem applyAnswer_prof (k : Nat) (a : Answer) : (applyAnswer k a s).prof = s.prof := by simp only [applyAnswer]; (repeat' split); all_goals simp
@[simp] theorem applyAnswer_fld (k : Nat) (a : Answer) : (applyAnswer k a s).fld = s.fld := by simp only [applyAnswer]; (repeat' split); all_goals simp
@[simp] theorem applyAnswer_stc (k : Nat) (a : Answer) : (applyAnswer k a s).stc = s.stc := by simp only [applyAnswer]; (repeat' split); all_goals simp
@[simp] theorem applyAnswer_gate (k : Nat) (a : Answer) : (applyAnswer k a s).gate = s.gate := by simp only [applyAnswer]; (repeat' split); all_goals simp
@[simp] theorem applyAnswer_meas (k : Nat) (a : Answer) : (applyAnswer k a s).meas = s.meas := by simp only [applyAnswer]; (repeat' split); all_goals simp
@[simp] theorem applyAnswer_scr (k : Nat) (a : Answer) : (applyAnswer k a s).scr = s.scr := by simp only [applyAnswer]; (repeat' split); all_goals simp
@[simp] theorem applyAnswer_brd (k : Nat) (a : Answer) : (applyAnswer k a s).brd = s.brd := by simp only [applyAnswer]; (repeat' split); all_goals simp
@[simp] theorem applyAnswer_freeCtr (k : Nat) (a : Answer) : (applyAnswer k a s).freeCtr = s.freeCtr := by simp only [applyAnswer]; (repeat' split); all_goals simp
@[simp] theorem applyAnswer_pending (k : Nat) (a : Answer) : (applyAnswer k a s).pending = s.pending := by simp only [applyAnswer]; (repeat' split); all_goals simp

@[simp] theorem takeAnswer_prof (a : Answer) : (takeAnswer a s).prof = s.prof := by simp only [takeAnswer]; (repeat' split); all_goals simp
@[simp] theorem takeAnswer_fld (a : Answer) : (takeAnswer a s).fld = s.fld := by simp only [takeAnswer]; (repeat' split); all_goals simp
@[simp] theorem takeAnswer_stc (a : Answer) : (takeAnswer a s).stc = s.stc := by simp only [takeAnswer]; (repeat' split); all_goals simp
@[simp] theorem takeAnswer_gate (a : Answer) : (takeAnswer a s).gate = s.gate := by simp only [takeAnswer]; (repeat' split); all_goals simp
@[simp] theorem takeAnswer_meas (a : Answer) : (takeAnswer a s).meas = s.meas := by simp only [takeAnswer]; (repeat' split); all_goals simp
@[simp] theorem takeAnswer_scr (a : Answer) : (takeAnswer a s).scr = s.scr := by simp only [takeAnswer]; (repeat' split); all_goals simp
@[simp] theorem takeAnswer_brd (a : Answer) : (takeAnswer a s).brd = s.brd := by simp only [takeAnswer]; (repeat' split); all_goals simp
@[simp] theorem takeAnswer_freeCtr (a : Answer) : (takeAnswer a s).freeCtr = s.freeCtr := by simp only [takeAnswer]; (repeat' split); all_goals simp
@[simp] theorem takeAnswer_pending (a : Answer) : (takeAnswer a s).pending = s.pending := by simp only [takeAnswer]; (repeat' split); all_goals simp

@[simp] theorem contend_prof : (contend s).prof = s.prof := by simp only [contend]; (repeat' split); all_goals simp
@[simp] theorem contend_fld : (contend s).fld = s.fld := by simp only [contend]; (repeat' split); all_goals simp
@[simp] theorem contend_cst : (contend s).cst = s.cst := by simp only [contend]; (repeat' split); all_goals simp
@[simp] theorem contend_stc : (contend s).stc = s.stc := by simp only [contend]; (repeat' split); all_goals simp
@[simp] theorem contend_gate : (contend s).gate = s.gate := by simp only [contend]; (repeat' split); all_goals simp
@[simp] theorem contend_meas : (contend s).meas = s.meas := by simp only [contend]; (repeat' split); all_goals simp
@[simp] theorem contend_scr : (contend s).scr = s.scr := by simp only [contend]; (repeat' split); all_goals simp
@[simp] theorem contend_brd : (contend s).brd = s.brd := by simp only [contend]; (repeat' split); all_goals simp
@[simp] theorem contend_link : (contend s).link = s.link := by simp only [contend]; (repeat' split); all_goals simp
@[simp] theorem contend_freeCtr : (contend s).freeCtr = s.freeCtr := by simp only [contend]; (repeat' split); all_goals simp
@[simp] theorem contend_pending : (contend s).pending = s.pending := by simp only [contend]; (repeat' split); all_goals simp

@[simp] theorem beginMeasurement_prof : (beginMeasurement s).prof = s.prof := rfl
@[simp] theorem beginMeasurement_fld : (beginMeasurement s).fld = s.fld := rfl
@[simp] theorem beginMeasurement_cst : (beginMeasurement s).cst = s.cst := rfl
@[simp] theorem beginMeasurement_stc : (beginMeasurement s).stc = s.stc := rfl
@[simp] theorem beginMeasurement_gate : (beginMeasurement s).gate = s.gate := rfl
@[simp] theorem beginMeasurement_meas : (beginMeasurement s).meas = s.meas := rfl
@[simp] theorem beginMeasurement_scr : (beginMeasurement s).scr = s.scr := rfl
@[simp] theorem beginMeasurement_brd : (beginMeasurement s).brd = s.brd := rfl
@[simp] theorem beginMeasurement_link : (beginMeasurement s).link = s.link := rfl
@[simp] theorem beginMeasurement_diag : (beginMeasurement s).diag = s.diag := rfl
@[simp] theorem beginMeasurement_freeCtr : (beginMeasurement s).freeCtr = s.freeCtr := rfl
@[simp] theorem beginMeasurement_pending : (beginMeasurement s).pending = s.pending := rfl

@[simp] theorem closeExchange_prof : (closeExchange s).prof = s.prof := rfl
@[simp] theorem closeExchange_fld : (closeExchange s).fld = s.fld := rfl
@[simp] theorem closeExchange_cst : (closeExchange s).cst = s.cst := rfl
@[simp] theorem closeExchange_stc : (closeExchange s).stc = s.stc := rfl
@[simp] theorem closeExchange_gate : (closeExchange s).gate = s.gate := rfl
@[simp] theorem closeExchange_meas : (closeExchange s).meas = s.meas := rfl
@[simp] theorem closeExchange_scr : (closeExchange s).scr = s.scr := rfl
@[simp] theorem closeExchange_brd : (closeExchange s).brd = s.brd := rfl
@[simp] theorem closeExchange_link : (closeExchange s).link = s.link := rfl
@[simp] theorem closeExchange_diag : (closeExchange s).diag = s.diag := rfl
@[simp] theorem closeExchange_freeCtr : (closeExchange s).freeCtr = s.freeCtr := rfl
@[simp] theorem closeExchange_pending : (closeExchange s).pending = s.pending := rfl

@[simp] theorem afterExchange_prof : (afterExchange s).prof = s.prof := by simp only [afterExchange]; (repeat' split); all_goals simp
@[simp] theorem afterExchange_fld : (afterExchange s).fld = s.fld := by simp only [afterExchange]; (repeat' split); all_goals simp
@[simp] theorem afterExchange_meas : (afterExchange s).meas = s.meas := by simp only [afterExchange]; (repeat' split); all_goals simp
@[simp] theorem afterExchange_scr : (afterExchange s).scr = s.scr := by simp only [afterExchange]; (repeat' split); all_goals simp
@[simp] theorem afterExchange_freeCtr : (afterExchange s).freeCtr = s.freeCtr := by simp only [afterExchange]; (repeat' split); all_goals simp
@[simp] theorem afterExchange_pending : (afterExchange s).pending = s.pending := by simp only [afterExchange]; (repeat' split); all_goals simp

@[simp] theorem endExchange_prof (a : Answer) : (endExchange a s).prof = s.prof := by simp [endExchange]
@[simp] theorem endExchange_fld (a : Answer) : (endExchange a s).fld = s.fld := by simp [endExchange]
@[simp] theorem endExchange_meas (a : Answer) : (endExchange a s).meas = s.meas := by simp [endExchange]
@[simp] theorem endExchange_scr (a : Answer) : (endExchange a s).scr = s.scr := by simp [endExchange]
@[simp] theorem endExchange_freeCtr (a : Answer) : (endExchange a s).freeCtr = s.freeCtr := by simp [endExchange]
@[simp] theorem endExchange_pending (a : Answer) : (endExchange a s).pending = s.pending := by simp [endExchange]

@[simp] theorem closeReply_prof : (closeReply s).prof = s.prof := by simp [closeReply]
@[simp] theorem closeReply_fld : (closeReply s).fld = s.fld := by simp [closeReply]
@[simp] theorem closeReply_meas : (closeReply s).meas = s.meas := by simp [closeReply]
@[simp] theorem closeReply_scr : (closeReply s).scr = s.scr := by simp [closeReply]
@[simp] theorem closeReply_freeCtr : (closeReply s).freeCtr = s.freeCtr := by simp [closeReply]
@[simp] theorem closeReply_pending : (closeReply s).pending = s.pending := by simp [closeReply]

/-! Characters on the wind line (R73, R76), and what SET LINES leaves of the wind line (R7, R16). -/

@[simp] theorem polarized_false (x : RxChar) : polarized false x = x := rfl
@[simp] theorem polarized_true (x : RxChar) : polarized true x = { byte := ~~~x.byte, framing := !x.framing } := rfl
@[simp] theorem polarized_polarized (b : Bool) (x : RxChar) : polarized b (polarized b x) = x := by
  cases b <;> simp [polarized]

theorem followTxen_kept {old new : List Assignment} (w : Wln) (h : placeOf old .windTxen = placeOf new .windTxen) :
    followTxen old new w = w := if_pos h
theorem followTxen_moved {old new : List Assignment} (w : Wln) (h : placeOf old .windTxen ≠ placeOf new .windTxen) :
    followTxen old new w = { w with txen := false, txenMoved := true } := if_neg h

@[simp] theorem beginReply_prof (cs : List RxChar) : (beginReply cs s).prof = s.prof := rfl
@[simp] theorem beginReply_cst (cs : List RxChar) : (beginReply cs s).cst = s.cst := rfl
@[simp] theorem beginReply_meas (cs : List RxChar) : (beginReply cs s).meas = s.meas := rfl
@[simp] theorem beginReply_scr (cs : List RxChar) : (beginReply cs s).scr = s.scr := rfl
@[simp] theorem beginReply_freeCtr (cs : List RxChar) : (beginReply cs s).freeCtr = s.freeCtr := rfl
@[simp] theorem beginReply_pending (cs : List RxChar) : (beginReply cs s).pending = s.pending := rfl

@[simp] theorem resumePolling_prof : (resumePolling s).prof = s.prof := by simp only [resumePolling]; (repeat' split); all_goals simp
@[simp] theorem resumePolling_meas : (resumePolling s).meas = s.meas := by simp only [resumePolling]; (repeat' split); all_goals simp
@[simp] theorem resumePolling_scr : (resumePolling s).scr = s.scr := by simp only [resumePolling]; (repeat' split); all_goals simp
@[simp] theorem resumePolling_pending : (resumePolling s).pending = s.pending := by simp only [resumePolling]; (repeat' split); all_goals simp

@[simp] theorem endTest_prof (r : TestResult) (d : Option Nat) (n : Nat) : (endTest r d n s).prof = s.prof := by simp [endTest]
@[simp] theorem endTest_meas (r : TestResult) (d : Option Nat) (n : Nat) : (endTest r d n s).meas = s.meas := by simp [endTest]
@[simp] theorem endTest_scr (r : TestResult) (d : Option Nat) (n : Nat) : (endTest r d n s).scr = s.scr := by simp [endTest]
@[simp] theorem endTest_pending (r : TestResult) (d : Option Nat) (n : Nat) : (endTest r d n s).pending = s.pending := by simp [endTest]

@[simp] theorem endInNoise_prof : (endInNoise s).prof = s.prof := by simp [endInNoise]
@[simp] theorem endInNoise_meas : (endInNoise s).meas = s.meas := by simp [endInNoise]
@[simp] theorem endInNoise_scr : (endInNoise s).scr = s.scr := by simp [endInNoise]
@[simp] theorem endInNoise_pending : (endInNoise s).pending = s.pending := by simp [endInNoise]

@[simp] theorem noiseTaken_prof : (noiseTaken s).prof = s.prof := by simp only [noiseTaken]; (repeat' split); all_goals simp
@[simp] theorem noiseTaken_meas : (noiseTaken s).meas = s.meas := by simp only [noiseTaken]; (repeat' split); all_goals simp
@[simp] theorem noiseTaken_scr : (noiseTaken s).scr = s.scr := by simp only [noiseTaken]; (repeat' split); all_goals simp
@[simp] theorem noiseTaken_pending : (noiseTaken s).pending = s.pending := by simp only [noiseTaken]; (repeat' split); all_goals simp

@[simp] theorem joinReply_prof (x : RxChar) : (joinReply x s).prof = s.prof := by simp only [joinReply]; (repeat' split); all_goals simp
@[simp] theorem joinReply_meas (x : RxChar) : (joinReply x s).meas = s.meas := by simp only [joinReply]; (repeat' split); all_goals simp
@[simp] theorem joinReply_scr (x : RxChar) : (joinReply x s).scr = s.scr := by simp only [joinReply]; (repeat' split); all_goals simp
@[simp] theorem joinReply_pending (x : RxChar) : (joinReply x s).pending = s.pending := by simp only [joinReply]; (repeat' split); all_goals simp

@[simp] theorem heardCharacter_prof (x : RxChar) : (heardCharacter x s).prof = s.prof := by simp only [heardCharacter]; (repeat' split); all_goals simp
@[simp] theorem heardCharacter_meas (x : RxChar) : (heardCharacter x s).meas = s.meas := by simp only [heardCharacter]; (repeat' split); all_goals simp
@[simp] theorem heardCharacter_scr (x : RxChar) : (heardCharacter x s).scr = s.scr := by simp only [heardCharacter]; (repeat' split); all_goals simp
@[simp] theorem heardCharacter_pending (x : RxChar) : (heardCharacter x s).pending = s.pending := by simp only [heardCharacter]; (repeat' split); all_goals simp

@[simp] theorem takenCharacter_prof (x : RxChar) : (takenCharacter x s).prof = s.prof := by simp only [takenCharacter]; (repeat' split); all_goals simp
@[simp] theorem takenCharacter_meas (x : RxChar) : (takenCharacter x s).meas = s.meas := by simp only [takenCharacter]; (repeat' split); all_goals simp
@[simp] theorem takenCharacter_scr (x : RxChar) : (takenCharacter x s).scr = s.scr := by simp only [takenCharacter]; (repeat' split); all_goals simp
@[simp] theorem takenCharacter_pending (x : RxChar) : (takenCharacter x s).pending = s.pending := by simp only [takenCharacter]; (repeat' split); all_goals simp

@[simp] theorem windCharacter_prof (x : RxChar) : (windCharacter x s).prof = s.prof := by simp only [windCharacter]; (repeat' split); all_goals simp
@[simp] theorem windCharacter_meas (x : RxChar) : (windCharacter x s).meas = s.meas := by simp only [windCharacter]; (repeat' split); all_goals simp
@[simp] theorem windCharacter_scr (x : RxChar) : (windCharacter x s).scr = s.scr := by simp only [windCharacter]; (repeat' split); all_goals simp
@[simp] theorem windCharacter_pending (x : RxChar) : (windCharacter x s).pending = s.pending := by simp only [windCharacter]; (repeat' split); all_goals simp

end Sys2Proof.Machine
end

