-- ==== Sys2Proof/Laws/Cores.lean ====
section
/-! SUPPORT. What the shared operations leave of LINK, BRD and DIAG besides notices, queue items and counts. -/

set_option Elab.async false
set_option linter.unnecessarySeqFocus false
set_option linter.unusedTactic false

namespace Sys2Proof.Machine

/-- LINK without its notice queue, sequence number and overrun flag: what a notice leaves alone. -/
def Link.core (l : Link) : Link := { l with notices := [], seq := 0, overrun := false }

/-- BRD without its queue and subjects: what an enqueue leaves alone. -/
def Brd.core (b : Brd) : Brd := { b with queue := [], subjects := noSubjects }

/-- A counter without its value. -/
def Counter.core (c : Counter) : Counter := { c with value := 0 }

/-- DIAG without the values of its counters: what a counted event leaves alone. -/
def Diag.core (d : Diag) : Diag := { d with counter0 := d.counter0.core, counter1 := d.counter1.core }

@[simp] theorem queueNotice_core (b : NoticeBody) (l : Link) : (queueNotice b l).core = l.core := by
  unfold queueNotice; split <;> (try split) <;> rfl

@[simp] theorem Counter.step_core (c : Counter) (k : CounterKind) (o : Bool) : (c.step k o).1.core = c.core := by
  unfold Counter.step; split <;> (try split) <;> rfl

variable (s : State)

@[simp] theorem notify_link_core (b : NoticeBody) : (notify b s).link.core = s.link.core := by simp [notify]
@[simp] theorem count_link_core (k : CounterKind) : (count k s).link.core = s.link.core := by simp only [count]; (repeat' split) <;> simp [notify]
@[simp] theorem count_diag_core (k : CounterKind) : (count k s).diag.core = s.diag.core := by simp only [count]; (repeat' split) <;> simp [Diag.core, notify]
@[simp] theorem notifyState_link_core (n r b : Nat) (o : Option AttemptState) (x : AttemptState) : (notifyState n r b o x s).link.core = s.link.core := by simp only [notifyState]; (repeat' split) <;> simp
@[simp] theorem enqueueWith_link_core (k : Key) (b : Bool) : (enqueueWith k b s).link.core = s.link.core := by simp only [enqueueWith]; (repeat' split) <;> simp
@[simp] theorem enqueueWith_brd_core (k : Key) (b : Bool) : (enqueueWith k b s).brd.core = s.brd.core := by simp only [enqueueWith]; split <;> simp [Brd.core]
@[simp] theorem enqueueWith_diag_core (k : Key) (b : Bool) : (enqueueWith k b s).diag.core = s.diag.core := by simp only [enqueueWith]; (repeat' split) <;> simp
@[simp] theorem enqueue_link_core (k : Key) : (enqueue k s).link.core = s.link.core := by simp only [enqueue]; (repeat' split) <;> simp
@[simp] theorem enqueue_brd_core (k : Key) : (enqueue k s).brd.core = s.brd.core := by simp only [enqueue]; (repeat' split) <;> simp
@[simp] theorem enqueue_diag_core (k : Key) : (enqueue k s).diag.core = s.diag.core := by simp only [enqueue]; (repeat' split) <;> simp
@[simp] theorem enqueueSubject_link_core (f : BoardField) (n : Nat) : (enqueueSubject f n s).link.core = s.link.core := by simp only [enqueueSubject]; (repeat' split) <;> simp
@[simp] theorem enqueueSubject_brd_core (f : BoardField) (n : Nat) : (enqueueSubject f n s).brd.core = s.brd.core := by simp only [enqueueSubject, enqueue_brd_core]; cases f <;> rfl
@[simp] theorem enqueueSubject_diag_core (f : BoardField) (n : Nat) : (enqueueSubject f n s).diag.core = s.diag.core := by simp only [enqueueSubject]; (repeat' split) <;> simp
@[simp] theorem enqueueAll_link_core (ks : List Key) (b : Bool) : (enqueueAll ks b s).link.core = s.link.core := by
  induction ks generalizing s with
  | nil => rfl
  | cons k r ih => simp only [enqueueAll, List.foldl_cons] at ih ⊢; rw [ih]; simp
@[simp] theorem enqueueAll_brd_core (ks : List Key) (b : Bool) : (enqueueAll ks b s).brd.core = s.brd.core := by
  induction ks generalizing s with
  | nil => rfl
  | cons k r ih => simp only [enqueueAll, List.foldl_cons] at ih ⊢; rw [ih]; simp
@[simp] theorem enqueueAll_diag_core (ks : List Key) (b : Bool) : (enqueueAll ks b s).diag.core = s.diag.core := by
  induction ks generalizing s with
  | nil => rfl
  | cons k r ih => simp only [enqueueAll, List.foldl_cons] at ih ⊢; rw [ih]; simp
@[simp] theorem setLight_link_core (l : Light) : (setLight l s).link.core = s.link.core := by simp only [setLight]; (repeat' split) <;> simp
@[simp] theorem setLight_brd_core (l : Light) : (setLight l s).brd.core = s.brd.core := by simp only [setLight]; (repeat' split) <;> simp
@[simp] theorem setLight_diag_core (l : Light) : (setLight l s).diag.core = s.diag.core := by simp only [setLight]; (repeat' split) <;> simp
@[simp] theorem updateLight_link_core : (updateLight s).link.core = s.link.core := by simp only [updateLight]; (repeat' split) <;> simp
@[simp] theorem updateLight_brd_core : (updateLight s).brd.core = s.brd.core := by simp only [updateLight]; (repeat' split) <;> simp
@[simp] theorem updateLight_diag_core : (updateLight s).diag.core = s.diag.core := by simp only [updateLight]; (repeat' split) <;> simp
@[simp] theorem stopWindow_link_core : (stopWindow s).link.core = s.link.core := by simp only [stopWindow]; (repeat' split) <;> simp
@[simp] theorem stopWindow_brd_core : (stopWindow s).brd.core = s.brd.core := by simp only [stopWindow]; (repeat' split) <;> simp
@[simp] theorem stopWindow_diag_core : (stopWindow s).diag.core = s.diag.core := by simp only [stopWindow]; (repeat' split) <;> simp
@[simp] theorem armEffect_link_core : (armEffect s).link.core = s.link.core := by simp only [armEffect]; (repeat' split) <;> simp
@[simp] theorem armEffect_brd_core : (armEffect s).brd.core = s.brd.core := by simp only [armEffect]; (repeat' split) <;> simp
@[simp] theorem armEffect_diag_core : (armEffect s).diag.core = s.diag.core := by simp only [armEffect]; (repeat' split) <;> simp
@[simp] theorem dropHeldArm_link_core (c : DropCause) : (dropHeldArm c s).link.core = s.link.core := by simp only [dropHeldArm]; (repeat' split) <;> simp
@[simp] theorem takeHeldArm_link_core : (takeHeldArm s).link.core = s.link.core := by simp only [takeHeldArm]; (repeat' split) <;> simp
@[simp] theorem takeHeldArm_brd_core : (takeHeldArm s).brd.core = s.brd.core := by simp only [takeHeldArm]; (repeat' split) <;> simp
@[simp] theorem takeHeldArm_diag_core : (takeHeldArm s).diag.core = s.diag.core := by simp only [takeHeldArm]; (repeat' split) <;> simp
@[simp] theorem startMove_link_core (k : MoveKind) (a b : Nat) : (startMove k a b s).link.core = s.link.core := by simp only [startMove]; (repeat' split) <;> simp
@[simp] theorem manualMove_link_core (k : MoveKind) (a : Nat) : (manualMove k a s).link.core = s.link.core := by simp only [manualMove]; (repeat' split) <;> simp
@[simp] theorem manualMove_brd_core (k : MoveKind) (a : Nat) : (manualMove k a s).brd.core = s.brd.core := by simp only [manualMove]; (repeat' split) <;> simp
@[simp] theorem manualMove_diag_core (k : MoveKind) (a : Nat) : (manualMove k a s).diag.core = s.diag.core := by simp only [manualMove]; (repeat' split) <;> simp
@[simp] theorem returnInIdle_link_core : (returnInIdle s).link.core = s.link.core := by simp only [returnInIdle]; (repeat' split) <;> simp
@[simp] theorem requestReturn_link_core : (requestReturn s).link.core = s.link.core := by simp only [requestReturn]; (repeat' split) <;> simp
@[simp] theorem requestReturn_brd_core : (requestReturn s).brd.core = s.brd.core := by simp only [requestReturn]; (repeat' split) <;> simp
@[simp] theorem requestReturn_diag_core : (requestReturn s).diag.core = s.diag.core := by simp only [requestReturn]; (repeat' split) <;> simp
@[simp] theorem afterHeadChange_link_core : (afterHeadChange s).link.core = s.link.core := by simp only [afterHeadChange]; (repeat' split) <;> simp
@[simp] theorem afterHeadChange_brd_core : (afterHeadChange s).brd.core = s.brd.core := by simp only [afterHeadChange]; (repeat' split) <;> simp
@[simp] theorem afterHeadChange_diag_core : (afterHeadChange s).diag.core = s.diag.core := by simp only [afterHeadChange]; (repeat' split) <;> simp
@[simp] theorem enterFault_link_core (k : FaultKind) (l : Option Nat) : (enterFault k l s).link.core = s.link.core := by simp only [enterFault]; (repeat' split) <;> simp
@[simp] theorem enterFault_brd_core (k : FaultKind) (l : Option Nat) : (enterFault k l s).brd.core = s.brd.core := by simp only [enterFault]; (repeat' split) <;> simp
@[simp] theorem announceRanking_link_core (b : List (Option (Nat × Option Nat × Nat))) (x : Option Nat) : (announceRanking b x s).link.core = s.link.core := by simp only [announceRanking]; (repeat' split) <;> simp
@[simp] theorem announceRanking_brd_core (b : List (Option (Nat × Option Nat × Nat))) (x : Option Nat) : (announceRanking b x s).brd.core = s.brd.core := by simp only [announceRanking]; (repeat' split) <;> simp
@[simp] theorem announceRanking_diag_core (b : List (Option (Nat × Option Nat × Nat))) (x : Option Nat) : (announceRanking b x s).diag.core = s.diag.core := by simp only [announceRanking]; (repeat' split) <;> simp
@[simp] theorem notifyComplete_link_core (r : Bool) (a : Attempt) (p : Points) : (notifyComplete r a p s).link.core = s.link.core := by simp only [notifyComplete]; (repeat' split) <;> simp
@[simp] theorem completeAttempt_link_core (a : Attempt) : (completeAttempt a s).link.core = s.link.core := by simp only [completeAttempt]; (repeat' split) <;> simp
@[simp] theorem completeAttempt_brd_core (a : Attempt) : (completeAttempt a s).brd.core = s.brd.core := by simp only [completeAttempt]; (repeat' split) <;> simp
@[simp] theorem completeAttempt_diag_core (a : Attempt) : (completeAttempt a s).diag.core = s.diag.core := by simp only [completeAttempt]; (repeat' split) <;> simp
@[simp] theorem checkCompletion_link_core (n : Nat) : (checkCompletion n s).link.core = s.link.core := by simp only [checkCompletion]; (repeat' split) <;> simp
@[simp] theorem checkCompletion_brd_core (n : Nat) : (checkCompletion n s).brd.core = s.brd.core := by simp only [checkCompletion]; (repeat' split) <;> simp
@[simp] theorem checkCompletion_diag_core (n : Nat) : (checkCompletion n s).diag.core = s.diag.core := by simp only [checkCompletion]; (repeat' split) <;> simp
@[simp] theorem recompute_link_core (n : Nat) : (recompute n s).link.core = s.link.core := by simp only [recompute]; (repeat' split) <;> simp
@[simp] theorem recompute_brd_core (n : Nat) : (recompute n s).brd.core = s.brd.core := by simp only [recompute]; (repeat' split) <;> simp
@[simp] theorem recompute_diag_core (n : Nat) : (recompute n s).diag.core = s.diag.core := by simp only [recompute]; (repeat' split) <;> simp
@[simp] theorem afterInput_link_core (n : Nat) : (afterInput n s).link.core = s.link.core := by simp only [afterInput]; (repeat' split) <;> simp
@[simp] theorem afterInput_brd_core (n : Nat) : (afterInput n s).brd.core = s.brd.core := by simp only [afterInput]; (repeat' split) <;> simp
@[simp] theorem afterInput_diag_core (n : Nat) : (afterInput n s).diag.core = s.diag.core := by simp only [afterInput]; (repeat' split) <;> simp
@[simp] theorem coachReturn_link_core (a : Attempt) : (coachReturn a s).link.core = s.link.core := by simp only [coachReturn]; (repeat' split) <;> simp
@[simp] theorem coachReturn_brd_core (a : Attempt) : (coachReturn a s).brd.core = s.brd.core := by simp only [coachReturn]; (repeat' split) <;> simp
@[simp] theorem coachReturn_diag_core (a : Attempt) : (coachReturn a s).diag.core = s.diag.core := by simp only [coachReturn]; (repeat' split) <;> simp
@[simp] theorem closeWindow_link_core (n : Nat) : (closeWindow n s).link.core = s.link.core := by simp only [closeWindow]; (repeat' split) <;> simp
@[simp] theorem closeWindow_brd_core (n : Nat) : (closeWindow n s).brd.core = s.brd.core := by simp only [closeWindow]; (repeat' split) <;> simp
@[simp] theorem closeWindow_diag_core (n : Nat) : (closeWindow n s).diag.core = s.diag.core := by simp only [closeWindow]; (repeat' split) <;> simp
@[simp] theorem reportFaults_link_core (n : Nat) (c : EndCause) : (reportFaults n c s).link.core = s.link.core := by simp only [reportFaults]; (repeat' split) <;> simp
@[simp] theorem leaveHill_link_core (a : Attempt) (c : EndCause) : (leaveHill a c s).link.core = s.link.core := by simp only [leaveHill]; (repeat' split) <;> simp
@[simp] theorem leaveHill_brd_core (a : Attempt) (c : EndCause) : (leaveHill a c s).brd.core = s.brd.core := by simp only [leaveHill]; (repeat' split) <;> simp
@[simp] theorem leaveHill_diag_core (a : Attempt) (c : EndCause) : (leaveHill a c s).diag.core = s.diag.core := by simp only [leaveHill]; (repeat' split) <;> simp
@[simp] theorem announceDistance_link_core (n : Nat) (x y : Option Nat) : (announceDistance n x y s).link.core = s.link.core := by simp only [announceDistance]; (repeat' split) <;> simp
@[simp] theorem announceDistance_brd_core (n : Nat) (x y : Option Nat) : (announceDistance n x y s).brd.core = s.brd.core := by simp only [announceDistance]; (repeat' split) <;> simp
@[simp] theorem announceDistance_diag_core (n : Nat) (x y : Option Nat) : (announceDistance n x y s).diag.core = s.diag.core := by simp only [announceDistance]; (repeat' split) <;> simp
@[simp] theorem reportHeld_link_core (a : Attempt) : (reportHeld a s).link.core = s.link.core := by simp only [reportHeld]; (repeat' split) <;> simp
@[simp] theorem resolve_link_core (n : Nat) : (resolve n s).link.core = s.link.core := by simp only [resolve]; (repeat' split) <;> simp
@[simp] theorem resolve_brd_core (n : Nat) : (resolve n s).brd.core = s.brd.core := by simp only [resolve]; (repeat' split) <;> simp
@[simp] theorem resolve_diag_core (n : Nat) : (resolve n s).diag.core = s.diag.core := by simp only [resolve]; (repeat' split) <;> simp
@[simp] theorem settleSingle_link_core (n : Nat) : (settleSingle n s).link.core = s.link.core := by simp only [settleSingle]; (repeat' split) <;> simp
@[simp] theorem settleSingle_brd_core (n : Nat) : (settleSingle n s).brd.core = s.brd.core := by simp only [settleSingle]; (repeat' split) <;> simp
@[simp] theorem settleSingle_diag_core (n : Nat) : (settleSingle n s).diag.core = s.diag.core := by simp only [settleSingle]; (repeat' split) <;> simp
@[simp] theorem giveGreen_link_core (a : Attempt) : (giveGreen a s).link.core = s.link.core := by simp only [giveGreen]; (repeat' split) <;> simp
@[simp] theorem giveGreen_brd_core (a : Attempt) : (giveGreen a s).brd.core = s.brd.core := by simp only [giveGreen]; (repeat' split) <;> simp
@[simp] theorem giveGreen_diag_core (a : Attempt) : (giveGreen a s).diag.core = s.diag.core := by simp only [giveGreen]; (repeat' split) <;> simp
@[simp] theorem withholdGreen_link_core (a : Attempt) : (withholdGreen a s).link.core = s.link.core := by simp only [withholdGreen]; (repeat' split) <;> simp
@[simp] theorem withholdGreen_diag_core (a : Attempt) : (withholdGreen a s).diag.core = s.diag.core := by simp only [withholdGreen]; (repeat' split) <;> simp
@[simp] theorem judgeClear_link_core : (judgeClear s).link.core = s.link.core := by simp only [judgeClear]; (repeat' split) <;> simp
@[simp] theorem judgeClear_brd_core : (judgeClear s).brd.core = s.brd.core := by simp only [judgeClear]; (repeat' split) <;> simp
@[simp] theorem judgeClear_diag_core : (judgeClear s).diag.core = s.diag.core := by simp only [judgeClear]; (repeat' split) <;> simp
@[simp] theorem noise_link_core : (noise s).link.core = s.link.core := by simp only [noise]; (repeat' split) <;> simp
@[simp] theorem noise_diag_core : (noise s).diag.core = s.diag.core := by simp only [noise]; (repeat' split) <;> simp
@[simp] theorem moveStation_link_core (k : Nat) (x : StationState) : (moveStation k x s).link.core = s.link.core := by simp only [moveStation]; (repeat' split) <;> simp
@[simp] theorem windChange_link_core : (windChange s).link.core = s.link.core := by simp only [windChange]; (repeat' split) <;> simp
@[simp] theorem windChange_brd_core : (windChange s).brd.core = s.brd.core := by simp only [windChange]; (repeat' split) <;> simp
@[simp] theorem windChange_diag_core : (windChange s).diag.core = s.diag.core := by simp only [windChange]; (repeat' split) <;> simp
@[simp] theorem cycleEndWork_link_core : (cycleEndWork s).link.core = s.link.core := by simp only [cycleEndWork]; (repeat' split) <;> simp
@[simp] theorem cycleEndWork_brd_core : (cycleEndWork s).brd.core = s.brd.core := by simp only [cycleEndWork]; (repeat' split) <;> simp
@[simp] theorem cycleEndWork_diag_core : (cycleEndWork s).diag.core = s.diag.core := by simp only [cycleEndWork]; (repeat' split) <;> simp
@[simp] theorem endCycle_link_core : (endCycle s).link.core = s.link.core := by simp only [endCycle]; (repeat' split) <;> simp
@[simp] theorem endCycle_brd_core : (endCycle s).brd.core = s.brd.core := by simp only [endCycle]; (repeat' split) <;> simp
@[simp] theorem endCycle_diag_core : (endCycle s).diag.core = s.diag.core := by simp only [endCycle]; (repeat' split) <;> simp
@[simp] theorem runSlots_link_core : (runSlots s).link.core = s.link.core := by simp only [runSlots]; (repeat' split) <;> simp
@[simp] theorem runSlots_brd_core : (runSlots s).brd.core = s.brd.core := by simp only [runSlots]; (repeat' split) <;> simp
@[simp] theorem runSlots_diag_core : (runSlots s).diag.core = s.diag.core := by simp only [runSlots]; (repeat' split) <;> simp
@[simp] theorem beginCycle_link_core (n : Nat) : (beginCycle n s).link.core = s.link.core := by simp only [beginCycle]; (repeat' split) <;> simp
@[simp] theorem beginCycle_brd_core (n : Nat) : (beginCycle n s).brd.core = s.brd.core := by simp only [beginCycle]; (repeat' split) <;> simp
@[simp] theorem beginCycle_diag_core (n : Nat) : (beginCycle n s).diag.core = s.diag.core := by simp only [beginCycle]; (repeat' split) <;> simp
@[simp] theorem nextCycle_link_core : (nextCycle s).link.core = s.link.core := by simp only [nextCycle]; (repeat' split) <;> simp
@[simp] theorem nextCycle_brd_core : (nextCycle s).brd.core = s.brd.core := by simp only [nextCycle]; (repeat' split) <;> simp
@[simp] theorem nextCycle_diag_core : (nextCycle s).diag.core = s.diag.core := by simp only [nextCycle]; (repeat' split) <;> simp
@[simp] theorem cycleMoment_link_core : (cycleMoment s).link.core = s.link.core := by simp only [cycleMoment]; (repeat' split) <;> simp
@[simp] theorem cycleMoment_brd_core : (cycleMoment s).brd.core = s.brd.core := by simp only [cycleMoment]; (repeat' split) <;> simp
@[simp] theorem cycleMoment_diag_core : (cycleMoment s).diag.core = s.diag.core := by simp only [cycleMoment]; (repeat' split) <;> simp
@[simp] theorem followOn_link_core : (followOn s).link.core = s.link.core := by simp only [followOn]; (repeat' split) <;> simp
@[simp] theorem followOn_brd_core : (followOn s).brd.core = s.brd.core := by simp only [followOn]; (repeat' split) <;> simp
@[simp] theorem followOn_diag_core : (followOn s).diag.core = s.diag.core := by simp only [followOn]; (repeat' split) <;> simp
@[simp] theorem continueCycle_link_core : (continueCycle s).link.core = s.link.core := by simp only [continueCycle]; (repeat' split) <;> simp
@[simp] theorem continueCycle_brd_core : (continueCycle s).brd.core = s.brd.core := by simp only [continueCycle]; (repeat' split) <;> simp
@[simp] theorem continueCycle_diag_core : (continueCycle s).diag.core = s.diag.core := by simp only [continueCycle]; (repeat' split) <;> simp
@[simp] theorem pollable_link_core : (pollable s).link.core = s.link.core := by simp only [pollable]; (repeat' split) <;> simp
@[simp] theorem pollable_brd_core : (pollable s).brd.core = s.brd.core := by simp only [pollable]; (repeat' split) <;> simp
@[simp] theorem pollable_diag_core : (pollable s).diag.core = s.diag.core := by simp only [pollable]; (repeat' split) <;> simp
@[simp] theorem movePolarity_link_core (a : Answer) : (movePolarity a s).link.core = s.link.core := by simp only [movePolarity]; (repeat' split) <;> simp
@[simp] theorem afterFailure_link_core (k : Nat) : (afterFailure k s).link.core = s.link.core := by simp only [afterFailure]; (repeat' split) <;> simp
@[simp] theorem applyAnswer_link_core (k : Nat) (a : Answer) : (applyAnswer k a s).link.core = s.link.core := by simp only [applyAnswer]; (repeat' split) <;> simp
@[simp] theorem applyAnswer_diag_core (k : Nat) (a : Answer) : (applyAnswer k a s).diag.core = s.diag.core := by simp only [applyAnswer]; (repeat' split) <;> simp
@[simp] theorem takeAnswer_link_core (a : Answer) : (takeAnswer a s).link.core = s.link.core := by simp only [takeAnswer]; (repeat' split) <;> simp
@[simp] theorem takeAnswer_diag_core (a : Answer) : (takeAnswer a s).diag.core = s.diag.core := by simp only [takeAnswer]; (repeat' split) <;> simp
@[simp] theorem afterExchange_link_core : (afterExchange s).link.core = s.link.core := by simp only [afterExchange]; (repeat' split) <;> simp
@[simp] theorem afterExchange_brd_core : (afterExchange s).brd.core = s.brd.core := by simp only [afterExchange]; (repeat' split) <;> simp
@[simp] theorem afterExchange_diag_core : (afterExchange s).diag.core = s.diag.core := by simp only [afterExchange]; (repeat' split) <;> simp
@[simp] theorem endExchange_link_core (a : Answer) : (endExchange a s).link.core = s.link.core := by simp only [endExchange]; (repeat' split) <;> simp
@[simp] theorem endExchange_brd_core (a : Answer) : (endExchange a s).brd.core = s.brd.core := by simp only [endExchange]; (repeat' split) <;> simp
@[simp] theorem endExchange_diag_core (a : Answer) : (endExchange a s).diag.core = s.diag.core := by simp only [endExchange]; (repeat' split) <;> simp
@[simp] theorem closeReply_link_core : (closeReply s).link.core = s.link.core := by simp only [closeReply]; (repeat' split) <;> simp
@[simp] theorem closeReply_brd_core : (closeReply s).brd.core = s.brd.core := by simp only [closeReply]; (repeat' split) <;> simp
@[simp] theorem closeReply_diag_core : (closeReply s).diag.core = s.diag.core := by simp only [closeReply]; (repeat' split) <;> simp

end Sys2Proof.Machine
end

