-- ==== Sys2Proof/Laws/Service.lean ====
section
/-! SUPPORT. What a command's beginning and end do to BRD and LINK, and how a statement about a command follows from its
effect. -/

set_option Elab.async false

namespace Sys2Proof

open Machine

/-! ## The transmitter's choice and what follows a command -/

theorem startTx_of_busy (s : State) (h : s.link.tx ≠ .idle) : startTx s = s := by
  unfold startTx; split <;> simp_all

/-- The fields of LINK that the transmitter's choice leaves alone. -/
theorem startTx_kept (s : State) : LinkKept s (startTx s) ∧ (startTx s).link.inHand = s.link.inHand
    ∧ (startTx s).link.seq = s.link.seq := by
  unfold startTx LinkKept; repeat' split
  all_goals simp

theorem startTx_free (s : State) (h : Free s) : Free (startTx s) := by
  obtain ⟨h1, h2, h3⟩ := h
  unfold startTx Free; repeat' split
  all_goals simp_all

theorem startTx_outgoing (s : State) : outgoing (startTx s).link = outgoing s.link := by
  unfold startTx outgoing; repeat' split
  all_goals simp_all

@[simp] theorem beginFrame_core (s : State) : (beginFrame s).brd.messages = s.brd.messages
    ∧ (beginFrame s).brd.pacing = s.brd.pacing ∧ (beginFrame s).brd.ready = s.brd.ready
    ∧ (beginFrame s).brd.stalled = s.brd.stalled ∧ (beginFrame s).brd.subjects = s.brd.subjects := by
  unfold beginFrame; repeat' split
  all_goals simp

@[simp] theorem stallRule_core (s : State) : (stallRule s).brd.messages = s.brd.messages
    ∧ (stallRule s).brd.pacing = s.brd.pacing ∧ (stallRule s).brd.ready = s.brd.ready
    ∧ (stallRule s).brd.stalled = s.brd.stalled ∧ (stallRule s).brd.subjects = s.brd.subjects
    ∧ (stallRule s).brd.queue = s.brd.queue ∧ (stallRule s).brd.sender = s.brd.sender := by
  unfold stallRule; repeat' split
  all_goals simp

theorem settle_link (s : State) : (settle s).link = (startTx s).link := by
  unfold settle startTx; simp only [stallRule_link, beginFrame_link]
  have : statusByte (stallRule (beginFrame s)) = statusByte s := by simp [statusByte]
  repeat' split
  all_goals simp_all

theorem settle_brd (s : State) : (settle s).brd = (stallRule (beginFrame s)).brd := by unfold settle; simp

theorem sendOrder_mem (q : List BoardItem) (i : BoardItem) (r : List BoardItem) (h : sendOrder q = i :: r) : i ∈ q := by
  have : i ∈ sendOrder q := by rw [h]; exact List.mem_cons_self
  simp only [sendOrder, List.mem_append, List.mem_filter] at this
  tauto

/-- An item's text depends on the owners' records, the message lines and the subjects only. -/
theorem itemText_congr {s t : State} (i : BoardItem) (hp : t.prof = s.prof) (hc : t.cst = s.cst) (hs : t.stc = s.stc)
    (hg : t.gate = s.gate) (hw : t.wln = s.wln) (hr : t.scr = s.scr) (hm : t.brd.messages = s.brd.messages)
    (hb : t.brd.subjects = s.brd.subjects) : itemText t i = itemText s i := by
  simp only [itemText, keyText, attempt?, shownGate, onHill?, freshGating, hp, hc, hs, hg, hw, hr, hm, hb]

/-- The text of an item is the same before and after what ends a command. -/
theorem settle_itemText (s : State) (i : BoardItem) : itemText (settle s) i = itemText s i :=
  itemText_congr i (by simp) (by simp) (by simp) (by simp) (by simp) (by simp) (by simp [settle_brd]) (by simp [settle_brd])

/-- The end of a command begins a frame where one may begin, with the first item in send order. -/
theorem settle_frame (s : State) :
    (∀ i rest, s.brd.sender = none → s.brd.pacing = none → s.brd.ready = true → sendOrder s.brd.queue = i :: rest →
      (settle s).brd.queue = s.brd.queue.erase i ∧ (settle s).brd.sender = some { key := i.key, text := itemText s i })
    ∧ (s.brd.sender ≠ none ∨ s.brd.pacing ≠ none ∨ s.brd.ready = false ∨ s.brd.queue = [] →
      (settle s).brd.queue = s.brd.queue ∧ (settle s).brd.sender = s.brd.sender) := by
  rw [settle_brd]; simp only [stallRule_core]
  refine ⟨fun i rest hs hp hr hq => ?_, fun h => ?_⟩
  · simp [beginFrame, hs, hp, hr, hq]
  · unfold beginFrame
    split
    · rename_i hc
      obtain hq : s.brd.queue = [] := by
        rcases h with h | h | h | h
        · exact absurd hc.1 h
        · exact absurd hc.2.1 h
        · simp [hc.2.2] at h
        · exact h
      simp [hq, sendOrder]
    · exact ⟨rfl, rfl⟩

theorem settle_subjects (s : State) : (settle s).brd.subjects = s.brd.subjects := by simp [settle_brd]

theorem LinkKept.of_core {s u : State} (h : u.link.core = s.link.core) : LinkKept s u := by
  simp only [Link.core, Link.mk.injEq] at h
  unfold LinkKept; tauto

theorem LinkKept.trans {s t u : State} (h : LinkKept s t) (h' : LinkKept t u) : LinkKept s u := by
  unfold LinkKept at *; simp_all

theorem LinkKept.settled {s u : State} (h : LinkKept s u) : LinkKept s (settle u) := by
  refine h.trans ?_
  have := (startTx_kept u).1
  unfold LinkKept at *; rw [settle_link]; exact this

/-- What the end of a command does to the queue and the sender, for an effect that enqueues keys. -/
theorem Frames.settled {s u : State} {ks : List Key} (hq : u.brd.queue = onto ks s.brd.queue)
    (hs : u.brd.sender = s.brd.sender) : Frames ks s (settle u) := by
  have h := settle_frame u
  simp only [Frames, settle_itemText]
  have hp : (settle u).brd.pacing = u.brd.pacing := by simp [settle_brd]
  have hr : (settle u).brd.ready = u.brd.ready := by simp [settle_brd]
  rw [hp, hr, ← hq, ← hs]; exact h

/-- What the end of a command does to the stall timer, for an effect that leaves the timer and the stall state. -/
theorem StallFollows.settled {s u : State} (ht : u.brd.stallTimer = s.brd.stallTimer) : StallFollows s (settle u) := by
  have hp : (settle u).prof = u.prof := by simp
  have hb : (beginFrame u).brd.stallTimer = u.brd.stallTimer := by unfold beginFrame; repeat' split <;> simp
  have hq : (beginFrame u).prof = u.prof := by simp
  unfold StallFollows lineOf
  rw [hp, settle_brd, ← ht, ← hb]
  unfold stallRule hasLine lineOf
  rw [hq]
  repeat' split
  all_goals simp_all

theorem Boards.settled {s u : State} {ks : List Key} (hq : u.brd.queue = onto ks s.brd.queue)
    (hc : u.brd.core = s.brd.core) : Boards ks s (settle u) := by
  simp only [Brd.core, Brd.mk.injEq] at hc
  refine ⟨?_, ?_, ?_, ?_, Frames.settled hq hc.2.2.2.1, StallFollows.settled (by tauto)⟩
  · rw [settle_brd]; simp; tauto
  · rw [settle_brd]; simp; tauto
  · rw [settle_brd]; simp; tauto
  · rw [settle_brd]; simp; tauto

theorem handed_tx (bs : List NoticeBody) (s : State) : (handed bs s).tx = (startTx s).link.tx := by
  unfold handed
  generalize (startTx s).link = l
  induction bs generalizing l with
  | nil => rfl
  | cons b r ih =>
    simp only [List.foldl_cons]; rw [ih]
    have := queueNotice_core b l
    simp only [Link.core, Link.mk.injEq] at this; tauto

theorem Sends.settled {s u : State} {bs : List NoticeBody} (hn : u.link.notices = (handed bs s).notices)
    (hq : u.link.seq = (handed bs s).seq) (ht : u.link.tx = (startTx s).link.tx) : Sends bs s (settle u) := by
  constructor
  · rw [settle_link, startTx_outgoing]; unfold outgoing; rw [handed_tx, ht, hn]
  · rw [settle_link, (startTx_kept u).2.2, hq]

/-! ## Requests -/

/-- The state in which a block serves a request. -/
def taken (kind tag : Byte) (s : State) : State :=
  (startTx s).onLink fun l => { l with inHand := some { kind, tag, change := none } }

/-- The state in which a served request's reply waits. -/
def waiting (kind tag : Byte) (r : Served) : State :=
  r.st.onLink fun l => { l with replyWaiting := some { kind := replyKind kind, tag, code := r.code, data := r.data } }

theorem request_of_free {i : Instr} {kind tag : Byte} {ps : List Byte} {serve : State → Served} {s : State} (hF : Free s)
    (hi : requestFrame i = some (kind, tag, ps)) :
    request i serve s = .next (settle (waiting kind tag (serve (taken kind tag s)))) := by
  have h := (startTx_free s hF).1
  simp [request, hi, command, requestEffect, h, takeInHand, waiting, taken]

theorem Answers.of_served {i : Instr} {kind tag : Byte} {ps : List Byte} {serve : State → Served} {s : State} {r : Served}
    (hF : Free s) (hi : requestFrame i = some (kind, tag, ps)) (he : exec i s = request i serve s)
    (hr : serve (taken kind tag s) = r) (hk : ∃ h, r.st.link.inHand = some h ∧ h.kind = kind ∧ h.tag = tag) :
    Answers i r.code r.data s (settle (waiting kind tag r)) := by
  subst hr
  refine ⟨by rw [he, request_of_free hF hi], _, hi, ?_, ?_⟩
  · rw [settle_link, (startTx_kept _).2.1]; simpa [waiting] using hk
  · rw [settle_link]
    unfold startTx; repeat' split
    all_goals simp_all [waiting]

theorem Completes.of_served {i : Instr} {kind tag : Byte} {ps : List Byte} {serve : State → Served} {s : State}
    {code : ReplyCode} {data : ReplyData} {bs : List Block} {P : State → Prop} (r : Served)
    (hF : Free s) (hi : requestFrame i = some (kind, tag, ps)) (he : exec i s = request i serve s)
    (hr : serve (taken kind tag s) = r) (hk : ∃ h, r.st.link.inHand = some h ∧ h.kind = kind ∧ h.tag = tag)
    (hc : r.code = code) (hd : r.data = data)
    (ho : OnlyChanges (.brd :: .link :: bs) s (settle (waiting kind tag r)))
    (hP : P (settle (waiting kind tag r))) : Completes i code data bs s P := by
  subst hc hd
  exact ⟨_, Answers.of_served hF hi he hr hk, ho, hP⟩

theorem taken_kept (kind tag : Byte) (s : State) : LinkKept s (taken kind tag s) := by
  have := (startTx_kept s).1
  unfold LinkKept at *; simpa [taken] using this

theorem LinkKept.waiting {kind tag : Byte} {r : Served} {s : State} (h : LinkKept s r.st) :
    LinkKept s (settle (waiting kind tag r)) := by
  refine LinkKept.settled (u := Sys2Proof.waiting kind tag r) ?_
  unfold LinkKept at *; simpa [Sys2Proof.waiting] using h

theorem LinkKept.served {kind tag : Byte} {r : Served} {s : State} (h : r.st.link.core = (taken kind tag s).link.core) :
    LinkKept s (settle (Sys2Proof.waiting kind tag r)) := ((taken_kept kind tag s).trans (LinkKept.of_core h)).waiting

theorem Boards.served {kind tag : Byte} {r : Served} {s : State} {ks : List Key}
    (hq : r.st.brd.queue = onto ks s.brd.queue) (hc : r.st.brd.core = s.brd.core) :
    Boards ks s (settle (waiting kind tag r)) := Boards.settled (by simpa [waiting] using hq) (by simpa [waiting] using hc)

theorem Sends.served {kind tag : Byte} {r : Served} {s : State} {bs : List NoticeBody}
    (hn : r.st.link.notices = (handed bs s).notices) (hq : r.st.link.seq = (handed bs s).seq)
    (ht : r.st.link.tx = (startTx s).link.tx) : Sends bs s (settle (waiting kind tag r)) :=
  Sends.settled (by simpa [waiting] using hn) (by simpa [waiting] using hq) (by simpa [waiting] using ht)

/-- A request whose effect leaves BRD as it is, and LINK but for the request in hand. -/
theorem Quiet.served {kind tag : Byte} {r : Served} {s : State} (hl : r.st.link = (taken kind tag s).link)
    (hb : r.st.brd = s.brd) : Quiet s (settle (waiting kind tag r)) := by
  refine ⟨LinkKept.served (by rw [hl]), Boards.served (by rw [hb]; rfl) (by rw [hb]), ?_, ?_⟩
  · rw [settle_subjects]; simp [waiting, hb]
  · refine Sends.served ?_ ?_ ?_ <;> rw [hl] <;> simp [taken, handed]

/-! ## Events -/

theorem Happens.of_effect {i : Instr} {f : State → State} {s : State} {bs : List Block} {P : State → Prop}
    (he : exec i s = command f s) (ho : OnlyChanges (.brd :: .link :: bs) s (settle (f (startTx s))))
    (hP : P (settle (f (startTx s)))) : Happens i bs s P := ⟨_, by rw [he]; rfl, ho, hP⟩

/-- An event whose effect leaves BRD and LINK as they are. -/
theorem Quiet.effect {s u : State} (hl : u.link = (startTx s).link) (hb : u.brd = s.brd) : Quiet s (settle u) := by
  refine ⟨LinkKept.settled ?_, Boards.settled (by rw [hb]; rfl) (by rw [hb]), ?_, ?_⟩
  · have := (startTx_kept s).1
    unfold LinkKept at *; rw [hl]; exact this
  · rw [settle_subjects, hb]
  · refine Sends.settled ?_ ?_ ?_ <;> rw [hl] <;> simp [handed]

end Sys2Proof
end

