-- ==== Sys2Proof/Laws/Queries.lean ====
section
/-! SUPPORT. What the blocks read of the state does not depend on LINK: each such reading is the same before and after the transmitter's
choice, and while a request is taken in hand. -/

set_option Elab.async false

namespace Sys2Proof

open Machine

variable (s : State) (g : Link → Link) (kind tag : Byte)

@[simp] theorem onLink_slot (n : Nat) : slot? (s.onLink g) n = slot? s n := rfl
@[simp] theorem startTx_slot (n : Nat) : slot? (startTx s) n = slot? s n := by
  unfold startTx; repeat' split
  all_goals rfl
@[simp] theorem taken_slot (n : Nat) : slot? (taken kind tag s) n = slot? s n := by simp [taken]

@[simp] theorem onLink_station (n : Nat) : station (s.onLink g) n = station s n := rfl
@[simp] theorem startTx_station (n : Nat) : station (startTx s) n = station s n := by
  unfold startTx; repeat' split
  all_goals rfl
@[simp] theorem taken_station (n : Nat) : station (taken kind tag s) n = station s n := by simp [taken]

@[simp] theorem onLink_lineOf (f : LineFunction) : lineOf (s.onLink g) f = lineOf s f := rfl
@[simp] theorem startTx_lineOf (f : LineFunction) : lineOf (startTx s) f = lineOf s f := by
  unfold startTx; repeat' split
  all_goals rfl
@[simp] theorem taken_lineOf (f : LineFunction) : lineOf (taken kind tag s) f = lineOf s f := by simp [taken]

@[simp] theorem onLink_hasLine (f : LineFunction) : hasLine (s.onLink g) f = hasLine s f := rfl
@[simp] theorem startTx_hasLine (f : LineFunction) : hasLine (startTx s) f = hasLine s f := by
  unfold startTx; repeat' split
  all_goals rfl
@[simp] theorem taken_hasLine (f : LineFunction) : hasLine (taken kind tag s) f = hasLine s f := by simp [taken]

@[simp] theorem onLink_outputActive : outputActive (s.onLink g) = outputActive s := rfl
@[simp] theorem startTx_outputActive : outputActive (startTx s) = outputActive s := by
  unfold startTx; repeat' split
  all_goals rfl
@[simp] theorem taken_outputActive : outputActive (taken kind tag s) = outputActive s := by simp [taken]

@[simp] theorem onLink_sensed (n : Nat) : sensed (s.onLink g) n = sensed s n := rfl
@[simp] theorem startTx_sensed (n : Nat) : sensed (startTx s) n = sensed s n := by
  unfold startTx; repeat' split
  all_goals rfl
@[simp] theorem taken_sensed (n : Nat) : sensed (taken kind tag s) n = sensed s n := by simp [taken]

@[simp] theorem onLink_sensedFn (f : LineFunction) : sensedFn (s.onLink g) f = sensedFn s f := rfl
@[simp] theorem startTx_sensedFn (f : LineFunction) : sensedFn (startTx s) f = sensedFn s f := by
  unfold startTx; repeat' split
  all_goals rfl
@[simp] theorem taken_sensedFn (f : LineFunction) : sensedFn (taken kind tag s) f = sensedFn s f := by simp [taken]

@[simp] theorem onLink_attempt (n : Nat) : attempt? (s.onLink g) n = attempt? s n := rfl
@[simp] theorem startTx_attempt (n : Nat) : attempt? (startTx s) n = attempt? s n := by
  unfold startTx; repeat' split
  all_goals rfl
@[simp] theorem taken_attempt (n : Nat) : attempt? (taken kind tag s) n = attempt? s n := by simp [taken]

@[simp] theorem onLink_onHill : onHill? (s.onLink g) = onHill? s := rfl
@[simp] theorem startTx_onHill : onHill? (startTx s) = onHill? s := by
  unfold startTx; repeat' split
  all_goals rfl
@[simp] theorem taken_onHill : onHill? (taken kind tag s) = onHill? s := by simp [taken]

@[simp] theorem onLink_atBar : atBar? (s.onLink g) = atBar? s := rfl
@[simp] theorem startTx_atBar : atBar? (startTx s) = atBar? s := by
  unfold startTx; repeat' split
  all_goals rfl
@[simp] theorem taken_atBar : atBar? (taken kind tag s) = atBar? s := by simp [taken]

@[simp] theorem onLink_competitor (n : Nat) : competitor? (s.onLink g) n = competitor? s n := rfl
@[simp] theorem startTx_competitor (n : Nat) : competitor? (startTx s) n = competitor? s n := by
  unfold startTx; repeat' split
  all_goals rfl
@[simp] theorem taken_competitor (n : Nat) : competitor? (taken kind tag s) n = competitor? s n := by simp [taken]

@[simp] theorem onLink_hasOpenRound : hasOpenRound (s.onLink g) = hasOpenRound s := rfl
@[simp] theorem startTx_hasOpenRound : hasOpenRound (startTx s) = hasOpenRound s := by
  unfold startTx; repeat' split
  all_goals rfl
@[simp] theorem taken_hasOpenRound : hasOpenRound (taken kind tag s) = hasOpenRound s := by simp [taken]

@[simp] theorem onLink_ofConfirmedRound (a : Attempt) : ofConfirmedRound (s.onLink g) a = ofConfirmedRound s a := rfl
@[simp] theorem startTx_ofConfirmedRound (a : Attempt) : ofConfirmedRound (startTx s) a = ofConfirmedRound s a := by
  unfold startTx; repeat' split
  all_goals rfl
@[simp] theorem taken_ofConfirmedRound (a : Attempt) : ofConfirmedRound (taken kind tag s) a = ofConfirmedRound s a := by simp [taken]

@[simp] theorem onLink_placesHeld : placesHeld (s.onLink g) = placesHeld s := rfl
@[simp] theorem startTx_placesHeld : placesHeld (startTx s) = placesHeld s := by
  unfold startTx; repeat' split
  all_goals rfl
@[simp] theorem taken_placesHeld : placesHeld (taken kind tag s) = placesHeld s := by simp [taken]

@[simp] theorem onLink_duplicateBib (n : Nat) : duplicateBib (s.onLink g) n = duplicateBib s n := rfl
@[simp] theorem startTx_duplicateBib (n : Nat) : duplicateBib (startTx s) n = duplicateBib s n := by
  unfold startTx; repeat' split
  all_goals rfl
@[simp] theorem taken_duplicateBib (n : Nat) : duplicateBib (taken kind tag s) n = duplicateBib s n := by simp [taken]

@[simp] theorem onLink_newBibs (es : List Entry) : newBibs (s.onLink g) es = newBibs s es := rfl
@[simp] theorem startTx_newBibs (es : List Entry) : newBibs (startTx s) es = newBibs s es := by
  unfold startTx; repeat' split
  all_goals rfl
@[simp] theorem taken_newBibs (es : List Entry) : newBibs (taken kind tag s) es = newBibs s es := by simp [taken]

@[simp] theorem onLink_rankRecord (n : Nat) : rankRecord (s.onLink g) n = rankRecord s n := rfl
@[simp] theorem startTx_rankRecord (n : Nat) : rankRecord (startTx s) n = rankRecord s n := by
  unfold startTx; repeat' split
  all_goals rfl
@[simp] theorem taken_rankRecord (n : Nat) : rankRecord (taken kind tag s) n = rankRecord s n := by simp [taken]

@[simp] theorem onLink_editBlocked : editBlocked (s.onLink g) = editBlocked s := rfl
@[simp] theorem startTx_editBlocked : editBlocked (startTx s) = editBlocked s := by
  unfold startTx; repeat' split
  all_goals rfl
@[simp] theorem taken_editBlocked : editBlocked (taken kind tag s) = editBlocked s := by simp [taken]

@[simp] theorem onLink_freshGating : freshGating (s.onLink g) = freshGating s := rfl
@[simp] theorem startTx_freshGating : freshGating (startTx s) = freshGating s := by
  unfold startTx; repeat' split
  all_goals rfl
@[simp] theorem taken_freshGating : freshGating (taken kind tag s) = freshGating s := by simp [taken]

@[simp] theorem onLink_owesStale : owesStale (s.onLink g) = owesStale s := rfl
@[simp] theorem startTx_owesStale : owesStale (startTx s) = owesStale s := by simp [owesStale]
@[simp] theorem taken_owesStale : owesStale (taken kind tag s) = owesStale s := by simp [taken]

@[simp] theorem onLink_windAllows : windAllows (s.onLink g) = windAllows s := rfl
@[simp] theorem startTx_windAllows : windAllows (startTx s) = windAllows s := by
  unfold startTx; repeat' split
  all_goals rfl
@[simp] theorem taken_windAllows : windAllows (taken kind tag s) = windAllows s := by simp [taken]

@[simp] theorem onLink_gateHomeActive : gateHomeActive (s.onLink g) = gateHomeActive s := rfl
@[simp] theorem startTx_gateHomeActive : gateHomeActive (startTx s) = gateHomeActive s := by
  unfold startTx; repeat' split
  all_goals rfl
@[simp] theorem taken_gateHomeActive : gateHomeActive (taken kind tag s) = gateHomeActive s := by simp [taken]

@[simp] theorem onLink_carrier : carrier (s.onLink g) = carrier s := rfl
@[simp] theorem startTx_carrier : carrier (startTx s) = carrier s := by
  unfold startTx; repeat' split
  all_goals rfl
@[simp] theorem taken_carrier : carrier (taken kind tag s) = carrier s := by simp [taken]

@[simp] theorem onLink_readingFresh : readingFresh (s.onLink g) = readingFresh s := rfl
@[simp] theorem startTx_readingFresh : readingFresh (startTx s) = readingFresh s := by
  unfold startTx; repeat' split
  all_goals rfl
@[simp] theorem taken_readingFresh : readingFresh (taken kind tag s) = readingFresh s := by simp [taken]

@[simp] theorem onLink_canBePolled : canBePolled (s.onLink g) = canBePolled s := rfl
@[simp] theorem startTx_canBePolled : canBePolled (startTx s) = canBePolled s := by
  unfold startTx; repeat' split
  all_goals rfl
@[simp] theorem taken_canBePolled : canBePolled (taken kind tag s) = canBePolled s := by simp [taken]

@[simp] theorem onLink_anyPollable : anyPollable (s.onLink g) = anyPollable s := rfl
@[simp] theorem startTx_anyPollable : anyPollable (startTx s) = anyPollable s := by
  unfold startTx; repeat' split
  all_goals rfl
@[simp] theorem taken_anyPollable : anyPollable (taken kind tag s) = anyPollable s := by simp [taken]

@[simp] theorem onLink_matchMark (n : Nat) : matchMark (s.onLink g) n = matchMark s n := rfl
@[simp] theorem startTx_matchMark (n : Nat) : matchMark (startTx s) n = matchMark s n := by
  unfold startTx; repeat' split
  all_goals rfl
@[simp] theorem taken_matchMark (n : Nat) : matchMark (taken kind tag s) n = matchMark s n := by simp [taken]

@[simp] theorem onLink_nextDue : nextDue (s.onLink g) = nextDue s := rfl
@[simp] theorem startTx_nextDue : nextDue (startTx s) = nextDue s := by
  unfold startTx; repeat' split
  all_goals rfl
@[simp] theorem taken_nextDue : nextDue (taken kind tag s) = nextDue s := by simp [taken]

@[simp] theorem onLink_contributors : contributors (s.onLink g) = contributors s := rfl
@[simp] theorem startTx_contributors : contributors (startTx s) = contributors s := by
  unfold startTx; repeat' split
  all_goals rfl
@[simp] theorem taken_contributors : contributors (taken kind tag s) = contributors s := by simp [taken]

@[simp] theorem onLink_lightFor : lightFor (s.onLink g) = lightFor s := rfl
@[simp] theorem startTx_lightFor : lightFor (startTx s) = lightFor s := by
  unfold startTx; repeat' split
  all_goals rfl
@[simp] theorem taken_lightFor : lightFor (taken kind tag s) = lightFor s := by simp [taken]

@[simp] theorem onLink_topTen : topTen (s.onLink g) = topTen s := rfl
@[simp] theorem startTx_topTen : topTen (startTx s) = topTen s := by
  unfold startTx; repeat' split
  all_goals rfl
@[simp] theorem taken_topTen : topTen (taken kind tag s) = topTen s := by simp [taken]

@[simp] theorem onLink_itemText (i : BoardItem) : itemText (s.onLink g) i = itemText s i := rfl
@[simp] theorem startTx_itemText (i : BoardItem) : itemText (startTx s) i = itemText s i := by
  unfold startTx; repeat' split
  all_goals rfl
@[simp] theorem taken_itemText (i : BoardItem) : itemText (taken kind tag s) i = itemText s i := by simp [taken]

@[simp] theorem onLink_boardReport : boardReport (s.onLink g) = boardReport s := rfl
@[simp] theorem startTx_boardReport : boardReport (startTx s) = boardReport s := by
  unfold startTx; repeat' split
  all_goals rfl
@[simp] theorem taken_boardReport : boardReport (taken kind tag s) = boardReport s := by simp [taken]

@[simp] theorem onLink_windReport : windReport (s.onLink g) = windReport s := rfl
@[simp] theorem startTx_windReport : windReport (startTx s) = windReport s := by
  unfold startTx; repeat' split
  all_goals rfl
@[simp] theorem taken_windReport : windReport (taken kind tag s) = windReport s := by simp [taken]

@[simp] theorem onLink_coachSteps (n : Nat) : coachSteps (s.onLink g) n = coachSteps s n := rfl
@[simp] theorem startTx_coachSteps (n : Nat) : coachSteps (startTx s) n = coachSteps s n := by
  unfold startTx; repeat' split
  all_goals rfl
@[simp] theorem taken_coachSteps (n : Nat) : coachSteps (taken kind tag s) n = coachSteps s n := by simp [taken]

@[simp] theorem onLink_carrierLine : carrierLine (s.onLink g) = carrierLine s := rfl
@[simp] theorem startTx_carrierLine : carrierLine (startTx s) = carrierLine s := by
  unfold startTx; repeat' split
  all_goals rfl
@[simp] theorem taken_carrierLine : carrierLine (taken kind tag s) = carrierLine s := by simp [taken]

@[simp] theorem onLink_pointsNow : pointsNow (s.onLink g) = pointsNow s := rfl
@[simp] theorem startTx_pointsNow : pointsNow (startTx s) = pointsNow s := by
  unfold startTx; repeat' split
  all_goals rfl
@[simp] theorem taken_pointsNow : pointsNow (taken kind tag s) = pointsNow s := by simp [taken]

@[simp] theorem onLink_shownGate : shownGate (s.onLink g) = shownGate s := rfl
@[simp] theorem startTx_shownGate : shownGate (startTx s) = shownGate s := by
  unfold startTx; repeat' split
  all_goals rfl
@[simp] theorem taken_shownGate : shownGate (taken kind tag s) = shownGate s := by simp [taken]

@[simp] theorem onLink_slotTotal (b r : Nat) : slotTotal (s.onLink g) b r = slotTotal s b r := rfl
@[simp] theorem startTx_slotTotal (b r : Nat) : slotTotal (startTx s) b r = slotTotal s b r := by
  unfold startTx; repeat' split
  all_goals rfl
@[simp] theorem taken_slotTotal (b r : Nat) : slotTotal (taken kind tag s) b r = slotTotal s b r := by simp [taken]

@[simp] theorem onLink_scoringReadings : scoringReadings (s.onLink g) = scoringReadings s := rfl
@[simp] theorem startTx_scoringReadings : scoringReadings (startTx s) = scoringReadings s := by
  unfold startTx; repeat' split
  all_goals rfl
@[simp] theorem taken_scoringReadings : scoringReadings (taken kind tag s) = scoringReadings s := by simp [taken]

@[simp] theorem onLink_gatingReadings : gatingReadings (s.onLink g) = gatingReadings s := rfl
@[simp] theorem startTx_gatingReadings : gatingReadings (startTx s) = gatingReadings s := by
  unfold startTx; repeat' split
  all_goals rfl
@[simp] theorem taken_gatingReadings : gatingReadings (taken kind tag s) = gatingReadings s := by simp [taken]

@[simp] theorem onLink_readyLevel : readyLevel (s.onLink g) = readyLevel s := rfl
@[simp] theorem startTx_readyLevel : readyLevel (startTx s) = readyLevel s := by
  unfold startTx; repeat' split
  all_goals rfl
@[simp] theorem taken_readyLevel : readyLevel (taken kind tag s) = readyLevel s := by simp [taken]

@[simp] theorem taken_prof : (taken kind tag s).prof = s.prof := by simp [taken]
@[simp] theorem taken_fld : (taken kind tag s).fld = s.fld := by simp [taken]
@[simp] theorem taken_cst : (taken kind tag s).cst = s.cst := by simp [taken]
@[simp] theorem taken_stc : (taken kind tag s).stc = s.stc := by simp [taken]
@[simp] theorem taken_gate : (taken kind tag s).gate = s.gate := by simp [taken]
@[simp] theorem taken_wln : (taken kind tag s).wln = s.wln := by simp [taken]
@[simp] theorem taken_meas : (taken kind tag s).meas = s.meas := by simp [taken]
@[simp] theorem taken_scr : (taken kind tag s).scr = s.scr := by simp [taken]
@[simp] theorem taken_brd : (taken kind tag s).brd = s.brd := by simp [taken]
@[simp] theorem taken_diag : (taken kind tag s).diag = s.diag := by simp [taken]
@[simp] theorem taken_freeCtr : (taken kind tag s).freeCtr = s.freeCtr := by simp [taken]
@[simp] theorem taken_pending : (taken kind tag s).pending = s.pending := by simp [taken]
@[simp] theorem startTx_clock : (startTx s).link.clock = s.link.clock := by
  have := (startTx_kept s).1; unfold LinkKept at this; tauto
@[simp] theorem taken_clock : (taken kind tag s).link.clock = s.link.clock := by simp [taken]
@[simp] theorem startTx_mask : (startTx s).link.mask = s.link.mask := by
  have := (startTx_kept s).1; unfold LinkKept at this; tauto
@[simp] theorem taken_mask : (taken kind tag s).link.mask = s.link.mask := by simp [taken]
@[simp] theorem startTx_rate : (startTx s).link.rate = s.link.rate := by
  have := (startTx_kept s).1; unfold LinkKept at this; tauto
@[simp] theorem taken_rate : (taken kind tag s).link.rate = s.link.rate := by simp [taken]
@[simp] theorem startTx_brk : (startTx s).link.brk = s.link.brk := by
  have := (startTx_kept s).1; unfold LinkKept at this; tauto
@[simp] theorem taken_brk : (taken kind tag s).link.brk = s.link.brk := by simp [taken]

/-- Whether a clear may be pending depends on the attempts and on STC only. -/
theorem ClearOk.congr {s t : State} (h : ClearOk s) (ha : t.cst.attempts = s.cst.attempts)
    (hc : t.stc.clearPending = true → s.stc.clearPending = true) : ClearOk t := by
  intro hp
  have : onHill? t = onHill? s := by simp [onHill?, ha]
  rw [this]
  exact h (hc hp)

/-- What holds of marks and waits depends on the attempts and on the waits only. -/
theorem MarksOk.congr {s t : State} (h : MarksOk s) (ha : t.cst.attempts = s.cst.attempts)
    (hw : ∀ w ∈ t.meas.waits, w ∈ s.meas.waits) : MarksOk t := by
  have hat : ∀ n, attempt? t n = attempt? s n := fun n => by simp [attempt?, ha]
  refine ⟨by rw [ha]; exact h.1, fun w hm => ?_⟩
  rw [hat]
  exact h.2 w (hw w hm)

/-- A request completes when its block's answer is known: a state that has LINK but for notices, a code and data. -/
theorem Completes.of_answer {i : Instr} {kind tag : Byte} {ps : List Byte} {serve : State → Served} {s : State}
    {code : ReplyCode} {data : ReplyData} {bs : List Block} {P : State → Prop} (u : State)
    (hF : Free s) (hi : requestFrame i = some (kind, tag, ps)) (he : exec i s = request i serve s)
    (hr : serve (taken kind tag s) = { st := u, code, data }) (hk : u.link.core = (taken kind tag s).link.core)
    (ho : OnlyChanges (.brd :: .link :: bs) s (settle (waiting kind tag { st := u, code, data })))
    (hP : P (settle (waiting kind tag { st := u, code, data }))) : Completes i code data bs s P := by
  refine Completes.of_served _ hF hi he hr ?_ rfl rfl ho hP
  simp only [Link.core, Link.mk.injEq] at hk
  exact ⟨_, hk.2.2.2.2.1, rfl, rfl⟩

/-- A request whose block changes nothing completes quietly. -/
theorem Completes.quiet {i : Instr} {kind tag : Byte} {ps : List Byte} {serve : State → Served} {s : State}
    {code : ReplyCode} {data : ReplyData} (hF : Free s) (hi : requestFrame i = some (kind, tag, ps))
    (he : exec i s = request i serve s) (hr : serve (taken kind tag s) = { st := taken kind tag s, code, data }) :
    Completes i code data [] s (Quiet s) := by
  refine Completes.of_answer _ hF hi he hr rfl ⟨fun b hb => ?_, ?_, ?_⟩ (Quiet.served rfl (by simp))
  · cases b <;> simp [SameBlock, waiting] at hb ⊢
  · simp [waiting]
  · simp [waiting]

end Sys2Proof
end

