-- ==== Sys2Proof/Laws/Board.lean ====
section
/-! SUPPORT. What notices, counted events and enqueues do, each said once: the lemmas to cite instead of unfolding them. -/

set_option Elab.async false

namespace Sys2Proof

open Machine

variable (s : State)

/-! ## Notices and counted events -/

@[simp] theorem notify_link (b : NoticeBody) : (notify b s).link = queueNotice b s.link := rfl

theorem notifyState_link (n r b : Nat) (o : Option AttemptState) (x : AttemptState) :
    (notifyState n r b o x s).link = queueNotice (.stateChange n r b o x) s.link := rfl

@[simp] theorem queueNotice_tx (b : NoticeBody) (l : Link) : (queueNotice b l).tx = l.tx := by
  have := queueNotice_core b l; simp only [Link.core, Link.mk.injEq] at this; tauto

@[simp] theorem queueNotice_clock (b : NoticeBody) (l : Link) : (queueNotice b l).clock = l.clock := by
  have := queueNotice_core b l; simp only [Link.core, Link.mk.injEq] at this; tauto

@[simp] theorem queueNotice_inHand (b : NoticeBody) (l : Link) : (queueNotice b l).inHand = l.inHand := by
  have := queueNotice_core b l; simp only [Link.core, Link.mk.injEq] at this; tauto

/-- A counted event: the counters move, and those that wrap send their notices (R162). -/
theorem count_diag (k : CounterKind) : (count k s).diag = counted k s := by
  simp only [count]; repeat' split
  all_goals rfl

theorem count_link (k : CounterKind) :
    (count k s).link = (overflows k s).foldl (fun l b => queueNotice b l) s.link := by
  simp only [count, overflows]; repeat' split
  all_goals rfl

theorem reportFault_diag (k : FaultKind) (d : Nat) : (reportFault k d s).diag = reported k d s := by
  cases h : s.diag.capture <;> simp only [reportFault, reported, State.onDiag_diag, h]

/-- A notice taken by a link and the notices of a statement agree on the parts that a statement names. -/
theorem handed_nil : handed [] s = (startTx s).link := rfl

theorem handed_append (a b : List NoticeBody) : handed (a ++ b) s = b.foldl (fun l x => queueNotice x l) (handed a s) := by
  simp [handed, List.foldl_append]

/-- What `queueNotice` reads and writes: the result on a link that differs elsewhere. -/
theorem queueNotice_on (b : NoticeBody) (l : Link) (h : Option InHand) :
    queueNotice b { l with inHand := h } = { queueNotice b l with inHand := h } := by
  unfold queueNotice; repeat' split
  all_goals rfl

theorem foldl_queueNotice_on (bs : List NoticeBody) (l : Link) (h : Option InHand) :
    bs.foldl (fun l b => queueNotice b l) { l with inHand := h } =
      { bs.foldl (fun l b => queueNotice b l) l with inHand := h } := by
  induction bs generalizing l with
  | nil => rfl
  | cons b r ih => simp only [List.foldl_cons, queueNotice_on, ih]

/-- Notices that a request's block sends, beside the request in hand. -/
theorem foldl_taken (kind tag : Byte) (bs : List NoticeBody) :
    bs.foldl (fun l b => queueNotice b l) (taken kind tag s).link =
      { handed bs s with inHand := some { kind, tag, change := none } } := foldl_queueNotice_on _ _ _

/-- A request whose block changes LINK only by notices sends them. -/
theorem Sends.of_served {s : State} {kind tag : Byte} {r : Served} {bs : List NoticeBody}
    (h : r.st.link = bs.foldl (fun l b => queueNotice b l) (taken kind tag s).link) :
    Sends bs s (settle (waiting kind tag r)) := by
  rw [foldl_taken] at h
  exact Sends.served (by rw [h]) (by rw [h]) (by rw [h]; exact handed_tx bs s)

/-- An event whose effect changes LINK only by notices sends them. -/
theorem Sends.of_effect {s u : State} {bs : List NoticeBody} (h : u.link = handed bs s) : Sends bs s (settle u) :=
  Sends.settled (by rw [h]) (by rw [h]) (by rw [h]; exact handed_tx bs s)

theorem LinkKept.of_effect {s u : State} (h : u.link.core = (startTx s).link.core) : LinkKept s (settle u) :=
  LinkKept.settled ((startTx_kept s).1.trans (LinkKept.of_core h))

/-! ## Enqueues -/

theorem enqueued_length (k : Key) (b : Bool) (q : List BoardItem) : (enqueued k b q).1.length ≤ max 32 (q.length + 1) := by
  unfold enqueued dropBackground; repeat' split
  all_goals simp [List.length_eraseIdx]
  all_goals (try split) <;> omega

theorem enqueued_room (k : Key) (b : Bool) (q : List BoardItem) (h : q.length < 32) :
    (enqueued k b q).2 = false ∧ (enqueued k b q).1.length ≤ q.length + 1 := by
  unfold enqueued; repeat' split
  all_goals simp

theorem enqueueWith_brd (k : Key) (b : Bool) :
    (enqueueWith k b s).brd = { s.brd with queue := (enqueued k b s.brd.queue).1 } := by
  simp only [enqueueWith]; split <;> simp

theorem enqueue_brd (k : Key) : (enqueue k s).brd = { s.brd with queue := (enqueued k false s.brd.queue).1 } :=
  enqueueWith_brd s k false

/-- The subjects after an enqueue that names one (R142). -/
def subjectsWith (f : BoardField) (n : Nat) (b : Subjects) : Subjects :=
  match f with
  | .jumper => { b with jumper := some n }
  | .speed => { b with speed := some n }
  | .distance => { b with distance := some n }
  | .marks => { b with marks := some n }
  | .points => { b with points := some n }
  | .rank => { b with rank := some n }
  | .light | .countdown | .gate | .wind | .message | .top => b

theorem enqueueSubject_brd (f : BoardField) (n : Nat) : (enqueueSubject f n s).brd =
    { s.brd with queue := (enqueued (key f) false s.brd.queue).1, subjects := subjectsWith f n s.brd.subjects } := by
  unfold enqueueSubject; rw [enqueue_brd]; cases f <;> rfl

/-- With room in the queue an enqueue touches nothing but BRD. -/
theorem enqueueWith_of_room (k : Key) (b : Bool) (h : s.brd.queue.length < 32) :
    (enqueueWith k b s).link = s.link ∧ (enqueueWith k b s).diag = s.diag := by
  simp [enqueueWith, (enqueued_room k b _ h).1]

theorem enqueue_of_room (k : Key) (h : s.brd.queue.length < 32) :
    (enqueue k s).link = s.link ∧ (enqueue k s).diag = s.diag := enqueueWith_of_room s k false h

theorem enqueueSubject_of_room (f : BoardField) (n : Nat) (h : s.brd.queue.length < 32) :
    (enqueueSubject f n s).link = s.link ∧ (enqueueSubject f n s).diag = s.diag := by
  unfold enqueueSubject; exact enqueue_of_room _ _ h

/-! ## The light -/

@[simp] theorem setLight_light (l : Light) : (setLight l s).stc.light = l := by
  simp only [setLight]; split <;> simp_all [lit]

theorem setLight_of_ne (l : Light) (h : s.stc.light ≠ l) : setLight l s =
    enqueue (key .light) (notify (.light s.stc.light l ((onHill? s).map Attempt.number)) (s.onStc (lit l))) := by
  simp [setLight, Ne.symm h]

/-! ## The hill -/

theorem HillClear.none {s : State} (h : HillClear s) : onHill? s = none := by
  unfold onHill?; rw [List.find?_eq_none]; intro a ha; simp [h a ha]

theorem HillClear.of_none {s : State} (h : onHill? s = .none) : HillClear s := by
  unfold onHill? at h; rw [List.find?_eq_none] at h; intro a ha; simpa using h a ha

theorem onHill_mem {s : State} {a : Attempt} (h : onHill? s = some a) : a ∈ s.cst.attempts ∧ a.state.onHill = true := by
  unfold onHill? at h; exact ⟨List.mem_of_find?_eq_some h, by simpa using List.find?_some h⟩

/-! ## The return to the jury gate, and a change of head -/

/-- The notices of a return move's request. -/
theorem requestReturn_link (h : s.brd.queue.length < 32) :
    (requestReturn s).link = (returnNotices s.gate).foldl (fun l b => queueNotice b l) s.link := by
  unfold requestReturn returnInIdle returnNotices
  repeat' split
  all_goals simp_all [startMove, manualMove]
  exact (enqueue_of_room _ _ (by simpa using h)).1

/-- The key of a return move's request. -/
theorem requestReturn_brd : (requestReturn s).brd = { s.brd with queue := onto (returnKeys s.gate) s.brd.queue } := by
  unfold requestReturn returnInIdle returnKeys
  repeat' split
  all_goals simp_all [manualMove, onto, enqueue_brd]

/-- With room in the queue a return move's request leaves DIAG. -/
theorem requestReturn_diag (h : s.brd.queue.length < 32) : (requestReturn s).diag = s.diag := by
  unfold requestReturn returnInIdle
  repeat' split
  all_goals simp_all [manualMove]
  exact (enqueue_of_room _ _ (by simpa using h)).2

/-- The head of the list is still the bib of the coach reduction, or none is pending. -/
theorem afterHeadChange_of_kept (h : coachOff s s.cst.startList = false) : afterHeadChange s = s := by
  unfold coachOff at h; unfold afterHeadChange
  split <;> simp_all

/-- Another bib has come to the head of the list (R25, R57). -/
theorem afterHeadChange_of_off (h : coachOff s s.cst.startList = true) :
    afterHeadChange s = requestReturn (s.onStc fun c => { c with coach := none }) := by
  unfold coachOff at h; unfold afterHeadChange
  split <;> simp_all

end Sys2Proof
end

