-- ==== Sys2Proof/Tests/Slice0.lean ====
section
/-! SUPPORT. The writer's own tests: ill-formed commands, examples of the spec, and for every statement of
Sys2Proof/Certificates/Slice0/Obligations.lean with hypotheses a state and operands that meet them, clause by clause. -/

set_option Elab.async false

namespace Sys2Proof.Tests

open Machine

/-! ## States -/

/-- A part at rest: round 1 is OPEN with bib 7 on its start list, the positioner is IDLE at gate 3, a slot is present, consoles
are ACTIVE, and nothing is on LINK's lines. -/
def rested : State :=
  let s := State.reset
  { s with
    prof := { s.prof with valid := true, profile := { s.prof.profile with
      slots := some { address := 3, bearing := 250, gating := true, scoring := true } :: List.replicate 7 none,
      survey := some [{ raw := 12000, mm := 118000 }, { raw := 14000, mm := 135500 }] } },
    cst := { s.cst with round := 1, rstate := .opened, startList := [7] },
    stc := { s.stc with light := .red },
    gate := { s.gate with state := .idle, current := some 3, jury := some 3, reference := some 3, lastDir := some .up },
    meas := { s.meas with stateA := .active, stateB := .active },
    brd := { s.brd with ready := true },
    link := { s.link with notices := [] },
    diag := { s.diag with capture := none } }

/-- The light that goes with a state of the attempt on the hill. -/
def lightOf : AttemptState → Light
  | .waiting => .amber
  | .cleared => .green
  | .inRun | .flight | .scoring | .complete | .lapsed | .voided | .cancelled => .red

/-- The first attempt of round 1, in a state, by bib 9. -/
def attempt (x : AttemptState) : Attempt := { newAttempt 1 1 9 none with state := x }

/-- The part at rest with that attempt. -/
def hill (x : AttemptState) : State :=
  { rested with cst := { rested.cst with attempts := [attempt x] }, stc := { rested.stc with light := lightOf x } }

/-- The same in another round state. -/
def round (r : RoundState) (s : State) : State := { s with cst := { s.cst with rstate := r } }

/-- The same with the positioner in another state. -/
def gateAt (g : GateState) (s : State) : State := { s with gate := { s.gate with state := g } }

/-- The state that a command leaves. -/
def after (i : Instr) (s : State) : State :=
  match exec i s with
  | .next t => t
  | .fault _ | .refused _ => s

theorem free {s : State} (h : s.link.inHand = none) (h' : s.link.replyWaiting = none) (h'' : s.link.tx = .idle) : Free s :=
  ⟨h, h', by simp [h'']⟩

theorem clear {s : State} (h : s.cst.attempts.all (fun a => !a.state.onHill) = true) : HillClear s := by
  intro a ha; simpa using List.all_eq_true.1 h a ha

theorem coachNone {s : State} (h : s.stc.coach = none) : CoachOk s := by intro b k hb; simp [h] at hb

/-- What is asked below of a state that has the hill's laws: no arm is held, no coach reduction is pending and the positioner is
at rest. -/
def lawful (s : State) : Bool :=
  s.cst.attempts.map Attempt.number == List.range' 1 s.cst.attempts.length
    && (s.cst.attempts.filter fun a => a.state.onHill).length ≤ 1
    && s.cst.attempts.all (fun a => !a.state.onHill || (a.round == s.cst.round && s.cst.rstate == .opened))
    && !s.stc.heldArm && s.stc.coach == none && !s.gate.state.motion

theorem laws {s : State} (h : lawful s = true) : HillLaws s := by
  simp only [lawful, Bool.and_eq_true, beq_iff_eq, decide_eq_true_eq, List.all_eq_true, Bool.or_eq_true, Bool.not_eq_true'] at h
  obtain ⟨⟨⟨⟨⟨hn, h1⟩, ho⟩, hh⟩, hc⟩, hm⟩ := h
  refine ⟨⟨hn, h1, fun a ha hx => ?_, by simp [hh]⟩, coachNone hc, by simp [GateOk, hm]⟩
  rcases ho a ha with h | h
  · simp [hx] at h
  · exact h

/-- What MarksOk asks, as a check. -/
def marksLawful (s : State) : Bool :=
  s.cst.attempts.all (fun a => !a.state.onHill
      || (a.markA.isNone && a.markB.isNone && a.distance.isNone && a.distanceStatus == .none))
    && s.meas.waits.all fun w =>
        ((attempt? s w.1).map fun a => a.state == .scoring && a.distanceStatus == .pendingSecond).getD false

theorem marks {s : State} (h : marksLawful s = true) : MarksOk s := by
  simp only [marksLawful, Bool.and_eq_true, List.all_eq_true, Bool.or_eq_true, Bool.not_eq_true', Option.isNone_iff_eq_none,
    beq_iff_eq] at h
  refine ⟨fun a ha hx => ?_, fun w hw => ?_⟩
  · rcases h.1 a ha with h | ⟨⟨⟨ha, hb⟩, hd⟩, hs⟩
    · simp [hx] at h
    · exact ⟨ha, hb, hd, hs⟩
  · have := h.2 w hw
    cases ha : attempt? s w.1 with
    | none => simp [ha] at this
    | some a => exact ⟨a, rfl, by simpa [ha] using this⟩

/-! ## Ill-formed commands -/

theorem test_wf_hill : (Instr.setHill 1 { defaultHill with mvh := 256 }).wf = false := by decide
theorem test_wf_hill_name : (Instr.setHill 1 { defaultHill with name := List.replicate 151 0x41#8 }).wf = false := by decide +kernel
theorem test_wf_station : (Instr.setStation 1 0 1 3 65536 1).wf = false := by decide
theorem test_wf_survey : (Instr.setSurvey 1 (List.replicate 33 ⟨1, 1⟩)).wf = false := by decide +kernel
theorem test_wf_survey_point : (Instr.setSurvey 1 [⟨65536, 1⟩]).wf = false := by decide
theorem test_wf_lines : (Instr.setLines 1 (List.replicate 15 (17, 0))).wf = false := by decide
theorem test_wf_lines_code : (Instr.setLines 1 (List.replicate 16 (256, 0))).wf = false := by decide
theorem test_wf_read_profile : (Instr.readProfile 1 256 0).wf = false := by decide
theorem test_wf_write_line : (Instr.writeLine 1 0 256).wf = false := by decide
theorem test_wf_open_round : (Instr.openRound 1 1 none).wf = false ∧ (Instr.openRound 1 0 (some 5)).wf = false := by decide
theorem test_wf_entries : (Instr.addEntries 1 []).wf = false ∧ (Instr.addEntries 1 (List.replicate 5 ⟨7, [], [0, 0, 0]⟩)).wf = false
    ∧ (Instr.addEntries 1 [⟨7, [], [0, 0]⟩]).wf = false
    ∧ (Instr.addEntries 1 (List.replicate 4 ⟨7, List.replicate 60 0x41#8, [0, 0, 0]⟩)).wf = false := by decide +kernel
theorem test_wf_bibs : (Instr.withdrawEntry 1 65536).wf = false ∧ (Instr.moveEntry 1 7 65536).wf = false
    ∧ (Instr.coachReduction 1 7 256).wf = false := by decide
theorem test_wf_gate : (Instr.moveGate 1 256).wf = false := by decide
theorem test_wf_scoring : (Instr.enterMark 1 1 256 0).wf = false ∧ (Instr.closeMarks 1 65536).wf = false
    ∧ (Instr.setDistance 1 1 65536).wf = false ∧ (Instr.setWind 1 1 32768).wf = false
    ∧ (Instr.voidAttempt 1 65536).wf = false ∧ (Instr.readAttempt 1 65536).wf = false := by decide
theorem test_wf_stations : (Instr.stationStatus 1 256).wf = false ∧ (Instr.disableStation 1 256).wf = false
    ∧ (Instr.enableStation 1 256).wf = false := by decide
theorem test_wf_message : (Instr.boardMessage 1 256 []).wf = false
    ∧ (Instr.boardMessage 1 1 (List.replicate 197 0x41#8)).wf = false := by decide +kernel
theorem test_wf_link : (Instr.setCursor 1 0 65536 0).wf = false ∧ (Instr.readAtCursor 1 256).wf = false
    ∧ (Instr.setClock 1 4294967296).wf = false ∧ (Instr.setLink 1 256 0).wf = false
    ∧ (Instr.selectCounter 1 0 256 0).wf = false ∧ (Instr.unknownKind 1 0x30).wf = false := by decide
theorem test_wf_events : (Instr.cellBEdge 200001).wf = false ∧ (Instr.echo true 4097).wf = false
    ∧ (Instr.markRecord .a []).wf = false ∧ (Instr.heartbeat .a []).wf = false ∧ (Instr.frameReceived []).wf = false
    ∧ (Instr.secondMarkWaitExpiry 401).wf = false := by decide

/-! ## Examples of the spec -/

theorem test_crc_check_value : crc [0x31, 0x32, 0x33, 0x34, 0x35, 0x36, 0x37, 0x38, 0x39] = 0x29B1#16 := by decide +kernel

theorem test_marks_convert :
    convertMark [⟨12000, 118000⟩, ⟨14000, 135500⟩] 13100 = (255, false)
      ∧ convertMark [⟨12000, 118000⟩, ⟨14000, 135500⟩] 14000 = (271, false)
      ∧ convertMark [⟨12000, 118000⟩, ⟨14000, 135500⟩] 11000 = (236, true) := by decide

theorem test_style_points :
    stylePoints .full [some 36, some 37, some 35, some 36, some 38] = 545
      ∧ stylePoints .closed4 [some 36, some 37, some 35, some 38, none] = 545 := by decide

theorem test_attempt_74 :
    computePoints defaultHill (some 14) { newAttempt 74 1 12 none with
        distance := some 255, style := .full, marks := [some 36, some 37, some 35, some 36, some 38],
        juryGate := some 12, attemptGate := some 12, wind := some 80 } =
      { pD := 735, pS := 545, pG := 144, pW := -64, total := 1360 } := by decide

theorem test_clamped_attempt :
    computePoints defaultHill (some 10) { newAttempt 1 1 9 none with
        distance := some 150, style := .full, marks := List.replicate 5 (some 20),
        juryGate := some 15, attemptGate := some 15, wind := some 150 } =
      { pD := 0, pS := 300, pG := -360, pW := -120, total := 0 } := by decide

theorem test_cosine :
    cosTable 0 = 10000 ∧ cosTable 60 = 5000 ∧ cosTable 90 = 0 ∧ cosTable 180 = -10000 ∧ cosTable 359 = 9998 := by decide

theorem test_heartbeat_bytes : heartbeatBytes .a = [0xE6, 0x41, 0xD9] := by decide

/-- Inverted, a character's data bits and its stop bit are the other way round (R73). -/
theorem test_polarized :
    polarized true { byte := 0x2E, framing := true } = { byte := 0xD1, framing := false }
      ∧ polarized true { byte := 0x2E, framing := false } = { byte := 0xD1, framing := true } := by decide

/-- WIND_TXEN moved by SET LINES stays inactive in the exchange in progress, and the next exchange drives it (R7, R16). -/
theorem test_txenMoved :
    let s := { State.reset with wln := { State.reset.wln with txenMoved := true } }
    (enterTurnaround s).wln.txen = false ∧ (enterTurnaround (beginExchange 0 s)).wln.txen = true := by decide +kernel

/-- A mean that became stale by age, with that still to be taken, is a board change at a cycle end without a mean (R98). -/
theorem test_staleAtCycleEnd :
    let s := { State.reset with wln := { State.reset.wln with
      gating := { State.reset.wln.gating with value := some 12, age := 50000 } } }
    freshGating s = none ∧ (cycleEndWork s).wln.windHold = some 1000
      ∧ (cycleEndWork { s with wln := { s.wln with gating := { s.wln.gating with staleTaken := true } } }).wln.windHold = none := by
  decide +kernel

/-- A slot that became present in this cycle stays a newcomer where its address changes again, and is not due in the cycle (R5). -/
theorem test_newcomer :
    let s := { rested with wln := { rested.wln with
      poll := .inCycle, stations := rested.wln.stations.set 0 { stationReset with newcomer := true } } }
    let t := after (.setStation 1 0 1 9 250 1) (round .confirmed s)
    (t.prof.profile.slots[0]?.join.map StationSlot.address) = some 9 ∧ (station t 0).newcomer = true ∧ due t 0 = false := by
  decide +kernel

/-! ## States and operands that meet the hypotheses of the statements -/

/-- A request is in hand and its reply is being sent; `n` frames wait. -/
def served (n : Nat) : State :=
  { rested with link := { rested.link with
      inHand := some { kind := 0x31, tag := 1, change := none },
      tx := .reply { kind := 0xB1, tag := 1, code := .state, data := .none } 0,
      buffer := List.replicate n (encodeRequest (.clear 2)) } }

/-- A queued notice. -/
def notice : Notice := { seq := 0, time := 0, body := .profileStored false }

/-- A character without a framing error. -/
def char (b : Byte) : RxChar := { byte := b, framing := false }

/-- A competitor with a round total. -/
def competitor (b : Nat) : Competitor :=
  { bib := b, name := [], nation := [], disqualified := false, totals := [some 1000, none, none, none] }

/-- Two ranked competitors of the same total. -/
def ranked : State :=
  { rested with cst := { rested.cst with directory := [competitor 9, competitor 7] }, scr := { ranking := [7, 9] } }

theorem ranking_of_none {s : State} (hd : s.cst.directory = []) (hr : s.scr.ranking = []) : RankingOk s := by
  simp [RankingOk, hd, hr]

theorem test_met_aLaw_queues : QueuesOk (served 4) ∧ HandOk (served 4) ∧ MessagesOk (served 4) ∧ Goes (step (served 4)) :=
  ⟨⟨⟨by decide, by decide⟩, by decide, by decide⟩, .inr ⟨rfl, _, _, rfl, rfl, rfl⟩, rfl, _, rfl⟩

/-- A clear is pending for the attempt at the bar. -/
def clearing (v : Option Int) : State :=
  { hill .waiting with stc := { (hill .waiting).stc with clearPending := true },
                       wln := { (hill .waiting).wln with gating := { (hill .waiting).wln.gating with value := v } } }

theorem test_met_aLaw_light :
    (HillLaws (hill .inRun) ∧ ClearOk (hill .inRun) ∧ TrapOk (hill .inRun) ∧ LightOk (hill .inRun) ∧ MarksOk (hill .inRun)
      ∧ Goes (step (hill .inRun)))
    ∧ (HillLaws (clearing none) ∧ ClearOk (clearing none) ∧ TrapOk (clearing none) ∧ LightOk (clearing none)
      ∧ MarksOk (clearing none) ∧ Goes (step (clearing none))) :=
  ⟨⟨laws rfl, by simp [ClearOk, hill, rested, State.reset, stcReset], by simp [TrapOk, hill, rested, State.reset, measReset],
      rfl, marks rfl, _, rfl⟩,
    laws rfl, fun _ => ⟨_, rfl, rfl⟩, by simp [TrapOk, clearing, hill, rested, State.reset, measReset], rfl, marks rfl, _, rfl⟩

theorem test_met_aLaw_ranking : RankingOk ranked ∧ Goes (step ranked) := by
  refine ⟨⟨by decide, by decide, ?_, ?_⟩, _, rfl⟩
  · intro b; simp [ranked, competitor, qualifies]; tauto
  · simp only [ranked, List.pairwise_cons, List.mem_singleton, List.not_mem_nil]
    refine ⟨?_, by simp⟩
    rintro b rfl x y hx hy
    obtain rfl : competitor 7 = x := by simpa [findBib, competitor] using hx
    obtain rfl : competitor 9 = y := by simpa [findBib, competitor] using hy
    decide

/-- Every field at its widest. -/
theorem test_met_aDecode :
    (Instr.enterMark 255 65535 255 255).wf = true ∧ (requestFrame (.enterMark 255 65535 255 255)).isSome = true
    ∧ (Instr.setWind 0 0 (-32768)).wf = true ∧ (Instr.setClock 0 4294967295).wf = true
    ∧ (Instr.openRound 1 1 (some 255)).wf = true ∧ (Instr.openRound 1 0 none).wf = true
    ∧ (Instr.addEntries 1 [⟨65535, List.replicate 191 0x41#8, [0, 0, 0]⟩]).wf = true
    ∧ (Instr.unknownKind 0 0xFF).wf = true := by decide +kernel

/-- CLEAR with nobody on the hill is answered with STATE. -/
theorem test_met_aRefusedRequest : Free rested ∧ ∃ t, Answers (.clear 1) .state .none rested t :=
  ⟨free rfl rfl rfl, after (.clear 1) rested, rfl, _, rfl, ⟨_, rfl, rfl, rfl⟩, .inr ⟨_, rfl⟩⟩

/-- Three frames wait, and four. -/
theorem test_met_aWaitingRequest :
    (served 3).link.inHand.isSome = true ∧ (served 3).link.tx ≠ .idle ∧ (served 3).link.buffer.length < 4
    ∧ (served 4).link.inHand.isSome = true ∧ (served 4).link.tx ≠ .idle ∧ 4 ≤ (served 4).link.buffer.length := by
  decide +kernel

/-- The receiver hunts and nothing is in hand. -/
theorem test_met_aReceivedFrame :
    Free rested ∧ rested.link.asm = [] ∧ rested.link.buffer = [] ∧ (Instr.setCursor 1 0 400 1).wf = true
    ∧ (requestFrame (.setCursor 1 0 400 1)).isSome = true := by
  repeat' first
    | decide +kernel
    | exact free rfl rfl rfl
    | apply And.intro

/-- The same part with notices and a break setting, and what its transmitter sends. -/
def sending (tx : Tx) (brk : Bool) (ns : List Notice) (s : State) : State :=
  { s with link := { s.link with tx, brk, notices := ns } }

/-- A reply is being sent with no notice behind it, with one, and with one that a break comes before, and with a frame in the
input buffer; then a notice, behind which a reply waits, another notice or nothing; then a break. -/
theorem test_met_theTransmitter :
    (∃ r status h, (served 0).link.tx = .reply r status ∧ (served 0).link.inHand = some h ∧ h.change = none
      ∧ (served 0).link.buffer = [] ∧ (served 0).link.replyWaiting = none ∧ (served 0).link.notices = []
      ∧ (sending (served 0).link.tx false [notice] (served 0)).link.notices = notice :: []
      ∧ (sending (served 0).link.tx true [notice] (served 0)).link.notices ≠ [])
    ∧ (∃ r status h, (served 1).link.tx = .reply r status ∧ (served 1).link.inHand = some h ∧ h.change = none
      ∧ (served 1).link.buffer = encodeRequest (.clear 2) :: [] ∧ (served 1).link.replyWaiting = none
      ∧ (Instr.clear 2).wf = true ∧ (requestFrame (.clear 2)).isSome = true ∧ (served 1).link.notices = [])
    ∧ (∀ brk, (sending (.notice notice) brk [notice] rested).link.replyWaiting = none
      ∧ (sending (.notice notice) brk [notice] rested).link.notices = notice :: []
      ∧ (sending (.notice notice) brk [notice] rested).link.brk = brk)
    ∧ (sending (.notice notice) false [] rested).link.tx = .notice notice
    ∧ (sending (.notice notice) false [] rested).link.replyWaiting = none
    ∧ (∃ r, ({ (sending (.notice notice) false [] rested).link with
        replyWaiting := some { kind := 0xB1, tag := 1, code := .state, data := .none } } : Link).replyWaiting = some r)
    ∧ (sending .brk true [notice] rested).link.notices = notice :: [] :=
  ⟨⟨_, _, _, rfl, rfl, rfl, rfl, rfl, rfl, rfl, by simp [sending]⟩,
    ⟨_, _, _, rfl, rfl, rfl, rfl, rfl, rfl, rfl, rfl⟩, fun _ => ⟨rfl, rfl, rfl⟩, rfl, rfl, ⟨_, rfl⟩, rfl⟩

/-- A frame of CLEAR with check bytes `hi` and `lo`, its last character with or without a framing error. -/
def clearFrame (hi lo : Byte) (framing : Bool) : List RxChar :=
  clean [0xA7, 2, 0x31, 2, hi] ++ [{ byte := lo, framing }]

/-- No lead while hunting; lengths 1 and 201; a gap with and without a partial frame; a frame of two bytes with a framing error,
and one with another CRC. -/
theorem test_met_theReceiver :
    rested.link.asm = [] ∧ (char 0xA6).byte ≠ 0xA7 ∧ (char 1).byte.toNat < 2 ∧ 200 < (char 201).byte.toNat
    ∧ ({ rested.link with asm := [char 0xA7] } : Link).asm = [char 0xA7] ∧ (char 0xA7).byte = 0xA7
    ∧ (∀ framing, (clearFrame 0 0 framing).map RxChar.byte = 0xA7 :: byte 2 :: ([0x31, 2] ++ [0, 0]))
    ∧ (clearFrame 0 0 true).any RxChar.framing = true ∧ [(0 : Byte), 0] ≠ be16 (crc (byte 2 :: [0x31, 2])).toNat := by
  decide +kernel

/-- A masked group, 31 notices and 32. -/
theorem test_met_aNotice :
    ({ rested.link with mask := 0 } : Link).mask.getLsbD (NoticeBody.profileStored true).group = false
    ∧ rested.link.mask.getLsbD (NoticeBody.profileStored true).group = true ∧ (List.replicate 31 notice).length < 32
    ∧ 32 ≤ (List.replicate 32 notice).length := by
  decide +kernel

/-- A full queue. -/
def fullQueue : List BoardItem :=
  { key := key .light, blank := false } :: (List.range 31).map fun n => { key := { field := .top, line := n + 1 }, blank := false }

/-- A key that is there, one that is not, and a full queue whose first BACKGROUND item is not its first. -/
theorem test_met_anEnqueue :
    key .light ∈ fullQueue.map BoardItem.key ∧ key .gate ∉ fullQueue.map BoardItem.key ∧ 32 ≤ fullQueue.length
    ∧ (fullQueue.tail).length < 32
    ∧ fullQueue = [{ key := key .light, blank := false }] ++ { key := { field := .top, line := 1 }, blank := false } :: fullQueue.drop 2
    ∧ (∀ i ∈ [({ key := key .light, blank := false } : BoardItem)], i.key.field.cls ≠ .background) := by
  decide +kernel

/-- Round 1 is CONFIRMED and a store write runs. -/
def writing : State := { round .confirmed rested with prof := { rested.prof with writing := some rested.prof.profile } }

/-- No round is in progress. -/
def between : State := round .confirmed rested

/-- A round is in progress, or a store write runs; attempts 0, 1, 2 and 401, and one of a confirmed round. -/
theorem test_met_edits :
    Free rested ∧ rested.cst.rstate = .opened ∧ Free writing ∧ writing.cst.rstate = .confirmed
    ∧ writing.prof.writing.isSome = true ∧ Free (round .confirmed (hill .complete))
    ∧ attempt? (round .confirmed (hill .complete)) 1 = some (attempt .complete) ∧ attempt? (hill .complete) 2 = none
    ∧ attempt? (hill .complete) 400 = none ∧ (attempt .complete).round = (round .confirmed (hill .complete)).cst.round := by
  repeat' first
    | decide +kernel
    | exact free rfl rfl rfl
    | apply And.intro

/-- Gates equal to the current gate and one fewer; console B on and off, used before and not. -/
theorem test_met_setHill :
    Free between ∧ hasOpenRound between = false ∧ between.prof.writing = none
    ∧ hillOk { defaultHill with gates := 3 } = true ∧ between.gate.current = some 3 ∧ between.gate.jury = some 3
    ∧ ({ defaultHill with gates := 2 }).gates < 3 ∧ hillOk { defaultHill with kh := 39 } = false ∧ defaultHill.consoleB = 1
    ∧ between.meas.stateB ≠ .disabled ∧ hillOk { defaultHill with consoleB := 0 } = true
    ∧ ({ between.meas with stateB := .disabled } : Meas).stateB = .disabled := by
  repeat' first
    | decide +kernel
    | exact free rfl rfl rfl
    | apply And.intro

/-- A new slot while polling stands and while it goes on, one with the same address, and slot 8. -/
theorem test_met_setStation :
    Free between ∧ hasOpenRound between = false ∧ between.prof.writing = none ∧ between.wln.poll = .stopped
    ∧ between.wln.test = .idle ∧ between.prof.profile.slots.length = 8 ∧ between.wln.stations.length = 8
    ∧ slot? between 7 = none ∧ stationOk between.prof.valid between.prof.profile.slots 7 1 (slotOf 4 359 3) = true
    ∧ ({ between.wln with poll := .between } : Wln).poll ≠ .stopped
    ∧ (slot? between 0).map StationSlot.address = some (slotOf 3 0 1).address
    ∧ (slot? between 7).map StationSlot.address ≠ some (slotOf 4 359 3).address
    ∧ stationOk between.prof.valid between.prof.profile.slots 8 1 (slotOf 4 359 3) = false := by
  repeat' first
    | decide +kernel
    | exact free rfl rfl rfl
    | apply And.intro

/-- The default profile, without a round. -/
def blank : State := { between with prof := { between.prof with profile := defaultProfile } }

/-- A survey of two points and of one; a profile that passes the cross-checks and one without a survey; a write that ends. -/
theorem test_met_surveyAndStore :
    Free between ∧ hasOpenRound between = false ∧ between.prof.writing = none ∧ surveyOk [⟨0, 0⟩, ⟨65535, 600000⟩] = true
    ∧ surveyOk [⟨0, 0⟩] = false ∧ crossChecks between.prof.profile = true ∧ Free blank ∧ hasOpenRound blank = false
    ∧ blank.prof.writing = none ∧ crossChecks blank.prof.profile = false ∧ writing.prof.writing = some rested.prof.profile
    ∧ writing.diag.capture = none
    ∧ ({ writing.diag with capture := some { kind := .boardStall, detail := 1, time := 0 } } : Diag).capture.isSome = true := by
  repeat' first
    | decide +kernel
    | exact free rfl rfl rfl
    | apply And.intro

/-- The codes of the standard map with another last line. -/
def codesOf (last : Nat × Nat) : List (Nat × Nat) :=
  [(0, 1), (1, 1), (2, 1), (3, 0), (4, 0), (5, 0), (6, 0), (7, 1), (8, 1), (9, 0), (10, 0), (11, 1), (12, 0), (13, 0), (14, 2), last]

/-- The map with FL15 as GENERAL_OUT, and with WIND_TXEN there; without GATE_UP the drive is incomplete; the positioner in motion, and a line test. -/
theorem test_met_setLines :
    Free between ∧ hasOpenRound between = false ∧ between.prof.writing = none ∧ between.gate.state.motion = false
    ∧ between.wln.test = .idle ∧ (codesOf (16, 2)).length = 16
    ∧ (assignmentsOf (codesOf (16, 2))).map assignmentsOk = some true
    ∧ (assignmentsOf (codesOf (16, 2))).map driveComplete = some true ∧ between.gate.state ≠ .manual
    ∧ (assignmentsOf (codesOf (16, 2))).map (fun l => placeOf l .windTxen) = some (placeOf standardMap .windTxen)
    ∧ (assignmentsOf ((codesOf (11, 1)).set 11 (17, 0))).map assignmentsOk = some true
    ∧ (assignmentsOf ((codesOf (11, 1)).set 11 (17, 0))).map (fun l => placeOf l .windTxen) ≠
        some (placeOf standardMap .windTxen)
    ∧ (gateAt .manual between).gate.state = .manual
    ∧ ((assignmentsOf ((codesOf (17, 0)).set 7 (17, 0))).map assignmentsOk) = some true
    ∧ ((assignmentsOf ((codesOf (17, 0)).set 7 (17, 0))).map driveComplete) = some false ∧ Free (gateAt .settling between)
    ∧ (gateAt .settling between).gate.state.motion = true
    ∧ ({ between.wln with test := .watching } : Wln).test ≠ .idle := by
  repeat' first
    | decide +kernel
    | exact free rfl rfl rfl
    | apply And.intro

/-- Slots 0, 7 and 8, selector 5, attempt 1. -/
theorem test_met_reads :
    Free (hill .complete) ∧ slot? rested 0 = some { address := 3, bearing := 250, gating := true, scoring := true }
    ∧ slot? rested 7 = none ∧ 7 < 8 ∧ 4 < 5 ∧ attempt? (hill .complete) 1 = some (attempt .complete) := by
  repeat' first
    | decide +kernel
    | exact free rfl rfl rfl
    | apply And.intro

/-- The greatest positions, and the ones after them; a frame with no parameters. -/
theorem test_met_setCursor :
    Free rested ∧ 1 ≤ 400 ∧ 400 ≤ 400 ∧ 1 ≤ 120 ∧ 120 ≤ 120 ∧ 400 < 401 ∧ 120 < 121 ∧ 1 < 2 ∧ ([] : List Byte).length ≠ 4
    ∧ rested.link.asm = [] ∧ rested.link.buffer = [] := by
  repeat' first
    | decide +kernel
    | exact free rfl rfl rfl
    | apply And.intro

/-- A record at position 1 and none; a ranking entry at position 1 and none. -/
theorem test_met_cursors :
    Free (hill .complete)
    ∧ attempt? (hill .complete) (hill .complete).link.attemptCursor.position = some (attempt .complete) ∧ Free rested
    ∧ attempt? rested rested.link.attemptCursor.position = none ∧ Free ranked
    ∧ (rankRecord ranked ranked.link.rankCursor.position).isSome = true
    ∧ rankRecord rested rested.link.rankCursor.position = none := by
  repeat' first
    | decide +kernel
    | exact free rfl rfl rfl
    | apply And.intro

/-- The part at rest with FL15 as an open-drain output of the host. -/
def outLine : State :=
  { rested with prof := { rested.prof with profile := { rested.prof.profile with lines := standardMap.set 15 ⟨.generalOut, .openDrain⟩ } } }

/-- LEAVE is being debounced. -/
def debouncing (level : Bool) : State :=
  { rested with fld := { rested.fld with leave := { level, timer := some 1, stamp := some 500 } } }

/-- JURY_STOP is being debounced. -/
def stopping (level : Bool) (s : State) : State :=
  { s with fld := { s.fld with stop := { level, timer := some 1, stamp := some 500 } } }

/-- FL15 as GENERAL_OUT; line 16; a driven line of each mode; each step of the debounce of LEAVE. -/
theorem test_met_lines :
    Free outLine ∧ (outLine.prof.profile.lines[15]?).map Assignment.fn = some .generalOut ∧ 15 < 16 ∧ 1 < 2
    ∧ (outLine.prof.profile.lines[0]?).map Assignment.fn ≠ some .generalOut
    ∧ outLine.prof.profile.lines[15]? = some ⟨.generalOut, .openDrain⟩
    ∧ outLine.prof.profile.lines[14]? = some ⟨.alert, .openDrain⟩
    ∧ outLine.prof.profile.lines[0]? = some ⟨.lampRed, .pushPull⟩ ∧ outLine.prof.profile.lines[3]? = some ⟨.leave, .input⟩
    ∧ lineOf outLine .leave = some 3 ∧ outLine.fld.leave.level = false ∧ outLine.fld.leave.timer = none
    ∧ (debouncing false).fld.leave.level = false ∧ (debouncing false).fld.leave.timer = some 1
    ∧ lineOf (debouncing true) .leave = some 3 ∧ (debouncing true).fld.leave.level = true
    ∧ (debouncing true).fld.leave.timer = some 1 := by
  repeat' first
    | decide +kernel
    | exact free rfl rfl rfl
    | apply And.intro

/-- An arm is held while the positioner settles. -/
def held : State := { gateAt .settling rested with stc := { rested.stc with heldArm := true } }

theorem laws_held : HillLaws held := ⟨⟨rfl, by decide, by decide, fun _ => clear rfl⟩, coachNone rfl, fun _ => clear rfl⟩

theorem laws_stopping_held : HillLaws (stopping true held) :=
  ⟨⟨rfl, by decide, by decide, fun _ => clear rfl⟩, coachNone rfl, fun _ => clear rfl⟩

/-- Each step of the debounce of JURY_STOP; its stop with nobody on the hill, with a held arm, after a leave and before one. -/
theorem test_met_juryStop :
    lineOf rested .juryStop = some 4 ∧ rested.fld.stop.level = true ∧ rested.fld.stop.timer = none
    ∧ lineOf (stopping true rested) .juryStop = some 4 ∧ (stopping true rested).fld.stop.timer = some 1
    ∧ lineOf (stopping false rested) .juryStop = some 4 ∧ (stopping false rested).fld.stop.level = false
    ∧ (stopping true rested).fld.stop.level = true ∧ HillLaws (stopping true rested) ∧ LightOk (stopping true rested)
    ∧ HillClear (stopping true rested) ∧ (stopping true rested).stc.heldArm = false ∧ HillLaws (stopping true held)
    ∧ LightOk (stopping true held) ∧ HillClear (stopping true held) ∧ (stopping true held).stc.heldArm = true
    ∧ HillLaws (stopping true (hill .flight)) ∧ LightOk (stopping true (hill .flight))
    ∧ onHill? (stopping true (hill .flight)) = some (attempt .flight) ∧ HillLaws (stopping true (hill .waiting))
    ∧ LightOk (stopping true (hill .waiting)) ∧ onHill? (stopping true (hill .waiting)) = some (attempt .waiting) := by
  repeat' first
    | decide +kernel
    | exact clear rfl
    | exact laws rfl
    | exact laws_stopping_held
    | exact rfl
    | apply And.intro

/-- No round is open, and the light is DARK. -/
def unopened (r : RoundState) (n : Nat) : State :=
  { rested with cst := { rested.cst with rstate := r, round := n, startList := [] }, stc := { rested.stc with light := .dark } }

/-- 81 competitors share the first rank. -/
def tied : State :=
  let s := unopened .confirmed 1
  { s with cst := { s.cst with directory := (List.range 81).map fun n => competitor (n + 1) },
           scr := { ranking := (List.range 81).map (· + 1) } }

/-- Before round 1 and before round 4; Q 1 and Q 80; a ranking with a tie that is too long. -/
theorem test_met_openRound :
    Free (unopened .none 0) ∧ (unopened .none 0).prof.writing = none ∧ (unopened .none 0).cst.rstate = .none
    ∧ (unopened .none 0).stc.coach = none ∧ HillClear (unopened .none 0) ∧ (unopened .none 0).stc.light = .dark
    ∧ (unopened .confirmed 3).cst.round < 4
    ∧ (fromRanking (unopened .none 0).cst.directory (unopened .none 0).scr.ranking 80).length ≤ 80 ∧ Free tied
    ∧ tied.prof.writing = none ∧ tied.cst.rstate = .confirmed ∧ tied.cst.round < 4 ∧ tied.stc.coach = none ∧ HillClear tied
    ∧ tied.stc.light = .dark ∧ 80 < (fromRanking tied.cst.directory tied.scr.ranking 1).length := by
  repeat' first
    | decide +kernel
    | exact free rfl rfl rfl
    | exact clear rfl
    | apply And.intro

/-- The start list is empty. -/
def empty (r : RoundState) : State := { rested with cst := { rested.cst with rstate := r, startList := [] } }

/-- Round states ENDED, SUSPENDED and OPEN, with an arm held, with an attempt before its leave and with one after it. -/
theorem test_met_rounds :
    Free rested ∧ HillLaws rested ∧ rested.cst.rstate ≠ .ended ∧ rested.cst.rstate ≠ .suspended
    ∧ rested.cst.rstate = .opened ∧ HillClear rested ∧ rested.stc.heldArm = false ∧ rested.stc.light = .red
    ∧ Free (round .ended rested) ∧ HillLaws (round .ended rested) ∧ (round .ended rested).cst.rstate = .ended
    ∧ (round .ended rested).stc.light = .red ∧ HillLaws (round .suspended rested)
    ∧ (round .suspended rested).cst.startList ≠ [] ∧ HillLaws (empty .suspended) ∧ (empty .suspended).cst.startList = []
    ∧ (∀ a ∈ (empty .suspended).cst.attempts, a.round = (empty .suspended).cst.round → a.state ≠ .scoring) ∧ Free held
    ∧ held.cst.rstate = .opened ∧ held.stc.heldArm = true ∧ held.stc.light = .red ∧ HillLaws (hill .inRun)
    ∧ onHill? (hill .inRun) = some (attempt .inRun) ∧ Free (hill .waiting) ∧ HillLaws (hill .waiting)
    ∧ (hill .waiting).cst.rstate = .opened ∧ onHill? (hill .waiting) = some (attempt .waiting) ∧ HillLaws (hill .cleared)
    ∧ onHill? (hill .cleared) = some (attempt .cleared) := by
  repeat' first
    | decide +kernel
    | exact free rfl rfl rfl
    | exact clear rfl
    | exact laws rfl
    | apply And.intro

/-- A round is open. -/
theorem test_met_cancelRound :
    Free (hill .scoring) ∧ hasOpenRound (hill .scoring) = true := by
  repeat' first
    | decide +kernel
    | exact free rfl rfl rfl
    | apply And.intro

/-- Four entries. -/
def four : List Entry := [1, 8, 9, 999].map fun b => { bib := b, name := ascii ['A'], nation := ascii ['N', 'O', 'R'] }

/-- Four entries with bibs 1 and 999 among them. -/
theorem test_met_addEntries :
    Free rested ∧ hasOpenRound rested = true ∧ (∀ e ∈ four, entryOk e = true)
    ∧ (∀ e ∈ four, competitor? rested e.bib = none) ∧ (four.map Entry.bib).Nodup
    ∧ (∀ e ∈ four, duplicateBib rested e.bib = false) ∧ placesHeld rested + four.length ≤ 80
    ∧ rested.cst.directory.length + newBibs rested four ≤ 120 ∧ rested.stc.coach = none := by
  repeat' first
    | decide +kernel
    | exact free rfl rfl rfl
    | apply And.intro

/-- Two bibs wait. -/
def two : State := { rested with cst := { rested.cst with startList := [7, 8] } }

/-- Bib 7 before bib 8 on the start list. -/
theorem test_met_entries :
    Free two ∧ hasOpenRound two = true ∧ 7 ∈ two.cst.startList ∧ two.stc.coach = none ∧ two.cst.startList.erase 7 ≠ []
    ∧ 8 ∉ ([] : List Nat) ∧ two.cst.startList.erase 7 = [] ++ 8 :: [] ∧ 8 ∈ two.cst.startList ∧ 999 ∉ two.cst.startList
    ∧ (round .suspended two).cst.rstate ≠ .opened := by
  repeat' first
    | decide +kernel
    | exact free rfl rfl rfl
    | apply And.intro

/-- The 400th attempt; every row of the table of R42. -/
theorem test_met_armNext :
    Free rested ∧ rested.cst.rstate = .opened ∧ rested.stc.heldArm = false ∧ HillClear rested ∧ rested.prof.valid = true
    ∧ rested.cst.startList = 7 :: [] ∧ rested.cst.attempts.length < 400 ∧ rested.stc.light = .red
    ∧ rested.gate.state = .idle ∧ (gateAt .homing rested).gate.state.motion = true
    ∧ (gateAt .fault rested).gate.state = .fault ∧ (round .suspended rested).cst.rstate ≠ .opened ∧ held.stc.heldArm = true
    ∧ onHill? (hill .waiting) ≠ none ∧ ({ rested.prof with valid := false } : Prof).valid = false
    ∧ (empty .opened).cst.startList = [] ∧ (List.replicate 399 (attempt .complete)).length < 400
    ∧ 400 ≤ (List.replicate 400 (attempt .complete)).length := by
  repeat' first
    | decide +kernel
    | exact free rfl rfl rfl
    | exact clear rfl
    | apply And.intro

/-- A jumper waits at the bar, and the gating mean stands at `v`. -/
def windy (v : Int) : State :=
  { hill .waiting with wln := { (hill .waiting).wln with gating := { (hill .waiting).wln.gating with value := some v } } }

/-- A gating mean at the upper limit and one past it, none at all, a clear that waits; nobody on the hill. -/
theorem test_met_clear :
    Free (windy 300) ∧ HillLaws (windy 300) ∧ onHill? (windy 300) = some (attempt .waiting) ∧ (windy 300).stc.light = .amber
    ∧ (windy 300).stc.clearPending = false ∧ freshGating (windy 300) = some 300 ∧ (windy 300).prof.profile.hill.lo ≤ 300
    ∧ (300 : Int) ≤ (windy 300).prof.profile.hill.hi ∧ freshGating (windy 301) = some 301
    ∧ (windy 301).prof.profile.hill.hi < 301 ∧ freshGating (hill .waiting) = none
    ∧ ({ (windy 300).stc with clearPending := true } : Stc).clearPending = true ∧ onHill? rested = none ∧ Free rested := by
  repeat' first
    | decide +kernel
    | exact free rfl rfl rfl
    | exact laws rfl
    | apply And.intro

/-- A cleared attempt whose start window is about to end. -/
def green : State := { hill .cleared with stc := { (hill .cleared).stc with window := some 1, countdown := some 1 } }

/-- LEAVE has no line. -/
def noLeave (s : State) : State :=
  { s with prof := { s.prof with profile := { s.prof.profile with lines := standardMap.set 3 ⟨.none, .input⟩ } } }

/-- The debounce of LEAVE is about to end. -/
def edge (s : State) : State := { s with fld := { s.fld with leave := { level := false, timer := some 1, stamp := some 500 } } }

/-- A cleared attempt; one that waits; nobody on the hill, and one after its leave; LEAVE without and with a line, and its debounce about to end. -/
theorem test_met_aLeave :
    HillLaws green ∧ onHill? green = some (attempt .cleared) ∧ green.stc.window = some 1 ∧ green.stc.light = .green
    ∧ Free (noLeave green) ∧ HillLaws (noLeave green) ∧ lineOf (noLeave green) .leave = none
    ∧ onHill? (noLeave green) = some (attempt .cleared) ∧ (noLeave green).stc.window = some 1
    ∧ (noLeave green).stc.light = .green ∧ HillLaws (edge green)
    ∧ (edge green).fld.leave = { level := false, timer := some 1, stamp := some 500 } ∧ (edge green).stc.window = some 1
    ∧ onHill? (edge green) = some (attempt .cleared) ∧ HillClear (noLeave rested) ∧ Free (noLeave rested)
    ∧ lineOf (noLeave rested) .leave = none ∧ HillClear (edge rested)
    ∧ (edge rested).fld.leave = { level := false, timer := some 1, stamp := some 500 }
    ∧ (lineOf rested .leave).isSome = true ∧ Free rested ∧ HillLaws (noLeave (hill .waiting))
    ∧ onHill? (noLeave (hill .waiting)) = some (attempt .waiting) ∧ (noLeave (hill .waiting)).stc.light = .amber
    ∧ Free (noLeave (hill .waiting)) ∧ lineOf (noLeave (hill .waiting)) .leave = none ∧ HillLaws (edge (hill .waiting))
    ∧ onHill? (edge (hill .waiting)) = some (attempt .waiting) ∧ (edge (hill .waiting)).stc.light = .amber
    ∧ (edge (hill .waiting)).fld.leave = { level := false, timer := some 1, stamp := some 500 }
    ∧ HillLaws (noLeave (hill .inRun)) ∧ onHill? (noLeave (hill .inRun)) = some (attempt .inRun) ∧ Free (noLeave (hill .inRun))
    ∧ lineOf (noLeave (hill .inRun)) .leave = none ∧ HillLaws (edge (hill .flight))
    ∧ onHill? (edge (hill .flight)) = some (attempt .flight)
    ∧ (edge (hill .flight)).fld.leave = { level := false, timer := some 1, stamp := some 500 } := by
  repeat' first
    | decide +kernel
    | exact free rfl rfl rfl
    | exact clear rfl
    | exact laws rfl
    | apply And.intro

/-- A coach-flagged attempt at the bar, one gate below the jury gate. -/
def coached : State :=
  { hill .waiting with
    cst := { (hill .waiting).cst with attempts := [{ attempt .waiting with coach := some 1 }] },
    gate := { (hill .waiting).gate with current := some 2 } }

/-- Nobody on the hill, with and without a held arm; an attempt after its leave; one before it, with and without the coach flag; the returns. -/
theorem test_met_stop :
    Free rested ∧ HillLaws rested ∧ LightOk rested ∧ HillClear rested ∧ rested.stc.heldArm = false ∧ HillLaws held
    ∧ LightOk held ∧ HillClear held ∧ held.stc.heldArm = true ∧ HillLaws (hill .flight) ∧ LightOk (hill .flight)
    ∧ onHill? (hill .flight) = some (attempt .flight) ∧ HillLaws green ∧ LightOk green
    ∧ onHill? green = some (attempt .cleared) ∧ (attempt .cleared).coach = none ∧ green.stc.window.isSome = true
    ∧ HillLaws coached ∧ LightOk coached ∧ (onHill? coached).map Attempt.coach = some (some 1) ∧ rested.gate.state = .idle
    ∧ rested.gate.current = some 3 ∧ rested.gate.jury = some 3 ∧ coached.gate.current = some 2 ∧ coached.gate.jury = some 3
    ∧ (gateAt .manual coached).gate.state = .manual ∧ (gateAt .settling coached).gate.state = .settling
    ∧ (gateAt .unknown coached).gate.state = .unknown ∧ (gateAt .homing coached).gate.state = .homing := by
  repeat' first
    | decide +kernel
    | exact free rfl rfl rfl
    | exact clear rfl
    | exact laws rfl
    | exact laws_held
    | exact rfl
    | exact .inl rfl
    | apply And.intro

/-- The same with nobody behind. -/
def lastGreen : State := { green with cst := { green.cst with startList := [] } }

/-- A flash timer; the warning period; the countdown at 2; the window of a cleared attempt with an empty start list and a full one. -/
theorem test_met_theStartWindow :
    ({ green.stc with flashTimer := some 1 } : Stc).flashTimer = some 1 ∧ HillLaws green
    ∧ onHill? green = some (attempt .cleared) ∧ green.stc.window = some 1 ∧ green.stc.light = .green
    ∧ 0 < green.prof.profile.hill.warning ∧ ({ green.stc with countdown := some 2 } : Stc).countdown = some 2 ∧ 1 < 2
    ∧ green.cst.startList ≠ [] ∧ HillLaws lastGreen ∧ onHill? lastGreen = some (attempt .cleared)
    ∧ lastGreen.stc.window = some 1 ∧ lastGreen.stc.light = .green ∧ lastGreen.cst.startList = []
    ∧ (∀ r ∈ lastGreen.cst.attempts, r.round = lastGreen.cst.round → r.state ≠ .scoring) := by
  repeat' first
    | decide +kernel
    | exact laws rfl
    | apply And.intro

/-- Gates 1, 3 and 20 from gate 3; in MANUAL, in motion and in FAULT; a reduction that is there already and one that is not. -/
theorem test_met_gateMoves :
    Free rested ∧ 3 ≤ rested.prof.profile.hill.gates ∧ 20 ≤ rested.prof.profile.hill.gates ∧ HillClear rested
    ∧ rested.stc.coach = none ∧ rested.gate.state = .idle ∧ rested.gate.current = some 3
    ∧ (gateAt .manual rested).gate.state = .manual ∧ (gateAt .movingUp rested).gate.state.motion = true
    ∧ (gateAt .fault rested).gate.state = .fault ∧ rested.cst.rstate = .opened ∧ rested.cst.startList.head? = some 7
    ∧ rested.gate.jury = some 3 ∧ 1 < 3 ∧ 2 < 3 ∧ (3 : Nat) ≠ 3 - 2
    ∧ ({ rested.gate with current := some 2 } : Gate).current = some (3 - 1) := by
  repeat' first
    | decide +kernel
    | exact free rfl rfl rfl
    | exact clear rfl
    | apply And.intro

/-- GATE_HOME is active. -/
def atHome : State := { rested with fld := { rested.fld with outside := setLevel rested.fld.outside 10 false } }

/-- The home line active and inactive, from IDLE; HOMING. -/
theorem test_met_homing :
    lineOf rested .gateHome = some 10 ∧ Free rested ∧ rested.gate.state = .idle ∧ HillClear rested ∧ rested.stc.coach = none
    ∧ sensedFn rested .gateHome = some true ∧ sensedFn atHome .gateHome = some false ∧ Free atHome
    ∧ (gateAt .homing rested).gate.state = .homing ∧ lineOf (gateAt .homing rested) .gateHome = some 10 := by
  repeat' first
    | decide +kernel
    | exact free rfl rfl rfl
    | exact clear rfl
    | apply And.intro

/-- The positioner seeks gate 1, its gate unknown. -/
def homing : State := { gateAt .homing rested with gate := { (gateAt .homing rested).gate with current := none } }

/-- A move from gate `c` to gate `n` is under way. -/
def moving (g : GateState) (c n : Nat) : State :=
  { rested with gate := { rested.gate with state := g, current := some c, target := some n, kind := some .move,
                                           stepTimer := some 1, settleTimer := some 1, homeTimer := some 1 } }

/-- A move up has overrun to gate `c`. -/
def settlingUp (c n : Nat) : State := moving .settling c n

/-- A move down has overrun to gate `c`. -/
def settlingDown (c n : Nat) : State :=
  { moving .settling c n with gate := { (moving .settling c n).gate with lastDir := some .down } }

/-- A pulse that leaves a gate to go and one that reaches the target, both ways; at rest and in HOMING, where no target stands; in
SETTLING after a move up and a move down, at gates inside 1..G and at its ends; the settle timer at the target, below and above
it, and after a correcting move. -/
theorem test_met_indexPulses :
    lineOf (moving .movingUp 3 5) .gateIndex = some 9 ∧ (moving .movingUp 3 5).gate.current = some 3
    ∧ (moving .movingUp 3 5).gate.target = some 5 ∧ 3 + 1 ≠ 5 ∧ (moving .movingUp 4 5).gate.current = some 4 ∧ 4 + 1 = 5
    ∧ (moving .movingDown 5 3).gate.state = .movingDown ∧ 5 - 1 ≠ 3 ∧ 4 - 1 = 3 ∧ lineOf homing .gateIndex = some 9 ∧ homing.gate.state = .homing ∧ homing.gate.current = none
    ∧ homing.gate.target = none ∧ lineOf rested .gateIndex = some 9 ∧ rested.gate.state = .idle ∧ rested.gate.target = none
    ∧ (gateAt .unknown rested).gate.state = .unknown ∧ (gateAt .fault rested).gate.state = .fault
    ∧ (gateAt .manual rested).gate.state = .manual ∧ rested.prof.profile.hill.gates = 20
    ∧ (settlingUp 20 19).gate.lastDir = some .up ∧ (settlingUp 20 19).gate.current = some 20
    ∧ (settlingUp 19 19).gate.current = some 19 ∧ (settlingDown 2 3).gate.lastDir = some .down
    ∧ (settlingDown 2 3).gate.current = some 2 ∧ (settlingDown 1 2).gate.current = some 1
    ∧ (settlingDown 1 2).gate.state = .settling ∧ (settlingUp 6 5).gate.corrected = false ∧ 6 ≠ 5
    ∧ (after .settleExpiry (settlingUp 6 5)).gate.state = .movingDown
    ∧ (after .settleExpiry (settlingDown 4 5)).gate.state = .movingUp
    ∧ (after .indexPulse (settlingUp 20 19)).gate.state = .fault ∧ (after .indexPulse (settlingDown 1 2)).gate.state = .fault
    ∧ (moving .settling 5 5).gate.state = .settling
    ∧ (moving .settling 5 5).gate.lastDir = some .up ∧ 5 + 1 ≤ (moving .settling 5 5).prof.profile.hill.gates
    ∧ (moving .settling 5 5).gate.settleTimer = some 1 ∧ (moving .settling 5 5).gate.returnWaiting = false
    ∧ (moving .settling 5 5).stc.heldArm = false ∧ (moving .settling 5 5).gate.kind = some .move
    ∧ Room 1 (moving .settling 5 5) ∧ (moving .settling 4 5).gate.corrected = false
    ∧ ({ (moving .settling 4 5).gate with corrected := true } : Gate).corrected = true := by
  unfold Room; decide +kernel

/-- A move has settled at gate 5 with the jury gate at `j`, while a return may wait and an arm may be held. -/
def arrived (j : Nat) (waiting arm : Bool) : State :=
  { moving .settling 5 5 with gate := { (moving .settling 5 5).gate with jury := some j, returnWaiting := waiting },
                              stc := { (moving .settling 5 5).stc with heldArm := arm } }

theorem laws_arrived (j : Nat) (waiting : Bool) : HillLaws (arrived j waiting true) :=
  ⟨⟨rfl, Nat.zero_le 1, fun _ h => absurd h List.not_mem_nil, fun _ => clear rfl⟩, coachNone rfl, fun _ => clear rfl⟩

/-- A return that has somewhere to go, and one that has not; a held arm with bib 7 next, and in a round that is SUSPENDED. -/
theorem test_met_settled :
    (arrived 3 true true).gate.state = .settling ∧ (arrived 3 true true).gate.settleTimer = some 1
    ∧ (arrived 3 true true).gate.current = some 5 ∧ (arrived 3 true true).gate.target = some 5
    ∧ (arrived 3 true true).gate.returnWaiting = true ∧ (arrived 3 true true).gate.jury = some 3
    ∧ (arrived 3 true true).gate.kind = some .move ∧ 5 ≠ 3 ∧ (arrived 5 true false).gate.jury = some 5
    ∧ (arrived 5 true false).stc.heldArm = false ∧ (arrived 3 false true).stc.heldArm = true
    ∧ (arrived 3 false true).gate.returnWaiting = false ∧ HillLaws (arrived 3 false true) ∧ HillLaws (arrived 5 true true)
    ∧ (arrived 3 false true).cst.rstate = .opened ∧ (arrived 3 false true).cst.startList = 7 :: []
    ∧ (arrived 3 false true).stc.light = .red ∧ Room 3 (arrived 3 false true)
    ∧ lineOf (arrived 3 false true) .gateIndex = some 9 ∧ (round .suspended (arrived 3 false true)).cst.rstate ≠ .opened
    ∧ HillLaws (round .suspended (arrived 3 false true)) := by
  unfold Room
  repeat' first
    | decide +kernel
    | exact laws_arrived _ _
    | exact ⟨⟨rfl, by decide, by decide, fun _ => clear rfl⟩, coachNone rfl, fun _ => clear rfl⟩
    | apply And.intro

/-- A move, with and without a held arm, and homing. -/
theorem test_met_gateTimeout :
    (moving .movingUp 3 5).gate.stepTimer = some 1 ∧ (moving .movingUp 3 5).gate.state = .movingUp
    ∧ (moving .movingUp 3 5).gate.current = some 3 ∧ Room 1 (moving .movingUp 3 5)
    ∧ (moving .homing 3 1).gate.homeTimer = some 1 ∧ (moving .homing 3 1).gate.state = .homing := by
  unfold Room; decide +kernel

/-- The speed trap of an attempt after its leave. -/
def trap (x : TrapState) : State := { hill .inRun with meas := { (hill .inRun).meas with trap := x, trapTimer := some 1 } }

/-- READY, COUNTING, SPENT and OFF; the interval 200,000. -/
theorem test_met_theSpeedTrap :
    lineOf (trap .ready) .cellA = some 5 ∧ lineOf (trap .ready) .cellB = some 6 ∧ (trap .ready).meas.trap = .ready
    ∧ (trap .off).meas.trap ≠ .ready ∧ (trap .counting).meas.trap = .counting
    ∧ onHill? (trap .counting) = some (attempt .inRun) ∧ 200000 ≤ 200000
    ∧ validSpeed (trap .counting).prof.profile.hill.baseline 200000 = some 180
    ∧ validSpeed (trap .counting).prof.profile.hill.baseline 999 = none ∧ Room 1 (trap .counting)
    ∧ (trap .spent).meas.trap = .spent ∧ (trap .off).meas.trap = .off ∧ (trap .counting).meas.trapTimer = some 1 := by
  unfold Room; decide +kernel

/-- The intervals 1,000 and 200,000; a table of two points, its ends, a coordinate between them and one outside on each side. -/
theorem test_met_speedAndDistance :
    validSpeed 20000 200000 = some 360 ∧ validSpeed 1000 1000 = some 3600
    ∧ surveyOk [⟨12000, 118000⟩, ⟨14000, 135500⟩] = true
    ∧ [⟨12000, 118000⟩, ⟨14000, 135500⟩] = [] ++ (⟨12000, 118000⟩ : SurveyPoint) :: ⟨14000, 135500⟩ :: [] ∧ 12000 ≤ 13100
    ∧ 13100 ≤ 14000 ∧ [(⟨12000, 118000⟩ : SurveyPoint), ⟨14000, 135500⟩].head? = some ⟨12000, 118000⟩
    ∧ [(⟨12000, 118000⟩ : SurveyPoint), ⟨14000, 135500⟩].getLast? = some ⟨14000, 135500⟩ ∧ 11999 < 12000 ∧ 14000 < 14001
    ∧ convertMark [⟨12000, 118000⟩, ⟨14000, 135500⟩] 14001 = (271, true) := by
  decide +kernel

/-- Hunting and inside a record, ACTIVE and SILENT, a bib that nobody has. -/
theorem test_met_consoleRecords :
    assembly .a rested.meas = [] ∧ consoleState .a rested.meas ≠ .disabled ∧ consoleState .a rested.meas = .active
    ∧ consoleState .a ({ rested.meas with stateA := .silent } : Meas) = .silent ∧ 1023 < 1024 ∧ 65535 < 65536 ∧ 63 < 64
    ∧ matchMark rested 1023 = none ∧ assembly .a ({ rested.meas with asmA := [char 0xE5] } : Meas) ≠ [] := by
  decide +kernel

/-- An attempt in SCORING with marks of the consoles and a distance status. -/
def measured (a b : Option ConsoleMark) (x : DistanceStatus) : State :=
  let r := { attempt .scoring with markA := a, markB := b, distanceStatus := x,
                                   distance := if x = .single ∨ x = .agreed then a.map ConsoleMark.d else none }
  { hill .scoring with cst := { (hill .scoring).cst with attempts := [r] },
                       meas := { (hill .scoring).meas with waits := if x = .pendingSecond then [(1, 1)] else [] } }

/-- The mark at raw 13,100, where edit numbers stand at 2: 127.5 m. -/
def mark13100 : ConsoleMark := { raw := 13100, edit := 2, d := 255 }

/-- A further mark of console B: the first of B, an edit as old as the last and a younger one, an older one; within the tolerance
and beyond it; alone, with B ACTIVE and after its silence. -/
theorem test_met_aFurtherMark :
    (let s := measured (some mark13100) none .pendingSecond
     HillLaws s ∧ RankingOk s ∧ MarksOk s ∧ assembly .b s.meas = [] ∧ consoleState .b s.meas = .active
       ∧ (matchMark s 9).map Attempt.state = some .scoring ∧ (matchMark s 9).bind (markOf .b) = none
       ∧ (matchMark s 9).bind (markOf .a) = some mark13100 ∧ s.prof.profile.hill.consoleBInUse = true)
    ∧ (let s := measured (some mark13100) (some mark13100) .held
       HillLaws s ∧ RankingOk s ∧ MarksOk s ∧ (matchMark s 9).map Attempt.distanceStatus = some .held
         ∧ (matchMark s 9).bind (markOf .b) = some mark13100 ∧ 1 < mark13100.edit ∧ mark13100.edit ≤ 2 ∧ mark13100.edit ≤ 63)
    ∧ (let s := measured (some mark13100) none .single
       HillLaws s ∧ RankingOk s ∧ MarksOk s ∧ (matchMark s 9).map Attempt.distanceStatus = some .single
         ∧ (matchMark s 9).bind (markOf .b) = none)
    ∧ 255 ≤ (convertMark (rested.prof.profile.survey.getD []) 13100).1 + rested.prof.profile.hill.tolerance
    ∧ 255 + rested.prof.profile.hill.tolerance < (convertMark (rested.prof.profile.survey.getD []) 14000).1 := by
  repeat' first
    | decide +kernel
    | exact laws rfl
    | exact marks rfl
    | exact ranking_of_none rfl rfl
    | apply And.intro

/-- The attempt on the hill has the bib; with samples and without. -/
theorem test_met_theFirstMark :
    HillLaws (hill .flight) ∧ RankingOk (hill .flight) ∧ MarksOk (hill .flight) ∧ assembly .a (hill .flight).meas = []
    ∧ consoleState .a (hill .flight).meas = .active ∧ matchMark (hill .flight) 9 = some (attempt .flight)
    ∧ markOf .a (attempt .flight) = none ∧ (attempt .flight).samples = []
    ∧ ({ attempt .flight with samples := [80] } : Attempt).samples ≠ []
    ∧ (hill .flight).prof.profile.hill.consoleBInUse = true ∧ consoleState .b (hill .flight).meas = .active
    ∧ consoleState .b ({ (hill .flight).meas with stateB := .silent } : Meas) ≠ .active := by
  repeat' first
    | decide +kernel
    | exact laws rfl
    | exact marks rfl
    | exact ranking_of_none rfl rfl
    | apply And.intro

/-- The mark limit of the attempt on the hill is about to end. -/
def limited (x : AttemptState) : State := { hill x with meas := { (hill x).meas with markLimit := some (1, 1) } }

/-- An attempt in SCORING waits for its second mark. -/
def awaited : State := measured (some mark13100) none .pendingSecond

/-- A mark limit, a wait of an attempt with one mark, a silence timer of an ACTIVE console and of a SILENT one. -/
theorem test_met_marksThatDoNotCome :
    HillLaws (limited .flight) ∧ RankingOk (limited .flight) ∧ MarksOk (limited .flight)
    ∧ (limited .flight).meas.markLimit = some (1, 1)
    ∧ attempt? (limited .flight) 1 = some (attempt .flight) ∧ HillLaws awaited ∧ RankingOk awaited ∧ MarksOk awaited
    ∧ (1, 1) ∈ awaited.meas.waits ∧ (attempt? awaited 1).bind Attempt.markA = some mark13100
    ∧ (attempt? (measured none (some mark13100) .pendingSecond) 1).bind Attempt.markB = some mark13100
    ∧ MarksOk (measured none (some mark13100) .pendingSecond) ∧ silence .b awaited.meas = some 5000
    ∧ consoleState .b awaited.meas = .active ∧ (attempt? awaited 1).map (markOf .b) = some none
    ∧ 1 ∈ awaited.meas.waits.map Prod.fst
    ∧ silence .a rested.meas = some 5000 ∧ consoleState .a rested.meas = .active ∧ rested.meas.waits = []
    ∧ consoleState .a ({ rested.meas with stateA := .silent } : Meas) ≠ .active := by
  repeat' first
    | decide +kernel
    | exact laws rfl
    | exact marks rfl
    | exact ranking_of_none rfl rfl
    | apply And.intro

/-- An attempt with `n` marks present. -/
def marked (n : Nat) (x : StyleStatus) : Attempt :=
  { attempt .scoring with marks := List.replicate n (some 36) ++ List.replicate (5 - n) none, style := x }

/-- Judges 1 and 5, marks 0 and 40, an attempt that takes marks and one that does not; three, four and five marks present. -/
theorem test_met_judges :
    Free (hill .flight) ∧ attempt? (hill .flight) 1 = some (attempt .flight)
    ∧ ofConfirmedRound (hill .flight) (attempt .flight) = false ∧ RankingOk (hill .flight)
    ∧ (attempt .lapsed).state = .lapsed ∧ (presentMarks (marked 3 .opened).marks).length < 4
    ∧ (presentMarks (marked 4 .opened).marks).length = 4 ∧ (marked 4 .opened).style = .opened
    ∧ (marked 4 .closed4).style ≠ .opened ∧ 4 < (presentMarks (marked 5 .full).marks).length ∧ Free (hill .scoring)
    ∧ attempt? (hill .scoring) 1 = some (attempt .scoring) ∧ ofConfirmedRound (hill .scoring) (attempt .scoring) = false
    ∧ RankingOk (hill .scoring) ∧ (1000 : Nat) ≤ 1000 ∧ (-6000 : Int) ≤ -6000 ∧ (6000 : Int) ≤ 6000 := by
  repeat' first
    | decide +kernel
    | exact free rfl rfl rfl
    | exact ranking_of_none rfl rfl
    | apply And.intro

/-- One attempt of each state that can be voided; 79 and 80 places held. -/
theorem test_met_aVoid :
    Free (hill .lapsed) ∧ attempt? (hill .lapsed) 1 = some (attempt .lapsed)
    ∧ ofConfirmedRound (hill .lapsed) (attempt .lapsed) = false ∧ (hill .lapsed).stc.coach = none
    ∧ placesHeld (hill .lapsed) < 80 ∧ (List.range 79).length < 80 ∧ 80 ≤ (List.range 80).length
    ∧ attempt? (hill .voided) 1 = some (attempt .voided) ∧ attempt? (hill .complete) 1 = some (attempt .complete)
    ∧ attempt? (hill .scoring) 1 = some (attempt .scoring) ∧ HillLaws (hill .flight) ∧ LightOk (hill .flight)
    ∧ onHill? (hill .flight) = some (attempt .flight) ∧ Free (hill .flight)
    ∧ ofConfirmedRound (hill .flight) (attempt .flight) = false := by
  repeat' first
    | decide +kernel
    | exact free rfl rfl rfl
    | exact laws rfl
    | exact rfl
    | apply And.intro

/-- An attempt in SCORING with everything settled. -/
def settledHill : State :=
  let a := { marked 5 .full with juryGate := some 3, attemptGate := some 3, distance := some 255, distanceStatus := .agreed,
                                 windStatus := some .computed, wind := some 80 }
  { hill .scoring with cst := { (hill .scoring).cst with attempts := [a] } }

/-- Distance, style and wind are settled, in SCORING; without the style they are not. -/
theorem test_met_aSettledAttempt :
    (attempt? settledHill 1).map Attempt.state = some .scoring ∧ (attempt? settledHill 1).map settled = some true
    ∧ settled (attempt .scoring) = false
    ∧ (attempt? (checkCompletion 1 settledHill) 1).map Attempt.state = some .complete := by
  decide +kernel

/-- A COMPLETE attempt whose competitor is in the directory, with points or none yet. -/
def completed (p : Option Points) : State :=
  let a := { marked 5 .full with state := .complete, juryGate := some 3, attemptGate := some 3, distance := some 255,
                                 distanceStatus := .agreed, windStatus := some .computed, wind := some 80, points := p }
  { hill .complete with cst := { (hill .complete).cst with attempts := [a], directory := [competitor 9] } }

/-- A recompute that changes the points, and one that does not. -/
theorem test_met_recompute :
    HillLaws (completed none) ∧ (attempt? (completed none) 1).map Attempt.state = some .complete
    ∧ findBib (completed none).cst.directory 9 = some (competitor 9) ∧ Room 12 (completed none)
    ∧ (attempt? (completed none) 1).bind Attempt.points = none
    ∧ (let p := (attempt? (completed none) 1).map (computePoints (completed none).prof.profile.hill (completed none).gate.reference)
       HillLaws (completed p) ∧ p.isSome = true ∧ (attempt? (completed p) 1).bind Attempt.points = p) := by
  unfold Room
  repeat' first
    | decide +kernel
    | exact laws rfl
    | apply And.intro

/-- D at 0 and at 1,000; marks all equal and a total below 0 and above 99,999. -/
theorem test_met_points :
    hillOk defaultHill = true ∧ (1000 : Nat) ≤ 1000 ∧ (∀ x ∈ [36, 36, 36, 36, 36], 36 ≤ x ∧ x ≤ 36)
    ∧ (presentMarks [some 0, some 40, none, some 1, some 2]).length = 4
    ∧ (∀ x ∈ [some 0, some 40, none, some 1, some 2].filterMap id, 0 ≤ x ∧ x ≤ 40) ∧ (marked 5 .full).juryGate = none
    ∧ ({ marked 5 .full with juryGate := some 1, attemptGate := some 1 } : Attempt).juryGate = some 1
    ∧ (computePoints defaultHill (some 1) { marked 5 .full with juryGate := some 40, attemptGate := some 40 }).pG < -2000
    ∧ 99999 < (computePoints { defaultHill with gf := 5000 } (some 40) { marked 5 .full with juryGate := some 1, attemptGate := some 1 }).pG := by
  decide +kernel

/-- Bearings 1, 180 and 359, the greatest speed, components of both signs with their halves, one sample, and winds 0 and -6,000. -/
theorem test_met_windArithmetic :
    1 ≤ 359 ∧ 359 ≤ 359 ∧ 180 ≤ 180 ∧ 6000 ≤ 6000 ∧ [(80 : Int)] ≠ [] ∧ (∀ x ∈ [(80 : Int)], 80 ≤ x ∧ x ≤ 80)
    ∧ (0 : Int) ≤ 6000 * cosTable ((90 + 360 - 0) % 360) ∧ 6000 * cosTable ((359 + 360 - 179) % 360) < (0 : Int)
    ∧ tangential 1 0 60 = 1 ∧ tangential 1 0 120 = -1 ∧ (0 : Int) ≤ 0 ∧ (-6000 : Int) < 0 ∧ -6000 ≤ (-6000 : Int) ∧ 500 ≤ 500 := by
  decide +kernel

/-- Slot 0 is DISABLED while polling goes on. -/
def disabled : State :=
  { rested with wln := { rested.wln with
      poll := .between, stations := rested.wln.stations.set 0 { stationReset with state := .disabled } } }

/-- Slot 0 present, DISABLED and not, polled and not. -/
theorem test_met_stations :
    Free rested ∧ (slot? rested 0).isSome = true ∧ rested.wln.stations.length = 8 ∧ (station rested 0).state ≠ .disabled
    ∧ rested.wln.window = none ∧ (station disabled 0).state = .disabled ∧ Free disabled ∧ disabled.wln.poll ≠ .stopped
    ∧ disabled.wln.stations.length = 8 ∧ ({ rested.wln with phase := .replyWait, polled := 0 } : Wln).phase ≠ .none := by
  repeat' first
    | decide +kernel
    | exact free rfl rfl rfl
    | apply And.intro

/-- No slot is present, and a line test is in a step. -/
def testing (x : TestState) (p : Phase) : State :=
  { blank with wln := { blank.wln with test := x, phase := p } }

/-- On the hill, while a test runs, during an exchange and between exchanges; each step of the measurement; echo count 4,096. -/
theorem test_met_theLineTest :
    Free (hill .waiting) ∧ onHill? (hill .waiting) ≠ none ∧ Free rested ∧ HillClear rested ∧ rested.wln.test = .idle
    ∧ rested.wln.phase = .none ∧ rested.wln.poll = .stopped ∧ ({ rested.wln with test := .watching } : Wln).test ≠ .idle
    ∧ (testing .idle .replyWait).wln.phase ≠ .none ∧ (testing (.listening 1 false) .none).wln.test = .listening 1 false
    ∧ sensedFn (testing (.listening 1 false) .none) .windCd ≠ some true ∧ (testing .watching .none).wln.poll = .stopped
    ∧ anyPollable (testing .watching .none) = false ∧ 4096 ≤ 4096 := by
  repeat' first
    | decide +kernel
    | exact free rfl rfl rfl
    | exact clear rfl
    | apply And.intro

/-- An exchange with slot 0 is in a phase. -/
def polling (p : Phase) : State :=
  { rested with wln := { rested.wln with phase := p, polled := 0, polledAddress := 3, cdLine := some 12 } }

/-- A line test waits for the end of that exchange; the answer has come in. -/
def answered (p : Phase) : State :=
  { polling p with wln := { (polling p).wln with
      test := .waitingExchange, contention := 2, reply := clean [0xD1, 0x03, 0x01, 0x40, 0x00, 0xF0, 0x00, 0xFB] } }

/-- Each phase. -/
theorem test_met_anExchange :
    (polling .carrierWait).wln.phase = .carrierWait ∧ (polling .carrierWait).wln.cdLine = some 12
    ∧ (polling .turnaround).wln.phase = .turnaround ∧ (polling .sending).wln.phase = .sending
    ∧ carrier (polling .sending) = false ∧ ({ (polling .replyWait).wln with cdLine := none } : Wln).cdLine = none
    ∧ (polling .replyWait).wln.trailing = none ∧ (polling .receiving).wln.phase = .receiving
    ∧ (polling .receiving).wln.reply.length < 31 ∧ (List.replicate 30 (char 0)).length < 31 ∧ rested.wln.phase = .none
    ∧ rested.wln.trailing = none ∧ rested.wln.test = .idle
    ∧ ({ (polling .carrierWait).wln with txenMoved := true } : Wln).txenMoved = true := by
  decide +kernel

/-- The answer of the station at address 3, at 320 cm/s from 240 degrees, is GOOD. -/
theorem test_met_anOutcome :
    NotLast 0 (answered .receiving) ∧ (answered .receiving).wln.polled = 0 ∧ 0 < (answered .receiving).wln.stations.length
    ∧ slot? (answered .receiving) 0 = some { address := 3, bearing := 250, gating := true, scoring := true }
    ∧ (answered .receiving).wln.discard = false ∧ (answered .receiving).wln.test = .waitingExchange
    ∧ (answered .receiving).prof.profile.hill.autoSwap = 0 ∧ (answered .receiving).wln.polledAddress = 3 ∧ statusOf 0 = some .ok
    ∧ (answered .receiving).wln.reply = (let bs := 0xD1#8 :: byte 3 :: (be16 320 ++ be16 240 ++ [0])
        clean (bs ++ [sumCheck bs]))
    ∧ ((station (after .replyGapExpiry (answered .receiving)) 0).reading.map fun r => (r.speed, r.direction, r.t)) =
        some (320, 240, 315)
    ∧ (answered .replyWait).wln.window = none ∧ (station (answered .replyWait) 0).state = .unknown
    ∧ (station (answered .replyWait) 0).misses = 0 ∧ 2 ≤ (answered .carrierWait).wln.contention
    ∧ ({ (answered .carrierWait).wln with contention := 1 } : Wln).contention < 2 := by
  unfold NotLast; decide +kernel

/-- Slot 1 is present too, and slot 0 has sent these characters in a cycle that goes on. -/
def heard (r : List RxChar) (swap count : Nat) : State :=
  { polling .receiving with
    prof := { rested.prof with profile := { rested.prof.profile with
      hill := { defaultHill with autoSwap := swap },
      slots := rested.prof.profile.slots.set 1 (some { address := 4, bearing := 70, gating := true, scoring := false }) } },
    wln := { (polling .receiving).wln with poll := .inCycle, nextSlot := 1, reply := r, polarityCount := count } }

/-- A short reply, one whose lead has a framing-error mark, one of another station, and a direction of 360; automatic swap off,
on, and at its third fault. -/
theorem test_met_aFailedReply :
    NotLast 0 (heard [char 0xD1] 0 0) ∧ (heard [char 0xD1] 0 0).wln.discard = false
    ∧ (heard [char 0xD1] 0 0).wln.test = .idle ∧ nextDue (heard [char 0xD1] 0 0) = some 1
    ∧ judgeReply 3 (heard [char 0xD1] 0 0).wln.reply = .bad false
    ∧ judgeReply 3 (heard [{ byte := 0x2E, framing := true }] 1 2).wln.reply = .bad true
    ∧ judgeReply 3 (clean [0xD1, 0x04, 0x01, 0x40, 0x00, 0xF0, 0x00, 0xFA]) = .wrongAddress
    ∧ judgeReply 3 (clean [0xD1, 0x03, 0x01, 0x40, 0x01, 0x68, 0x00, 0x82]) = .bad false ∧ statusOf 3 = none
    ∧ (heard [char 0xD1] 0 0).prof.profile.hill.autoSwap ≠ 1 ∧ (heard [char 0xD1] 1 1).prof.profile.hill.autoSwap = 1
    ∧ (heard [char 0xD1] 1 1).wln.polarityCount < 2 ∧ (heard [char 0xD1] 1 2).wln.polarityCount = 2
    ∧ (station (heard [char 0xD1] 0 0) 0).state = .unknown
    ∧ ({ station (heard [char 0xD1] 0 0) 0 with misses := 4 } : Station).misses = 4
    ∧ (after .replyGapExpiry (heard [{ byte := 0x2E, framing := true }] 1 2)).wln.inverted = true
    ∧ (after .replyGapExpiry (heard [char 0xD1] 0 0)).wln.polled = 1 := by
  unfold NotLast; decide +kernel

/-- Polling, with a gating mean that is one millisecond too old. -/
def cycling (p : PollState) : State :=
  { rested with wln := { rested.wln with
      poll := p, cycleTimer := some 1, gating := { rested.wln.gating with value := some 12, age := 1001 } } }

/-- A cycle begins, and none can; the gating mean is too old by a millisecond; the hold of a WIND enqueue. -/
theorem test_met_cycles :
    (cycling .between).wln.cycleTimer = some 1 ∧ canBePolled (cycling .between) 0 = true
    ∧ (station (cycling .between) 0).state ≠ .offline ∧ (cycling .between).wln.stations.length = 8
    ∧ anyPollable { blank with wln := (cycling .between).wln } = false ∧ (cycling .inCycle).wln.poll = .inCycle
    ∧ (cycling .between).wln.gating.value = some 12 ∧ (cycling .between).wln.gating.staleTaken = false
    ∧ (cycling .between).prof.profile.hill.freshness < (cycling .between).wln.gating.age
    ∧ (cycling .between).wln.windHold = none
    ∧ ({ (cycling .between).wln with windHold := some 1, windDeferred := true } : Wln).windDeferred = true
    ∧ ({ (cycling .between).wln with windHold := some 1 } : Wln).windHold = some 1 := by
  decide +kernel

/-- Slot 0 is the last of its cycle and has not answered. -/
def lastOf : State :=
  { polling .replyWait with wln := { (polling .replyWait).wln with poll := .inCycle, nextSlot := 1, cycleTimer := some 1 } }

/-- A cycle ends with slot 0's reading at 80, while the attempt takes samples and has `n`. -/
def sampling (n : Nat) : State :=
  let r : Reading := { speed := 80, direction := 250, status := .ok, t := 80, time := 0, age := 0 }
  { hill .flight with
    cst := { (hill .flight).cst with attempts := [{ attempt .flight with samples := List.replicate n 80 }] },
    wln := { (hill .flight).wln with
      window := some (1, true),
      stations := (hill .flight).wln.stations.set 0 { stationReset with state := .online, reading := some r, good := true } } }

/-- A clear waits while slot 0's reading is at `v`. -/
def judging (v : Int) : State :=
  let r : Reading := { speed := v.natAbs, direction := 250, status := .ok, t := v, time := 0, age := 0 }
  { clearing none with wln := { (clearing none).wln with
      stations := (clearing none).wln.stations.set 0 { stationReset with state := .online, reading := some r, good := true } } }

/-- The last exchange of a cycle and an empty cycle; becoming stale that has been taken; a sample that fits and one that does
not; a clear judged at the upper limit, one past it, and without a mean. -/
theorem test_met_cycleEnds :
    lastOf.wln.phase = .replyWait ∧ lastOf.wln.polled = 0 ∧ lastOf.wln.discard = false ∧ lastOf.wln.test = .idle
    ∧ lastOf.wln.nextSlot = 0 + 1 ∧ nextDue lastOf = none ∧ canBePolled lastOf 0 = true ∧ lastOf.wln.stations.length = 8
    ∧ (station lastOf 0).good = false ∧ lastOf.wln.cycleTimer = some 1
    ∧ (let s := { cycling .between with wln := { (cycling .between).wln with
         stations := (cycling .between).wln.stations.set 0 { stationReset with state := .offline } } }
       anyPollable s = true ∧ (∀ n ∈ List.range 8, canBePolled s n = true → (station s n).state = .offline)
         ∧ (s.wln.cycle + 1) % 65536 % 8 ≠ 0)
    ∧ ({ (cycling .between).wln.gating with staleTaken := true } : GatingMean).staleTaken = true
    ∧ (sampling 63).wln.window = some (1, true)
    ∧ truncatedMean ((scoringReadings (sampling 63)).map Reading.t) = some 80
    ∧ ((attempt? (sampling 63) 1).map fun a => a.samples.length) = some 63
    ∧ ((attempt? (sampling 64) 1).map fun a => a.samples.length) = some 64
    ∧ HillLaws (judging 300) ∧ onHill? (judging 300) = some (attempt .waiting) ∧ (judging 300).stc.clearPending = true
    ∧ (judging 300).stc.light = .amber ∧ truncatedMean ((gatingReadings (judging 300)).map Reading.t) = some 300
    ∧ (judging 300).prof.profile.hill.hi = 300 ∧ HillLaws (judging 301)
    ∧ truncatedMean ((gatingReadings (judging 301)).map Reading.t) = some 301
    ∧ truncatedMean ((gatingReadings (clearing none)).map Reading.t) = none ∧ Room 1 (judging 301) := by
  unfold Room
  repeat' first
    | decide +kernel
    | exact laws rfl
    | apply And.intro

/-- Lines 1, 16, 0 and 17; room for every key of a refresh. -/
theorem test_met_messages :
    Free rested ∧ 1 ≤ 16 ∧ 16 ≤ 16 ∧ (∀ b ∈ ascii [' ', '~'], 0x20 ≤ b.toNat ∧ b.toNat ≤ 0x7E) ∧ 16 < 17
    ∧ rested.brd.queue = [] ∧ rested.brd.messages = List.replicate 16 [] := by
  repeat' first
    | decide +kernel
    | exact free rfl rfl rfl
    | apply And.intro

/-- One item is queued. -/
def queued (ready : Bool) : State :=
  { rested with brd := { rested.brd with ready, queue := [{ key := key .light, blank := false }] } }

/-- A frame on the line; an item in the queue with the sender idle; stalled; the stall timer. -/
theorem test_met_theBoardLine :
    ({ rested.brd with sender := some { key := key .light, text := [] } } : Brd).sender.isSome = true
    ∧ (queued true).brd.sender = none ∧ (queued true).brd.ready = true
    ∧ sendOrder (queued true).brd.queue = { key := key .light, blank := false } :: [] ∧ lineOf rested .boardReady = some 13
    ∧ ({ rested.brd with stalled := true } : Brd).stalled = true ∧ (queued false).brd.queue ≠ []
    ∧ (queued false).brd.stallTimer = none ∧ (queued false).brd.stalled = false
    ∧ ({ (queued false).brd with stallTimer := some 1 } : Brd).stallTimer = some 1 ∧ (queued false).brd.ready = false := by
  decide +kernel

/-- Every subject names the COMPLETE attempt of bib 9, which ranks first. -/
def shown : State :=
  let s := completed none
  let p := (attempt? s 1).map (computePoints s.prof.profile.hill s.gate.reference)
  { completed p with
    scr := { ranking := [9] },
    brd := { s.brd with subjects := { jumper := some 1, speed := some 1, distance := some 1, marks := some 1, points := some 1,
                                      rank := some 9 } } }

/-- The texts of items with a subject; a subject's attempt, its competitor, and a place of the ranking. -/
theorem test_met_itemTexts :
    shown.brd.subjects.jumper = some 1 ∧ (attempt? shown 1).map Attempt.bib = some 9
    ∧ findBib shown.cst.directory 9 = some (competitor 9) ∧ shown.brd.subjects.rank = some 9 ∧ 9 ∈ shown.scr.ranking
    ∧ shown.scr.ranking[0]? = some 9 ∧ shown.scr.ranking.length ≤ 1 ∧ rested.brd.subjects.rank = none
    ∧ freshGating (windy 300) = some 300 ∧ freshGating rested = none ∧ rested.stc.countdown = none
    ∧ green.stc.countdown = some 1
    ∧ keyText shown (key .distance) = ascii ['1', '2', '7', '.', '5']
    ∧ keyText (windy (-75)) (key .wind) = ascii ['-', '0', '.', '7', '5']
    ∧ keyText shown (key .gate) = ascii ['3', ' ', '/', ' ', '3'] := by
  decide +kernel

/-- The reply of a SET LINK to these settings is being sent, with a partial frame or none. -/
def changing (rate : Nat) (brk : Bool) (asm : List RxChar) : State :=
  { served 0 with link := { (served 0).link with
      inHand := some { kind := 0x7A, tag := 1, change := some (rate, brk) },
      tx := .reply { kind := 0xFA, tag := 1, code := .done, data := .none } 0, asm } }

/-- The last millisecond of the day and the next; counters 0, 1 and 2, kinds 15 and 16, qualifiers 1 and 2; rates 3 and 4, break
settings 1 and 2; new settings, and the ones in force, with their reply on the line. -/
theorem test_met_linkSettings :
    Free rested ∧ 86399999 ≤ 86399999 ∧ 86399999 < 86400000 ∧ counterKinds[15]?.isSome = true ∧ 1 ≤ 1 ∧ 1 < 2 ∧ 15 < 16
    ∧ 3 ≤ 3 ∧ 3 < 4
    ∧ (∀ asm ∈ [[], [char 0xA7]], ∀ r ∈ [(3, true), (rested.link.rate, rested.link.brk)],
        (changing r.1 r.2 asm).link.inHand = some { kind := 0x7A, tag := 1, change := some r }
        ∧ (changing r.1 r.2 asm).link.tx = .reply { kind := 0xFA, tag := 1, code := .done, data := .none } 0
        ∧ (changing r.1 r.2 asm).link.buffer = [] ∧ (changing r.1 r.2 asm).link.asm = asm)
    ∧ 3 ≠ rested.link.rate ∧ [char 0xA7] ≠ [] := by
  repeat' first
    | decide +kernel
    | exact free rfl rfl rfl
    | apply And.intro

/-- The positioner at rest and in motion; a frame may begin at once and may not; messages cleared and the light DARK. -/
theorem test_met_restart :
    Free rested ∧ MessagesOk rested ∧ rested.gate.state.motion = false ∧ (gateAt .settling rested).gate.state.motion = true
    ∧ rested.brd.sender = none ∧ rested.brd.pacing = none ∧ rested.brd.ready = true ∧ (queued false).brd.ready = false
    ∧ rested.stc.light ≠ .dark ∧ (unopened .none 0).stc.light = .dark
    ∧ (unopened .none 0).brd.messages = List.replicate 16 [] := by
  repeat' first
    | decide +kernel
    | exact free rfl rfl rfl
    | exact rfl
    | apply And.intro

/-- An image that fails the load check, and one that passes it with a slot. -/
theorem test_met_hardReset :
    loadPasses State.reset.prof.image = false ∧ loadPasses { profile := rested.prof.profile, crcMatches := true } = true
    ∧ (∀ k, k < 8 → slot? blank k = none) ∧ (slot? rested 0).isSome = true := by
  decide +kernel

/-! ## The remaining clauses of the statements: refusals, pending coach reductions and boundary values -/

/-- A reduction by `k` is pending for bib 7, the head of the list, and the bar stands at gate 2. -/
def reduced (list : List Nat) : State :=
  { rested with cst := { rested.cst with startList := list }, stc := { rested.stc with coach := some (7, 1) },
                gate := { rested.gate with current := some 2 } }

theorem coach_reduced (list : List Nat) : CoachOk (reduced (7 :: list)) := by
  intro b k h
  obtain ⟨rfl, rfl⟩ : 7 = b ∧ 1 = k := by simpa [reduced] using h
  exact ⟨rfl, clear rfl⟩

theorem laws_reduced (list : List Nat) : HillLaws (reduced (7 :: list)) :=
  ⟨⟨rfl, Nat.zero_le 1, fun _ h => absurd h List.not_mem_nil, fun h => absurd h Bool.false_ne_true⟩, coach_reduced list,
    fun _ => clear rfl⟩

/-- A timer at 1, one at 2, none; the moment before the warning period; the gating mean at its freshness limit. -/
theorem test_met_dueEvents :
    FallsDue (cycling .between) .cyclePeriodExpiry ∧ .cyclePeriodExpiry ∈ dueEvents (cycling .between)
    ∧ FallsDue green .startWindowExpiry ∧ FallsDue (limited .flight) .markLimitExpiry
    ∧ FallsDue awaited (.secondMarkWaitExpiry 1) ∧ .secondMarkWaitExpiry 1 ∈ dueEvents awaited
    ∧ ¬RunsOut (some 2) ∧ ¬RunsOut none ∧ FallsDue (testing (.listening 1 false) .none) .listenEnd
    ∧ (let s := { green with stc := { green.stc with window := some 3001 } }
       FallsDue s .warningPeriodReached ∧ FallsDue s .countdownSecondChange ∧ .warningPeriodReached ∈ dueEvents s
         ∧ dueEvents { s with stc := { s.stc with window := some 3002 } } = [])
    ∧ (let s := { rested with wln := { rested.wln with gating := { rested.wln.gating with value := some 12, age := 1000 } } }
       FallsDue s .gatingMeanStale ∧ dueEvents s = [.gatingMeanStale]) ∧ rested.pending = [] := by
  refine ⟨?_, ?_, ?_, ?_, ⟨(1, 1), ?_, rfl, ?_⟩, ?_, ?_, ?_, .inr (.inr (.inl rfl)), ⟨⟨?_, ?_, ?_⟩, ⟨?_, ?_⟩, ?_, ?_⟩,
    ⟨⟨?_, ?_, ?_, ?_⟩, ?_⟩, ?_⟩
  all_goals first
    | decide +kernel
    | exact Nat.le_refl 1
    | exact (by decide : ¬(2 : Nat) ≤ 1)
    | exact not_false

/-- An empty round, a held arm, a start window with the light green, a coach flag on the hill, a reduction pending, the light
DARK; no open round. -/
theorem test_met_aCancelledRound :
    Free green ∧ hasOpenRound green = true ∧ HillLaws green ∧ green.stc.window.isSome = true ∧ green.stc.light ≠ .dark
    ∧ Room 14 green ∧ green.stc.countdown = some 1 ∧ (after (.cancelRound 1) green).stc.countdown = none
    ∧ rested.stc.window = none ∧ rested.stc.countdown = none ∧ HillLaws held ∧ hasOpenRound held = true
    ∧ held.stc.heldArm = true ∧ HillLaws coached ∧ ((onHill? coached).bind Attempt.coach).isSome = true
    ∧ returnNotices coached.gate = [.gateBegun .ret (some 2) (some 3) (some 3)]
    ∧ returnNotices (gateAt .manual coached).gate = [.gateDone .ret (some 3) (some 3)]
    ∧ returnKeys (gateAt .manual coached).gate = [key .gate] ∧ Free coached ∧ hasOpenRound coached = true
    ∧ HillLaws (reduced [7]) ∧ Free (reduced [7]) ∧ hasOpenRound (reduced [7]) = true ∧ (reduced [7]).stc.coach.isSome = true
    ∧ (after (.cancelRound 1) (reduced [7])).gate.state = .movingUp
    ∧ (round .opened (unopened .confirmed 1)).stc.light = .dark ∧ HillLaws (round .opened (unopened .confirmed 1))
    ∧ Free (unopened .confirmed 1) ∧ hasOpenRound (unopened .confirmed 1) = false := by
  unfold Room
  repeat' first
    | decide +kernel
    | exact free rfl rfl rfl
    | exact laws rfl
    | exact laws_held
    | exact laws_reduced []
    | apply And.intro

/-- A round is open; four rounds are done; a store write runs; source 2; Q 0 and Q 81. -/
theorem test_met_noRoundOpens :
    Free rested ∧ hasOpenRound rested = true ∧ (unopened .confirmed 4).cst.rstate = .confirmed
    ∧ 4 ≤ (unopened .confirmed 4).cst.round ∧ Free (unopened .confirmed 4) ∧ Free writing ∧ writing.cst.rstate = .confirmed
    ∧ writing.cst.round < 4 ∧ writing.prof.writing.isSome = true ∧ (unopened .none 0).cst.rstate = .none
    ∧ (unopened .none 0).prof.writing = none ∧ 80 < (some 81).getD 0 ∧ 1 < 2 := by
  repeat' first
    | decide +kernel
    | exact free rfl rfl rfl
    | apply And.intro

/-- Another entry of four, and one whose bib is 1,000, whose name is too long, and whose nation is in small letters. -/
def entry (b : Nat) (name nation : Text) : Entry := { bib := b, name, nation }

/-- Bib 9 is in the directory and disqualified. -/
def barred : State :=
  { rested with cst := { rested.cst with directory := [{ competitor 9 with disqualified := true }] } }

/-- 80 places are held, and the directory has 120 records. -/
def crowded (places records : Nat) : State :=
  { rested with cst := { rested.cst with startList := (List.range places).map (· + 200),
                                         directory := (List.range records).map fun n => competitor (n + 200) } }

/-- A pending reduction for the head; each row of R26's table at its boundary. -/
theorem test_met_noEntriesAdded :
    CoachOk (reduced [7]) ∧ Free (reduced [7]) ∧ hasOpenRound (reduced [7]) = true ∧ placesHeld (reduced [7]) + 4 ≤ 80
    ∧ hasOpenRound between = false ∧ Free between ∧ four.length = 4
    ∧ entryOk (entry 1000 [] (ascii ['N', 'O', 'R'])) = false ∧ entryOk (entry 0 [] (ascii ['N', 'O', 'R'])) = false
    ∧ entryOk (entry 9 (List.replicate 21 0x41#8) (ascii ['N', 'O', 'R'])) = false
    ∧ entryOk (entry 9 (List.replicate 20 0x7E#8) (ascii ['N', 'O', 'R'])) = true
    ∧ entryOk (entry 9 [] (ascii ['n', 'o', 'r'])) = false
    ∧ ((competitor? barred 9).map Competitor.disqualified) = some true ∧ Free barred ∧ hasOpenRound barred = true
    ∧ duplicateBib rested 7 = true ∧ (∀ e ∈ [entry 7 [] (ascii ['N', 'O', 'R'])], entryOk e = true)
    ∧ (∀ e ∈ four, ((competitor? rested e.bib).map Competitor.disqualified) ≠ some true)
    ∧ ¬([8, 8] : List Nat).Nodup ∧ duplicateBib (hill .scoring) 9 = true ∧ duplicateBib (hill .voided) 9 = false
    ∧ 80 < placesHeld (crowded 77 0) + four.length ∧ placesHeld (crowded 76 0) + four.length ≤ 80
    ∧ 120 < (crowded 0 117).cst.directory.length + newBibs (crowded 0 117) four
    ∧ (∀ e ∈ four, duplicateBib (crowded 77 117) e.bib = false) ∧ Free (crowded 77 117) ∧ hasOpenRound (crowded 77 117) = true := by
  repeat' first
    | decide +kernel
    | exact free rfl rfl rfl
    | exact coach_reduced []
    | apply And.intro

/-- The last entry of an OPEN round with nothing of it open, with an attempt in SCORING and with one on the hill; a head withdrawn
and moved with a reduction pending for it, and another bib withdrawn; the refusals. -/
theorem test_met_headChanges :
    rested.cst.startList.erase 7 = [] ∧ rested.cst.rstate = .opened
    ∧ (∀ a ∈ rested.cst.attempts, a.round = rested.cst.round → a.state.onHill = false ∧ a.state ≠ .scoring)
    ∧ (hill .scoring).cst.startList.erase 7 = [] ∧ (∃ a ∈ (hill .scoring).cst.attempts, a.round = 1 ∧ a.state = .scoring)
    ∧ (∃ a ∈ (hill .inRun).cst.attempts, a.round = 1 ∧ a.state.onHill = true) ∧ coachOff rested [] = false
    ∧ Free (hill .scoring) ∧ hasOpenRound (hill .scoring) = true
    ∧ (round .suspended rested).cst.rstate ≠ .opened ∧ hasOpenRound (round .suspended rested) = true
    ∧ Free (reduced [7, 8]) ∧ hasOpenRound (reduced [7, 8]) = true ∧ coachOff (reduced [7, 8]) ([7, 8].erase 7) = true
    ∧ coachOff (reduced [7, 8]) ([7, 8].erase 8) = false ∧ coachOff (reduced [7, 8]) ([7, 8].erase 7 ++ [7]) = true
    ∧ coachOff (reduced [7, 8]) ([] ++ 8 :: 7 :: []) = true ∧ coachOff (reduced [7, 8]) (reduced [7, 8]).cst.startList = false
    ∧ Room 1 (reduced [7, 8]) ∧ (after (.withdrawEntry 1 7) (reduced [7, 8])).gate.state = .movingUp
    ∧ (after (.withdrawEntry 1 7) (reduced [7, 8])).stc.coach = none
    ∧ (after (.withdrawEntry 1 7) rested).cst.rstate = .ended ∧ (after (.withdrawEntry 1 7) (hill .scoring)).cst.rstate = .opened
    ∧ 999 < 1000 ∧ Free between ∧ hasOpenRound between = false ∧ 999 ∉ rested.cst.startList ∧ 8 ∉ rested.cst.startList := by
  unfold Room
  repeat' first
    | decide +kernel
    | exact free rfl rfl rfl
    | exact ⟨_, List.mem_singleton.2 rfl, by decide, by decide⟩
    | apply And.intro

/-- Gate 21 of 20; nobody may move the bar with a jumper on the hill or a reduction pending; each row of the table of R56; a move in
MANUAL to where the bar is; the rows of HOME GATE's table. -/
theorem test_met_theBarStays :
    rested.prof.profile.hill.gates < 21 ∧ ¬HillClear (hill .waiting) ∧ (reduced [7]).stc.coach.isSome = true ∧ Free (hill .waiting)
    ∧ Free rested ∧ (gateAt .manual rested).gate.current = some 3 ∧ 5 < 6 ∧ (round .suspended rested).cst.rstate ≠ .opened
    ∧ rested.cst.startList.head? ≠ some 8 ∧ rested.cst.rstate = .opened ∧ rested.stc.coach = none ∧ HillClear rested
    ∧ rested.cst.startList.head? = some 7 ∧ (gateAt .homing rested).gate.state.motion = true
    ∧ (gateAt .unknown rested).gate.state = .unknown
    ∧ ({ rested.gate with jury := none } : Gate).jury = none ∧ rested.gate.state.motion = false ∧ rested.gate.jury = some 3
    ∧ 3 ≤ 3 ∧ rested.gate.state = .idle ∧ (gateAt .manual rested).gate.state = .manual ∧ 3 = 4 - 1
    ∧ (lineOf rested .gateHome).isSome = true ∧ Free (gateAt .manual rested) ∧ Free (gateAt .homing rested) := by
  repeat' first
    | decide +kernel
    | exact free rfl rfl rfl
    | exact clear rfl
    | exact fun h => absurd (h (attempt .waiting) (List.mem_singleton.2 rfl)) (by decide)
    | apply And.intro

/-- A code that names no function, and a map whose input is given a drive mode; LEAVE where it was, at another line, and without one. -/
theorem test_met_otherLines :
    assignmentsOf (codesOf (18, 0)) = none ∧ (assignmentsOf (codesOf (3, 0))).map assignmentsOk = some false
    ∧ (assignmentsOf (codesOf (16, 2))).map (fun l => lineIn l .leave) = some (lineIn standardMap .leave)
    ∧ (assignmentsOf (((codesOf (17, 0)).set 3 (17, 0)).set 15 (3, 0))).map assignmentsOk = some true
    ∧ (assignmentsOf (((codesOf (17, 0)).set 3 (17, 0)).set 15 (3, 0))).map (fun l => lineIn l .leave) = some (some 15)
    ∧ (assignmentsOf ((codesOf (17, 0)).set 3 (17, 0))).map (fun l => lineIn l .leave) = some none
    ∧ (assignmentsOf ((codesOf (17, 0)).set 4 (17, 0))).map assignmentsOk = some true ∧ (codesOf (18, 0)).length = 16 := by
  decide +kernel

/-- Attempt 0, 401 and 400; the two places of the ranking list and the ones after them. -/
theorem test_met_readAttempt :
    Free rested ∧ 400 < 401 ∧ 400 ≤ 400 ∧ attempt? rested 400 = none ∧ attempt? rested 1 = none
    ∧ ranked.scr.ranking[0]? = some 7 ∧ ranked.scr.ranking[1]? = some 9 ∧ findBib ranked.cst.directory 9 = some (competitor 9)
    ∧ ranked.scr.ranking.length ≤ 2 ∧ (rankRecord ranked 2).map (fun r => (r.bib, r.rank, r.total)) = some (9, some 1, 1000)
    ∧ rankRecord ranked 3 = none := by
  repeat' first
    | decide +kernel
    | exact free rfl rfl rfl
    | apply And.intro

/-- An attempt before its leave in an OPEN round, and room for what its lapse enqueues. -/
theorem test_met_atTheBar :
    LightOk (hill .waiting) ∧ LightOk (hill .cleared) ∧ Room 3 (hill .waiting) ∧ Room 14 green
    ∧ ofConfirmedRound (hill .waiting) (attempt .waiting) = false ∧ attempt? (hill .waiting) 1 = some (attempt .waiting)
    ∧ onHill? (hill .waiting) = some (attempt .waiting) ∧ onHill? (hill .cleared) = some (attempt .cleared) := by
  unfold Room
  repeat' first
    | decide +kernel
    | exact rfl
    | exact .inl rfl
    | apply And.intro

/-- Console A is SILENT. -/
def silent (s : State) : State := { s with meas := { s.meas with stateA := .silent, silenceA := none } }

/-- The trap still waits for the speed of the attempt on the hill. -/
def unmeasured : State := { limited .inRun with meas := { (limited .inRun).meas with trap := .ready, trapAttempt := some 1 } }

/-- A SILENT console that brings a mark; a mark outside the survey; a speed that is missing; a mark that finds MISSING. -/
theorem test_met_faultedMarks :
    consoleState .a (silent rested).meas = .silent ∧ wakes .a (silent rested) = [.console .a .silent .active]
    ∧ wakes .a rested = [] ∧ matchMark (silent rested) 9 = none ∧ assembly .a (silent rested).meas = []
    ∧ (convertMark (rested.prof.profile.survey.getD []) 11000).2 = true
    ∧ (convertMark (rested.prof.profile.survey.getD []) 13100).2 = false
    ∧ HillLaws unmeasured ∧ RankingOk unmeasured ∧ MarksOk unmeasured ∧ Room 16 unmeasured
    ∧ unmeasured.meas.markLimit = some (1, 1) ∧ attempt? unmeasured 1 = some (attempt .inRun)
    ∧ matchMark unmeasured 9 = some (attempt .inRun)
    ∧ faultsOf (attempt .inRun) unmeasured [.noMark] = [.noMark, .speedMissing, .noWind]
    ∧ ((attempt? (after .markLimitExpiry unmeasured) 1).map Attempt.faults) = some [.noMark, .speedMissing, .noWind]
    ∧ (let s := measured none none .missing
       HillLaws s ∧ RankingOk s ∧ MarksOk s ∧ assembly .a s.meas = [] ∧ consoleState .a s.meas ≠ .disabled
         ∧ (matchMark s 9).map Attempt.distanceStatus = some .missing ∧ (matchMark s 9).bind (markOf .b) = none
         ∧ consoleState .b s.meas = .active ∧ s.prof.profile.hill.consoleBInUse = true ∧ Room 16 s) := by
  unfold Room
  repeat' first
    | decide +kernel
    | exact laws rfl
    | exact marks rfl
    | exact ranking_of_none rfl rfl
    | apply And.intro

/-- A COMPLETE attempt of bib 9, voided while a reduction is pending for bib 7. -/
def reducedAfter : State :=
  { reduced [7] with cst := { (reduced [7]).cst with attempts := [attempt .complete], directory := [competitor 9] } }

theorem test_met_aVoidWithAReduction :
    Free reducedAfter ∧ attempt? reducedAfter 1 = some (attempt .complete)
    ∧ ofConfirmedRound reducedAfter (attempt .complete) = false ∧ placesHeld reducedAfter < 80
    ∧ coachOff reducedAfter ((attempt .complete).bib :: reducedAfter.cst.startList) = true ∧ Room 12 reducedAfter
    ∧ coachOff (hill .complete) (9 :: (hill .complete).cst.startList) = false ∧ Room 11 (hill .complete)
    ∧ (after (.voidAttempt 1 1) reducedAfter).gate.state = .movingUp
    ∧ (after (.voidAttempt 1 1) reducedAfter).stc.coach = none := by
  unfold Room
  repeat' first
    | decide +kernel
    | exact free rfl rfl rfl
    | apply And.intro

/-- Sums of both signs with a half, and no samples. -/
theorem test_met_means :
    windFigure [80, 81] = some 81 ∧ windFigure [-80, -81] = some (-81) ∧ windFigure [1, 0, 0] = some 0 ∧ windFigure [] = none
    ∧ truncatedMean [80, 81] = some 80 ∧ truncatedMean [-80, -81] = some (-80) ∧ truncatedMean [] = none
    ∧ (0 : Int) ≤ [80, 81].sum ∧ [-80, -81].sum < (0 : Int) ∧ ([] : List Int).sum = 0 := by decide

/-- An attempt's wind window is open while slot 0, with the scoring role, has missed four times. -/
def losing (p : Phase) : State :=
  { answered p with
    cst := (hill .flight).cst,
    wln := { (answered p).wln with
      window := some (1, true), reply := [],
      stations := rested.wln.stations.set 0 { stationReset with state := .suspect, misses := 4 } } }

/-- A scoring station disabled while the window is open; the only station enabled in STOPPED; slots 7 and 8; a fifth miss. -/
theorem test_met_aStationLost :
    Free (losing .none) ∧ slot? (losing .none) 0 = some { address := 3, bearing := 250, gating := true, scoring := true }
    ∧ (losing .none).wln.stations.length = 8 ∧ (losing .none).wln.window = some (1, true)
    ∧ (station (losing .none) 0).state ≠ .disabled
    ∧ ((attempt? (after (.disableStation 1 0) (losing .none)) 1).map Attempt.faults) = some [.stationLost]
    ∧ (let s := { disabled with wln := { disabled.wln with poll := .stopped } }
       Free s ∧ (station s 0).state = .disabled ∧ s.wln.poll = .stopped ∧ s.wln.test = .idle ∧ s.wln.stations.length = 8
         ∧ (after (.enableStation 1 0) s).wln.poll = .inCycle)
    ∧ 7 < 8 ∧ slot? rested 7 = none
    ∧ LosesStation 0 (losing .replyWait) ∧ (losing .replyWait).wln.phase = .replyWait ∧ NotLast 0 (losing .replyWait)
    ∧ (losing .replyWait).wln.discard = false ∧ (losing .receiving).wln.phase = .receiving
    ∧ judgeReply 3 (losing .receiving).wln.reply = .bad false
    ∧ (station (after .replyTimeout (losing .replyWait)) 0).state = .offline
    ∧ ((attempt? (after .replyTimeout (losing .replyWait)) 1).map Attempt.faults) = some [.stationLost]
    ∧ ¬LosesStation 0 (answered .replyWait) := by
  unfold LosesStation NotLast
  repeat' first
    | decide +kernel
    | exact free rfl rfl rfl
    | apply And.intro

/-- A line test watches for an echo with polling PAUSED, at rest between cycles or in the middle of one. -/
def paused (between : Bool) (next : Nat) (timer : Option Nat) (s : State) : State :=
  { s with wln := { s.wln with test := .watching, poll := .paused, pausedBetween := between, nextSlot := next, cycleTimer := timer } }

/-- What was heard while listening, and a carrier; a byte while listening; every way on from PAUSED. -/
theorem test_met_noiseAndResumption :
    (testing (.listening 1 true) .none).wln.test = .listening 1 true ∧ (testing (.listening 1 true) .none).wln.poll = .stopped
    ∧ anyPollable (testing (.listening 1 true) .none) = false
    ∧ (let s := { testing (.listening 1 false) .none with fld := { rested.fld with outside := setLevel rested.fld.outside 12 true } }
       sensedFn s .windCd = some true)
    ∧ (testing (.listening 1 false) .none).wln.phase = .none ∧ (testing (.listening 1 false) .none).wln.trailing = none
    ∧ anyPollable (paused true 0 (some 1) blank) = false ∧ (paused true 0 (some 1) blank).wln.poll = .paused
    ∧ anyPollable (paused true 0 (some 1) rested) = true ∧ canBePolled (paused true 0 none rested) 0 = true
    ∧ (station (paused true 0 none rested) 0).state ≠ .offline ∧ (paused true 0 none rested).wln.stations.length = 8
    ∧ nextDue (paused false 0 (some 1) rested) = some 0 ∧ nextDue (paused false 1 (some 1) rested) = none
    ∧ anyPollable (paused false 1 (some 1) rested) = true
    ∧ (after (.echo true 4096) (paused true 0 (some 1) rested)).wln.poll = .between
    ∧ (after .echoWindowExpiry (paused true 0 none rested)).wln.poll = .inCycle := by
  decide +kernel

/-- Characters below and above the printable ones; a refresh of an empty queue, with every message. -/
theorem test_met_refreshes :
    (∃ b ∈ [(0x1F : Byte)], b.toNat < 0x20 ∨ 0x7E < b.toNat) ∧ (∃ b ∈ [(0x7F : Byte)], b.toNat < 0x20 ∨ 0x7E < b.toNat)
    ∧ MessagesOk rested ∧ (refreshKeys rested.brd.messages).length = 20 ∧ Room 20 rested
    ∧ (refreshKeys (List.replicate 16 [0x41])).length = 36
    ∧ (sendOrder fullQueue).head? = some { key := key .light, blank := false } := by
  unfold Room; refine ⟨⟨_, List.mem_singleton.2 rfl, ?_⟩, ⟨_, List.mem_singleton.2 rfl, ?_⟩, rfl, ?_⟩ <;> decide +kernel

/-- The positioner in FAULT, its gate unknown, and a move that a return waits for. -/
def lost : State := { gateAt .fault coached with gate := { (gateAt .fault coached).gate with current := none } }

/-- A frame that an enqueue begins, one that waits for the gap, for the frame on the line and for the board; a board that becomes
ready in NORMAL with items, and while the gap runs; the stall timer a millisecond later; a return that is dropped and one kept. -/
theorem test_met_framesBegin :
    Free rested ∧ MessagesOk rested ∧ rested.brd.queue = [] ∧ rested.brd.sender = none ∧ rested.brd.pacing = none
    ∧ rested.brd.ready = true
    ∧ (after (.boardMessage 1 16 [0x41]) rested).brd.sender = some { key := { field := .message, line := 16 }, text := [0x41] }
    ∧ (let s := { rested with brd := { rested.brd with pacing := some 20 } }
       s.brd.pacing ≠ none ∧ (after (.boardMessage 1 16 [0x41]) s).brd.sender = none)
    ∧ ({ rested.brd with sender := some { key := key .light, text := [] } } : Brd).sender ≠ none
    ∧ (queued false).brd.stalled = false ∧ (queued false).brd.sender = none ∧ lineOf (queued false) .boardReady = some 13
    ∧ (after (.boardReadyChange true) (queued false)).brd.sender = some { key := key .light, text := ascii ['R', 'E', 'D'] }
    ∧ (after (.boardReadyChange true) { queued false with brd := { (queued false).brd with pacing := some 20 } }).brd.sender = none
    ∧ rested.brd.stalled = false ∧ (queued true).brd.pacing = none ∧ sendOrder (onto [] (queued true).brd.queue) = (queued true).brd.queue
    ∧ (let s := { queued false with brd := { (queued false).brd with stallTimer := some 7 } }
       s.brd.ready = false ∧ s.brd.queue ≠ [] ∧ (lineOf s .boardReady).isSome = true
         ∧ (match step s with | .next t => t.brd.stallTimer | .fault _ | .refused _ => none) = some 6)
    ∧ lost.gate.current = none ∧ lost.gate.state = .fault ∧ (requestReturn lost).gate.state = .fault
    ∧ (gateAt .movingDown coached).gate.state = .movingDown
    ∧ (requestReturn (gateAt .movingDown coached)).gate.returnWaiting = true := by
  repeat' first
    | decide +kernel
    | exact free rfl rfl rfl
    | exact rfl
    | apply And.intro

/-- A listen, a timer of the characters after a closed reply at its end and before it, and a trap that counts. -/
theorem test_met_theMillisecond :
    (testing (.listening 1 true) .none).wln.test = .listening 1 true ∧ RunsOut (some 1) ∧ ¬RunsOut (some 5)
    ∧ (trap .counting).meas.trap = .counting ∧ (trap .counting).pending = []
    ∧ (∀ r heard, rested.wln.test ≠ .listening r heard)
    ∧ (match step { rested with wln := { rested.wln with carrierTimer := some 9, windHold := some 1000 } } with
       | .next t => (t.wln.carrierTimer, t.wln.windHold)
       | .fault _ | .refused _ => (none, none)) = (some 8, some 999) :=
  ⟨rfl, Nat.le_refl 1, (by decide : ¬(5 : Nat) ≤ 1), rfl, rfl, fun _ _ h => TestState.noConfusion h, by decide +kernel⟩

/-- An exchange on a wind line where a carrier is there, one with no WIND_CD line, and one with characters already in. -/
def carried (p : Phase) : State :=
  { polling p with fld := { rested.fld with outside := setLevel rested.fld.outside 12 true } }

def lineless (p : Phase) (n : Nat) (trailing : Option Nat) : State :=
  { polling p with wln := { (polling p).wln with cdLine := none, trailing := trailing, reply := List.replicate n (char 0) } }

/-- SET LINES has made an output of the WIND_CD line in REPLY_WAIT, and drives it low. -/
def moved : State :=
  { polling .replyWait with
    prof := { rested.prof with profile := { rested.prof.profile with lines := standardMap.set 12 ⟨.generalOut, .openDrain⟩ } } }

/-- The carrier away from its phase, with a line and without; the poll sent with a carrier and without one; the carrier that
begins the reply, one on a line driven low, and one in the listen; the other ends away from their phases. -/
theorem test_met_theCarrier :
    (polling .sending).wln.phase ≠ .carrierWait ∧ carrierLine (polling .sending) = some 12
    ∧ carrierLine (lineless .sending 0 none) = none ∧ carrierLine rested = some 12
    ∧ (∀ r heard, rested.wln.test ≠ .listening r heard)
    ∧ carrier (carried .sending) = true ∧ (after .pollSent (carried .sending)).wln.phase = .receiving
    ∧ carrier (polling .sending) = false ∧ (after .pollSent (polling .sending)).wln.phase = .replyWait
    ∧ sensed (carried .replyWait) 12 = true ∧ (after (.replyBegin none) (polling .replyWait)).wln.phase = .receiving
    ∧ moved.wln.phase = .replyWait ∧ moved.wln.cdLine = some 12
    ∧ sensed { moved with fld := { moved.fld with outside := setLevel moved.fld.outside 12 true } } 12 = false
    ∧ (after (.replyBegin none) moved).wln.phase = .replyWait
    ∧ (testing (.listening 1 false) .none).wln.phase ≠ .replyWait ∧ carrierLine (testing (.listening 1 false) .none) = some 12
    ∧ (after (.replyBegin none) (testing (.listening 1 false) .none)).wln.test = .listening 1 true
    ∧ (polling .sending).wln.phase ≠ .turnaround ∧ (polling .turnaround).wln.phase ≠ .sending := by
  repeat' first
    | decide +kernel
    | exact fun _ _ h => TestState.noConfusion h
    | apply And.intro

/-- A character in a deaf phase, the first of a reply, its 31st and its 32nd, and the noise: between exchanges, in the carrier
wait, before the carrier, and after a closed reply. -/
theorem test_met_characters :
    (lineless .replyWait 0 none).wln.cdLine = none
    ∧ (after (.replyCharacter (char 7)) (lineless .replyWait 0 none)).wln.reply = [char 7]
    ∧ (lineless .receiving 30 none).wln.reply.length < 31 ∧ 31 ≤ (lineless .receiving 31 none).wln.reply.length
    ∧ (after (.noiseByte (char 7)) (lineless .receiving 30 none)).wln.phase = .receiving
    ∧ (after (.replyBegin (some (char 7))) (lineless .receiving 31 none)).wln.phase ≠ .receiving
    ∧ (after (.noiseByte (char 7)) (polling .turnaround)).wln.noise = 0
    ∧ (after (.noiseByte (char 7)) (polling .carrierWait)).wln.noise = 1
    ∧ (polling .replyWait).wln.cdLine.isSome = true
    ∧ (after (.replyCharacter (char 7)) (polling .replyWait)).wln.noise = 1
    ∧ (after (.replyBegin (some (char 7))) rested).wln.noise = 1
    ∧ (lineless .none 0 (some 3)).wln.trailing.isSome = true
    ∧ (after (.noiseByte (char 7)) (lineless .none 0 (some 3))).wln.trailing = some 5 := by
  decide +kernel

/-! ## The widened statements: discards, rankings, keys and notices -/

/-- The directory and the ranking of the worked table of 08, section 8.8: bib 44 is disqualified. -/
def tabled : List Competitor :=
  [(12, 1360), (7, 1285), (40, 1285), (3, 1210), (19, 1190), (25, 1190), (44, 2000)].map fun p =>
    { competitor p.1 with totals := [some 1000, some (p.2 - 1000), none, none], disqualified := p.1 == 44 }

/-- Ties share a rank and the next one counts them; the sum of the round totals; the disqualified. -/
theorem test_ranks :
    rankingOf tabled = [12, 7, 40, 3, 19, 25, 44] ∧ tabled.map rankingTotal = [1360, 1285, 1285, 1210, 1190, 1190, 2000]
    ∧ tabled.map (rankOf tabled (rankingOf tabled)) = [some 1, some 2, some 2, some 4, some 5, some 5, none] := by
  decide +kernel

/-- The start lists of Q 2, 4, 5 and 10, head first. -/
theorem test_fromRanking :
    fromRanking tabled (rankingOf tabled) 2 = [40, 7, 12] ∧ fromRanking tabled (rankingOf tabled) 4 = [3, 40, 7, 12]
    ∧ fromRanking tabled (rankingOf tabled) 5 = [25, 19, 3, 40, 7, 12]
    ∧ fromRanking tabled (rankingOf tabled) 10 = [25, 19, 3, 40, 7, 12] := by
  decide +kernel

/-- Each operand one past its range; a ranking of two that tie, asked for one, two and three places. -/
theorem test_met_ranges :
    Free rested ∧ 5 < 6 ∧ 40 < 41 ∧ 1000 < 1001 ∧ (-6001 : Int) < -6000 ∧ (6000 : Int) < 6001 ∧ RankingOk ranked
    ∧ (ranked.scr.ranking.filter fun b => (findBib ranked.cst.directory b).any fun c => !c.disqualified) = [7, 9]
    ∧ [7, 9].length ≤ 2 ∧ (1 : Nat) ≤ 1 ∧ ([7, 9] : List Nat)[1 - 1]? = some 7 ∧ ([7, 9] : List Nat)[1]? = some 9
    ∧ fromRanking ranked.cst.directory ranked.scr.ranking 1 = [9, 7] ∧ (competitor 9).disqualified = false
    ∧ ({ competitor 9 with disqualified := true } : Competitor).disqualified = true
    ∧ findBib tabled 12 = tabled[0]? ∧ 12 ∈ rankingOf tabled := by
  repeat' first
    | decide +kernel
    | exact free rfl rfl rfl
    | exact test_met_aLaw_ranking.1
    | apply And.intro

/-- A complete record with another sum, one with a framing error, one of another console, of both kinds; console B is DISABLED. -/
theorem test_met_badRecords :
    let r := clean (markRecordBytes .a 9 13100 1)
    let h := clean (heartbeatBytes .a)
    assembly .a rested.meas = [] ∧ consoleState .a rested.meas ≠ .disabled
    ∧ (r.map fun x => x.byte).take 2 = [0xE5, 0x41] ∧ r.length = 7 ∧ (h.map fun x => x.byte).take 2 = [0xE6, 0x41] ∧ h.length = 3
    ∧ ((r.set 6 (char 0)).map RxChar.byte).sum ≠ 0 ∧ (r.set 2 { byte := 0, framing := true }).any RxChar.framing = true
    ∧ consoleId .b ≠ 0x41
    ∧ (silence .a (after (.markRecord .a (r.set 6 (char 0))) (silent rested)).meas = none)
    ∧ (after (.markRecord .a r) (silent rested)).meas.stateA = .active
    ∧ consoleState .b ({ rested.meas with stateB := .disabled } : Meas) = .disabled := by
  decide +kernel

/-- Another attempt of the open round. -/
def behind (x : AttemptState) (s : State) : State :=
  { s with cst := { s.cst with startList := [], attempts := s.cst.attempts ++ [{ newAttempt 2 1 8 none with state := x }] } }

/-- A completion that ends the round, and one while another attempt is in SCORING; distance and wind are there. -/
theorem test_met_aCompletion :
    (let s := { settledHill with cst := { settledHill.cst with startList := [], directory := [competitor 9] } }
     Room 12 s ∧ findBib s.cst.directory 9 = some (competitor 9) ∧ (checkCompletion 1 s).cst.rstate = .ended
       ∧ (checkCompletion 1 s).brd.queue.map BoardItem.key = [key .points, key .rank, { field := .top, line := 1 }]
       ∧ (checkCompletion 1 s).link.notices.length = 1)
    ∧ (checkCompletion 1 (behind .scoring settledHill)).cst.rstate = .opened
    ∧ (checkCompletion 1 (behind .complete settledHill)).cst.rstate = .ended
    ∧ (attempt? settledHill 1).bind Attempt.distance = some 255 ∧ (attempt? settledHill 1).bind Attempt.wind = some 80 := by
  unfold Room; decide +kernel

/-- One attempt waits for console B, which falls SILENT; with its style and wind settled it completes by that. -/
theorem test_met_aSilence :
    let s := { awaited with cst := { awaited.cst with directory := [competitor 9], attempts := awaited.cst.attempts.map fun a =>
      { a with style := .full, marks := List.replicate 5 (some 36), windStatus := some .computed, wind := some 80 } } }
    consoleState .b s.meas = .active ∧ silence .b s.meas = some 5000 ∧ HillLaws s ∧ MarksOk s ∧ s.meas.waits = [(1, 1)]
    ∧ (attempt? s 1).map (markOf .b) = some none ∧ Room 16 s
    ∧ (let t := after (.silenceTimerExpiry .b) s
       (attempt? t 1).map Attempt.state = some .complete ∧ t.brd.subjects.distance = some 1 ∧ t.brd.subjects.points = some 1
         ∧ t.brd.subjects.rank = some 9 ∧ (outgoing t.link).length = 2) := by
  intro s; unfold Room
  repeat' first
    | decide +kernel
    | exact laws rfl
    | exact marks rfl
    | apply And.intro

/-- Two attempts wait for console B, and a notice and a board frame are on their lines. -/
def twoWait : State :=
  { awaited with
    cst := { awaited.cst with attempts := awaited.cst.attempts ++
      [{ newAttempt 2 1 8 none with state := .scoring, markA := some mark13100, distanceStatus := .pendingSecond }] },
    meas := { awaited.meas with waits := [(2, 9), (1, 30)] },
    brd := { awaited.brd with sender := some { key := key .light, text := [] } },
    link := { awaited.link with tx := .notice notice } }

theorem test_met_twoWait :
    consoleState .b twoWait.meas = .active ∧ silence .b twoWait.meas = some 5000 ∧ twoWait.link.tx = .notice notice
    ∧ twoWait.brd.sender ≠ none ∧ waitersFor .b twoWait = [2, 1] ∧ waitersFor .a twoWait = []
    ∧ (after (.silenceTimerExpiry .b) twoWait).brd.subjects.distance = some 1
    ∧ (after (.silenceTimerExpiry .b) twoWait).meas.waits = [] := by
  decide +kernel

/-- A mark that is entered again, the mark that completes an attempt, and the recompute of one that was COMPLETE. -/
theorem test_met_scoredKeys :
    (attempt? (completed none) 1).map (fun a => a.marks[0]?) = some (some (some 36))
    ∧ (let s := { settledHill with cst := { settledHill.cst with
         attempts := settledHill.cst.attempts.map fun a => { a with marks := a.marks.set 4 none, style := .opened } } }
       (attempt? (after (.enterMark 1 1 5 36) s) 1).map Attempt.state = some .complete
         ∧ (attempt? (after (.closeMarks 1 1) s) 1).map Attempt.state = some .complete
         ∧ (after (.enterMark 1 1 5 36) s).brd.sender.map BoardFrame.key = some (key .marks)
         ∧ (outgoing (after (.enterMark 1 1 5 36) s).link).map Notice.body =
             (((attempt? (after (.enterMark 1 1 5 36) s) 1).bind Attempt.points).toList.map fun p =>
               .attemptComplete false 1 1 9 (some 255) p 0 none))
    ∧ (outgoing (after (.setDistance 1 1 256) (completed none)).link).length = 1
    ∧ (after (.setDistance 1 1 256) (completed none)).brd.subjects =
        { noSubjects with distance := some 1, points := some 1, rank := some 9 } := by
  decide +kernel

/-- Slot 0's exchange is under way and its outcome is discarded; a second miss, and the third lead with a framing-error mark. -/
theorem test_met_aDiscard :
    (∀ p ∈ [(Instr.contentionMiss, Phase.carrierWait), (.replyTimeout, .replyWait), (.replyGapExpiry, .receiving)],
      let s := { answered p.2 with wln := { (answered p.2).wln with discard := true } }
      s.wln.phase = p.2 ∧ s.wln.discard = true ∧ s.wln.test = .waitingExchange
        ∧ (after p.1 s).wln.contention = 2 ∧ (station (after p.1 s) 0).misses = 0)
    ∧ (let s := { answered .replyWait with wln := { (answered .replyWait).wln with
         stations := rested.wln.stations.set 0 { stationReset with state := .online, misses := 1 } } }
       (outgoing (after .replyTimeout s).link).map Notice.body = [.station 0 3 .online .suspect 2])
    ∧ polarityNotices (.bad true) (heard [{ byte := 0x2E, framing := true }] 1 2) = [.polarity true]
    ∧ polarityNotices (.bad true) (heard [{ byte := 0x2E, framing := true }] 1 1) = [] := by
  decide +kernel

/-- Slot 0's station is OFFLINE, and the cycle of this number has gone before. -/
def offline (n : Nat) (s : State) : State :=
  { s with wln := { s.wln with cycle := n, stations := s.wln.stations.set 0 { stationReset with state := .offline } } }

theorem onlyOffline {s : State} (hp : s.prof = rested.prof) (h0 : (station s 0).state = .offline)
    (hc : (s.wln.cycle + 1) % 65536 % 8 ≠ 0) : OnlyOffline s := by
  have hs : ∀ k, slot? s (k + 1) = none := fun k => by
    unfold slot?; rw [hp]
    change ((List.replicate 7 none)[k]?).join = none
    rw [List.getElem?_replicate]; split <;> rfl
  refine ⟨by simp [anyPollable, canBePolled, h0, slot?, hp, rested], fun k hk => ?_, hc⟩
  match k with
  | 0 => exact h0
  | k + 1 => simp [canBePolled, hs] at hk

/-- Cycles 8 and 0 with an OFFLINE station that is due, and cycle 1 in which it is not. -/
theorem test_met_theEighthCycle :
    DueIn 8 0 (offline 7 (cycling .between)) ∧ DueIn 0 0 (offline 65535 (cycling .between))
    ∧ (after .cyclePeriodExpiry (offline 7 (cycling .between))).wln.polled = 0
    ∧ (after .cyclePeriodExpiry (offline 7 (cycling .between))).wln.poll = .inCycle
    ∧ (after .cyclePeriodExpiry (offline 65535 (cycling .between))).wln.cycle = 0
    ∧ OnlyOffline (offline 0 (cycling .between))
    ∧ (after .cyclePeriodExpiry (offline 0 (cycling .between))).wln.poll = .between := by
  refine ⟨?_, ?_, ?_, ?_, ?_, onlyOffline rfl rfl (by decide), ?_⟩ <;> (try unfold DueIn) <;> decide +kernel

/-- A line test in a step ends with a poll state and a station that can be polled. -/
def ending (x : TestState) (p : PollState) (next : Nat) (s : State) : State :=
  { s with wln := { s.wln with test := x, poll := p, nextSlot := next } }

/-- What ends a test, from STOPPED with a station that can be polled and with an OFFLINE one, and NOISE from PAUSED. -/
theorem test_met_testEnds :
    EndsTest .listenEnd (ending (.listening 1 true) .paused 0 rested) ∧ EndsTest .echoWindowExpiry (ending .watching .stopped 0 rested)
    ∧ EndsTest (.echo true 4096) (ending .watching .paused 0 rested)
    ∧ EndsTest (.noiseByte (char 3)) (ending (.listening 1 false) .paused 0 rested)
    ∧ DueIn 1 0 (ending .watching .stopped 0 rested)
    ∧ (after .echoWindowExpiry (ending .watching .stopped 0 rested)).wln.cycle = 1
    ∧ OnlyOffline (ending .watching .stopped 0 (offline 0 (cycling .stopped)))
    ∧ (after .echoWindowExpiry (ending .watching .stopped 0 (offline 0 (cycling .stopped)))).wln.poll = .between
    ∧ (let s := ending (.listening 1 false) .paused 0 rested
       nextDue s = some 0 ∧ (after (.noiseByte (char 3)) s).wln.noise = 1
         ∧ (after (.noiseByte (char 3)) s).freeCtr = s.freeCtr + 1 ∧ (after (.noiseByte (char 3)) s).wln.poll = .inCycle)
    ∧ (let s := ending (.listening 1 true) .paused 1 rested
       nextDue s = none ∧ s.wln.cycleTimer = none ∧ (after .listenEnd s).wln.poll = .inCycle ∧ (after .listenEnd s).wln.cycle = 1)
    ∧ (let s := ending (.listening 1 true) .paused 1 (offline 0 rested)
       (after .listenEnd s).wln.poll = .between ∧ (after .listenEnd s).wln.cycle = 1) :=
  ⟨.inr ⟨1, true, rfl, .inl ⟨rfl, .inl rfl⟩⟩, .inl ⟨rfl, .inl rfl⟩, .inl ⟨rfl, .inr ⟨true, 4096, rfl, Nat.le_refl _⟩⟩,
    .inr ⟨1, false, rfl, .inr ⟨rfl, rfl⟩⟩, ⟨by decide, rfl, by decide +kernel⟩, by decide +kernel,
    onlyOffline rfl rfl (by decide), by decide +kernel, by decide +kernel, by decide +kernel, by decide +kernel⟩

/-- An enqueue that starts the stall timer, one that leaves it, and one without a BOARD_READY line; a RESTART with every key in the
queue, and with 13 message lines more. -/
theorem test_met_theStallStarts :
    (let s := { queued false with brd := { (queued false).brd with queue := [] } }
     s.brd.ready = false ∧ (lineOf s .boardReady).isSome = true ∧ s.brd.stalled = false ∧ s.brd.stallTimer = none
       ∧ (after (.boardMessage 1 16 [0x41]) s).brd.stallTimer = some 10000
       ∧ (after (.restart 1) s).brd.stallTimer = some 10000)
    ∧ (after (.boardMessage 1 16 [0x41]) { queued false with brd := { (queued false).brd with stallTimer := some 7 } }).brd.stallTimer =
        some 7
    ∧ (refreshKeys (List.replicate 12 [0x41] ++ List.replicate 4 [])).length = 32
    ∧ (refreshKeys (List.replicate 13 [0x41] ++ List.replicate 3 [])).length = 33
    ∧ (outgoing (after (.restart 1) rested).link).map Notice.body = [.light .red .dark none]
    ∧ outgoing (after (.restart 1) (unopened .none 0)).link = [] := by
  decide +kernel

end Sys2Proof.Tests
end

/-! PROOFS. The points of an attempt: which marks the style points drop (R125, R126) and the distance points (R129). -/

namespace Sys2Proof.Machine

/-! ## The present marks -/

theorem presentMarks_map_snd (marks : List (Option Nat)) : (presentMarks marks).map Prod.snd = marks.filterMap id := by
  have hval : (fun m : Option Nat × Nat => (m.1.map fun v => (m.2, v)).map Prod.snd) = id ∘ Prod.fst := by
    funext ⟨m, i⟩; cases m <;> rfl
  rw [presentMarks, List.map_filterMap, hval, ← List.filterMap_map, List.zipIdx_map_fst]

theorem presentMarks_judges_nodup (marks : List (Option Nat)) : ((presentMarks marks).map Prod.fst).Nodup := by
  have hidx : ((marks.zipIdx 1).map Prod.snd).Nodup := by
    rw [List.zipIdx_map_snd]; exact List.nodup_range'
  rw [presentMarks, List.Nodup, List.pairwise_map, List.pairwise_filterMap]
  refine (List.pairwise_map.mp hidx).imp fun {m n} hne b hb c hc => ?_
  obtain ⟨_, -, rfl⟩ := Option.map_eq_some_iff.mp hb
  obtain ⟨_, -, rfl⟩ := Option.map_eq_some_iff.mp hc
  exact hne

/-! ## The two dropped slots (R125) -/

section Dropped

variable {ms : List (Nat × Nat)} {lo hi : Nat}

/-- A search for the slots of one mark finds the first of them. -/
theorem find_first_of_mark {v : Nat} {test : Nat × Nat → Bool} (htest : ∀ m ∈ ms, test m = true ↔ m.2 = v)
    (hmem : v ∈ ms.map Prod.snd) :
    ∃ before i after, ms = before ++ (i, v) :: after ∧ ms.find? test = some (i, v) ∧ ∀ m ∈ before, m.2 ≠ v := by
  obtain ⟨p, hp, hpv⟩ := List.mem_map.mp hmem
  obtain ⟨⟨i, u⟩, hfind⟩ := Option.isSome_iff_exists.mp (List.find?_isSome.mpr ⟨p, hp, (htest p hp).mpr hpv⟩)
  obtain ⟨hfound, before, after, hms, hbefore⟩ := List.find?_eq_some_iff_append.mp hfind
  obtain rfl : u = v := (htest (i, u) (by simp [hms])).mp hfound
  refine ⟨before, i, after, hms, hfind, fun m hm hmv => ?_⟩
  have hpass : test m = true := (htest m (by simp [hms, hm])).mpr hmv
  simpa [hpass] using hbefore m hm

/-- The slot dropped as lowest is the first that holds the lowest mark. -/
theorem dropLow_eq_first (hle : ∀ m ∈ ms, lo ≤ m.2) (hmem : lo ∈ ms.map Prod.snd) :
    ∃ before i after, ms = before ++ (i, lo) :: after ∧ dropLow ms = some i ∧ ∀ m ∈ before, m.2 ≠ lo := by
  have htest : ∀ m ∈ ms, (ms.all fun o => decide (m.2 ≤ o.2)) = true ↔ m.2 = lo := by
    obtain ⟨p, hp, hplo⟩ := List.mem_map.mp hmem
    intro m hm
    rw [List.all_eq_true]
    exact ⟨fun h => le_antisymm (hplo ▸ of_decide_eq_true (h p hp)) (hle m hm), fun h o ho => decide_eq_true (h ▸ hle o ho)⟩
  obtain ⟨before, i, after, hms, hfind, hbefore⟩ := find_first_of_mark htest hmem
  exact ⟨before, i, after, hms, by rw [dropLow, hfind]; rfl, hbefore⟩

/-- The slot dropped as highest is the last that holds the highest mark. -/
theorem dropHigh_eq_last (hle : ∀ m ∈ ms, m.2 ≤ hi) (hmem : hi ∈ ms.map Prod.snd) :
    ∃ before j after, ms = before ++ (j, hi) :: after ∧ dropHigh ms = some j ∧ ∀ m ∈ after, m.2 ≠ hi := by
  have htest : ∀ m ∈ ms.reverse, (ms.all fun o => decide (o.2 ≤ m.2)) = true ↔ m.2 = hi := by
    obtain ⟨p, hp, hphi⟩ := List.mem_map.mp hmem
    intro m hm
    rw [List.all_eq_true]
    exact ⟨fun h => le_antisymm (hle m (List.mem_reverse.mp hm)) (hphi ▸ of_decide_eq_true (h p hp)),
      fun h o ho => decide_eq_true (h ▸ hle o ho)⟩
  obtain ⟨after, j, before, hms, hfind, hafter⟩ := find_first_of_mark htest (by simpa using hmem)
  refine ⟨before.reverse, j, after.reverse, ?_, by rw [dropHigh, hfind]; rfl, fun m hm => hafter m (List.mem_reverse.mp hm)⟩
  rw [← ms.reverse_reverse, hms]
  simp

/-- The two dropped slots hold the lowest and the highest mark, and are never the same slot, even when every mark is equal. -/
theorem dropped_differ (hnodup : (ms.map Prod.fst).Nodup) (hlen : 2 ≤ ms.length) (hle : ∀ m ∈ ms, lo ≤ m.2 ∧ m.2 ≤ hi)
    (hlo : lo ∈ ms.map Prod.snd) (hhi : hi ∈ ms.map Prod.snd) :
    ∃ i j, dropLow ms = some i ∧ dropHigh ms = some j ∧ i ≠ j ∧ (i, lo) ∈ ms ∧ (j, hi) ∈ ms := by
  obtain ⟨before, i, after, hi_at, hlow, hbefore⟩ := dropLow_eq_first (fun m hm => (hle m hm).1) hlo
  obtain ⟨before', j, after', hj_at, hhigh, hafter'⟩ := dropHigh_eq_last (fun m hm => (hle m hm).2) hhi
  have hi_mem : (i, lo) ∈ ms := by simp [hi_at]
  have hj_mem : (j, hi) ∈ ms := by simp [hj_at]
  refine ⟨i, j, hlow, hhigh, fun hij => ?_, hi_mem, hj_mem⟩
  have hsame : (i, lo) = (j, hi) := List.inj_on_of_nodup_map hnodup hi_mem hj_mem hij
  obtain ⟨rfl, rfl⟩ := Prod.mk.inj hsame
  have hequal : ∀ m ∈ ms, m.2 = lo := fun m hm => le_antisymm (hle m hm).2 (hle m hm).1
  have hfirst : before = [] :=
    List.eq_nil_iff_forall_not_mem.mpr fun m hm => hbefore m hm (hequal m (by simp [hi_at, hm]))
  have hlast : after' = [] :=
    List.eq_nil_iff_forall_not_mem.mpr fun m hm => hafter' m hm (hequal m (by simp [hj_at, hm]))
  subst hfirst hlast
  cases before' with
  | nil => simp [hj_at] at hlen
  | cons p rest =>
    rw [hj_at] at hnodup hi_at
    obtain ⟨rfl, -⟩ := List.cons.inj hi_at
    simp at hnodup

/-- The marks are those of two different slots and those that removing these two judges leaves. -/
theorem perm_two_slots_and_rest {p q : Nat × Nat} (hnodup : (ms.map Prod.fst).Nodup) (hp : p ∈ ms) (hq : q ∈ ms)
    (hpq : p ≠ q) : ms.Perm (p :: q :: ms.filter fun m => !(p.1 == m.1 || q.1 == m.1)) := by
  have hslots : ms.Nodup := hnodup.of_map
  have hkey : ∀ m ∈ ms, ∀ r ∈ ms, (r.1 == m.1) = (m == r) := fun m hm r hr =>
    Bool.eq_iff_iff.mpr (by simpa using ⟨fun h => List.inj_on_of_nodup_map hnodup hm hr h.symm, fun h => h ▸ rfl⟩)
  have hrest : (ms.filter fun m => !(p.1 == m.1 || q.1 == m.1)) = (ms.erase p).erase q := by
    rw [(hslots.erase p).erase_eq_filter, hslots.erase_eq_filter, List.filter_filter]
    refine List.filter_congr fun m hm => ?_
    rw [hkey m hm p hp, hkey m hm q hq, Bool.not_or, Bool.and_comm]
    rfl
  rw [hrest]
  exact (List.perm_cons_erase hp).trans ((List.perm_cons_erase ((List.mem_erase_of_ne hpq.symm).mpr hq)).cons p)

end Dropped

/-! ## The remaining marks and the style points (R126) -/

section Style

variable {marks : List (Option Nat)} {lo hi : Nat}

/-- What remains are the present marks without one lowest and one highest, each of them at most the highest. -/
theorem remainingSum_drops_extremes (hlen : 2 ≤ (presentMarks marks).length)
    (hle : ∀ x ∈ marks.filterMap id, lo ≤ x ∧ x ≤ hi) (hlo : lo ∈ marks.filterMap id) (hhi : hi ∈ marks.filterMap id) :
    remainingSum marks = (marks.filterMap id).sum - lo - hi
      ∧ remainingSum marks ≤ ((presentMarks marks).length - 2) * hi := by
  rw [← presentMarks_map_snd] at hle hlo hhi ⊢
  have hnodup := presentMarks_judges_nodup marks
  have hrange : ∀ m ∈ presentMarks marks, lo ≤ m.2 ∧ m.2 ≤ hi := fun m hm => hle m.2 (List.mem_map_of_mem hm)
  obtain ⟨i, j, hlow, hhigh, hij, hmemLow, hmemHigh⟩ := dropped_differ hnodup hlen hrange hlo hhi
  have hperm := perm_two_slots_and_rest hnodup hmemLow hmemHigh fun h => hij (congrArg Prod.fst h)
  have hrest : remainingSum marks =
      (((presentMarks marks).filter fun m => !(i == m.1 || j == m.1)).map Prod.snd).sum := by
    simp only [remainingSum, isDropped, hlow, hhigh, Option.some_beq_some]
  rw [hrest]
  constructor
  · rw [(hperm.map Prod.snd).sum_eq, List.map_cons, List.map_cons, List.sum_cons, List.sum_cons, Nat.add_sub_cancel_left,
      Nat.add_sub_cancel_left]
  · rw [hperm.length_eq, ← smul_eq_mul]
    refine (List.sum_le_card_nsmul _ hi fun x hx => ?_).trans_eq (by simp)
    obtain ⟨m, hm, rfl⟩ := List.mem_map.mp hx
    exact (hrange m (List.mem_of_mem_filter hm)).2

/-- FULL: three marks remain, so at most 120 halves. -/
theorem stylePoints_full (hlen : (presentMarks marks).length = 5) (hle : ∀ x ∈ marks.filterMap id, lo ≤ x ∧ x ≤ hi)
    (hlo : lo ∈ marks.filterMap id) (hhi : hi ∈ marks.filterMap id) :
    stylePoints .full marks = ((marks.filterMap id).sum - lo - hi) * 5 ∧ (hi ≤ 40 → stylePoints .full marks ≤ 600) := by
  obtain ⟨hsum, hbound⟩ := remainingSum_drops_extremes (by omega) hle hlo hhi
  rw [hlen] at hbound
  exact ⟨by rw [stylePoints, hsum], fun _ => by rw [stylePoints]; omega⟩

/-- CLOSED4: two marks remain, so at most 80 halves, scaled by 3/2 to at most 120. -/
theorem stylePoints_closed4 (hlen : (presentMarks marks).length = 4) (hle : ∀ x ∈ marks.filterMap id, lo ≤ x ∧ x ≤ hi)
    (hlo : lo ∈ marks.filterMap id) (hhi : hi ∈ marks.filterMap id) :
    stylePoints .closed4 marks = ((marks.filterMap id).sum - lo - hi) * 3 / 2 * 5
      ∧ (hi ≤ 40 → stylePoints .closed4 marks ≤ 600) := by
  obtain ⟨hsum, hbound⟩ := remainingSum_drops_extremes (by omega) hle hlo hhi
  rw [hlen] at hbound
  exact ⟨by rw [stylePoints, hsum], fun _ => by rw [stylePoints]; omega⟩

end Style

/-- Settles O50: R125 drops one slot of the lowest and another of the highest mark. -/
theorem stylePointsDropTheExtremes : Obligations.StylePointsDropTheExtremes := by
  refine ⟨fun a b c d e lo hi hle hlo hhi => ?_, fun ms lo hi _ hfour hle hlo hhi => stylePoints_closed4 hfour hle hlo hhi⟩
  have hpresent : [some a, some b, some c, some d, some e].filterMap id = [a, b, c, d, e] := rfl
  have hsum : [a, b, c, d, e].sum = a + b + c + d + e := by simp [Nat.add_assoc]
  rw [← hpresent] at hle hlo hhi
  rw [← hsum, ← hpresent]
  exact stylePoints_full rfl hle hlo hhi

/-! ## The distance points (R129) -/

/-- The sum of R129 before its clamp at 0. -/
def distanceSum (h : HillSection) (d : Nat) : Int := h.base + h.mvh * ((d : Int) - h.kh)

theorem distancePoints_eq_clamp (h : HillSection) (d : Nat) : (distancePoints h d : Int) = max (distanceSum h d) 0 :=
  Int.toNat_eq_max _

/-- The ranges of R4 that bound the distance points. -/
theorem hillOk_distance_ranges {h : HillSection} (hok : hillOk h = true) : 40 ≤ h.kh ∧ h.base ≤ 2000 ∧ h.mvh ≤ 20 := by
  simp only [hillOk, within, Bool.and_eq_true, decide_eq_true_eq] at hok
  omega

/-- From the smallest Kh, 40, at most 960 half-metres lie beyond the K-point, each worth at most 20 tenths. -/
theorem distanceSum_le {h : HillSection} {d : Nat} (hok : hillOk h = true) (hd : d ≤ 1000) : distanceSum h d ≤ 21200 := by
  obtain ⟨hkh, hbase, hmvh⟩ := hillOk_distance_ranges hok
  have hbeyond : (h.mvh : Int) * ((d : Int) - h.kh) ≤ 20 * 960 :=
    calc (h.mvh : Int) * ((d : Int) - h.kh) ≤ h.mvh * 960 := by gcongr; omega
      _ ≤ 20 * 960 := by gcongr; omega
  unfold distanceSum
  omega

/-- Settles O49: the clamp is at 0, and the ranges of R4 bound the sum. -/
theorem distancePointsFollowTheRule : Obligations.DistancePointsFollowTheRule := by
  intro h d
  have hclamp := distancePoints_eq_clamp h d
  constructor
  · change (distancePoints h d : Int) = if distanceSum h d < 0 then 0 else distanceSum h d
    split <;> omega
  · intro hok hd
    have hsum := distanceSum_le hok hd
    omega

end Sys2Proof.Machine

/-! PROOFS. SET CURSOR (R160): the cursor it writes, its RANGE refusals, and a received frame of its kind with another length. -/

namespace Sys2Proof.Machine

/-! ## The end of a served request -/

/-- The reply of a request in hand waits once its block has served it, or its sending begins at once (R155, R156). -/
theorem Replied.served {kind tag : Byte} {r : Served} (hk : ∃ h, r.st.link.inHand = some h ∧ h.kind = kind ∧ h.tag = tag) :
    Replied kind tag r.code r.data (settle (waiting kind tag r)) := by
  refine ⟨?_, ?_⟩ <;> rw [settle_link]
  · rw [(startTx_kept _).2.1]
    exact hk
  · unfold startTx
    split
    · exact .inr ⟨_, rfl⟩
    · exact .inl rfl
    · exact .inl rfl
    · exact .inl rfl

theorem taken_inHand (kind tag : Byte) (s : State) :
    ∃ h, (taken kind tag s).link.inHand = some h ∧ h.kind = kind ∧ h.tag = tag := ⟨_, rfl, rfl, rfl⟩

/-- A request whose block changes at most LINK leaves every block but BRD and LINK. -/
theorem onlyChanges_of_link_update {kind tag : Byte} {code : ReplyCode} {data : ReplyData} (f : Link → Link) (s : State) :
    OnlyChanges [.brd, .link] s (settle (waiting kind tag { st := taken kind tag (s.onLink f), code, data })) := by
  refine ⟨fun b hb => ?_, ?_, ?_⟩
  · cases b <;> simp [SameBlock, waiting] at hb ⊢
  · simp [waiting]
  · simp [waiting]

/-! ## The cursor that SET CURSOR writes -/

/-- LINK with a new ranking cursor, or a new attempt cursor. -/
def putCursor (ranking : Bool) (c : Cursor) (l : Link) : Link :=
  if ranking then { l with rankCursor := c } else { l with attemptCursor := c }

/-- The greatest position of each cursor. -/
def lastPosition (ranking : Bool) : Nat := if ranking then 120 else 400

/-- The transmitter's choice does not look at the cursors. -/
theorem startTx_putCursor (ranking : Bool) (c : Cursor) (s : State) :
    startTx (s.onLink (putCursor ranking c)) = (startTx s).onLink (putCursor ranking c) := by
  have hstatus : statusByte (s.onLink (putCursor ranking c)) = statusByte s := by cases ranking <;> rfl
  have hlink : ∀ l, (putCursor ranking c l).tx = l.tx ∧ (putCursor ranking c l).replyWaiting = l.replyWaiting
      ∧ (putCursor ranking c l).notices = l.notices ∧ (putCursor ranking c l).brk = l.brk := fun l => by
    cases ranking <;> exact ⟨rfl, rfl, rfl, rfl⟩
  obtain ⟨htx, hwaiting, hnotices, hbrk⟩ := hlink s.link
  unfold startTx
  rw [hstatus, State.onLink_link, htx, hwaiting, hnotices, hbrk]
  repeat' split
  all_goals cases ranking <;> rfl

/-- A request that writes a cursor leaves the state that taking it in hand with that cursor gives. -/
theorem taken_putCursor (kind tag : Byte) (ranking : Bool) (c : Cursor) (s : State) :
    (taken kind tag s).onLink (putCursor ranking c) = taken kind tag (s.onLink (putCursor ranking c)) := by
  rw [taken, taken, startTx_putCursor]
  cases ranking <;> rfl

theorem serveSetCursor_of_range {ranking : Bool} {position mode : Nat} (s : State) (hlo : 1 ≤ position)
    (hhi : position ≤ lastPosition ranking) (hmode : mode ≤ 1) :
    serveSetCursor ranking.toNat position mode s = done (s.onLink (putCursor ranking { position, advance := mode == 1 })) := by
  have hwithin : within 1 (lastPosition ranking) position = true := by simp [within, hlo, hhi]
  cases ranking
  · exact (if_neg (Nat.not_lt.mpr hmode)).trans (if_pos hwithin)
  · exact (if_neg (Nat.not_lt.mpr hmode)).trans (if_pos hwithin)

theorem serveSetCursor_out_of_range {selector position mode : Nat} (s : State)
    (hout : 1 < selector ∨ 1 < mode ∨ position = 0 ∨ (selector = 0 ∧ 400 < position) ∨ (selector = 1 ∧ 120 < position)) :
    serveSetCursor selector position mode s = refuse .range s := by
  unfold serveSetCursor
  split
  · rfl
  next hmode =>
    match selector with
    | 0 => exact if_neg (by simp [within]; omega)
    | 1 => exact if_neg (by simp [within]; omega)
    | _ + 2 => rfl

theorem setCursor_completes {s : State} (hF : Free s) (tag : Byte) (ranking : Bool) {position mode : Nat}
    (hlo : 1 ≤ position) (hhi : position ≤ lastPosition ranking) (hmode : mode ≤ 1) :
    Completes (.setCursor tag ranking.toNat position mode) .done .none [] s
      (Quiet (s.onLink (putCursor ranking { position, advance := mode == 1 }))) := by
  have hserve := serveSetCursor_of_range (taken 0x70 tag s) hlo hhi hmode
  rw [taken_putCursor] at hserve
  exact Completes.of_served _ hF rfl rfl hserve (taken_inHand 0x70 tag _) rfl rfl (onlyChanges_of_link_update _ s)
    (Quiet.served rfl (taken_brd _ 0x70 tag))

/-! ## A sound control frame (R154, R155) -/

/-- The receiver has these characters of a frame so far. -/
def assembled (f : List RxChar) (s : State) : State := s.onLink fun l => { l with asm := f }

theorem assembled_nil {s : State} (h : s.link.asm = []) : assembled [] s = s := by
  rw [assembled, State.onLink, ← h]

theorem linkByte_lead {s : State} {x : RxChar} (hasm : s.link.asm = []) (hlead : x.byte = 0xA7) :
    linkByte s x = assembled [x] s := by
  rw [linkByte, hasm]
  exact if_pos hlead

theorem linkByte_length {lead n : RxChar} (s : State) (hrange : within 2 200 n.byte.toNat = true) :
    linkByte (assembled [lead] s) n = assembled [lead, n] s := if_pos hrange

/-- Characters after the length byte join the frame until the last of them, with which it is judged. -/
theorem linkBytes_completes_frame {lead n : RxChar} (s : State) (x : RxChar) (xs rest : List RxChar)
    (hlen : rest.length + (xs.length + 1) = n.byte.toNat + 2) :
    linkBytes (x :: xs) (assembled (lead :: n :: rest) s) = judgeFrame (lead :: n :: (rest ++ x :: xs)) s := by
  induction xs generalizing x rest with
  | nil =>
    have hfull : ¬ (lead :: n :: (rest ++ [x])).length < n.byte.toNat + 4 := by simp at hlen ⊢; omega
    exact if_neg hfull
  | cons y ys ih =>
    have hopen : (lead :: n :: (rest ++ [x])).length < n.byte.toNat + 4 := by simp at hlen ⊢; omega
    have hstep : linkByte (assembled (lead :: n :: rest) s) x = assembled (lead :: n :: (rest ++ [x])) s := if_pos hopen
    calc linkBytes (x :: y :: ys) (assembled (lead :: n :: rest) s)
        = linkBytes (y :: ys) (assembled (lead :: n :: (rest ++ [x])) s) := by rw [← hstep]; rfl
      _ = judgeFrame (lead :: n :: (rest ++ [x] ++ y :: ys)) s := ih y (rest ++ [x]) (by simp at hlen ⊢; omega)
      _ = judgeFrame (lead :: n :: (rest ++ x :: y :: ys)) s := by rw [List.append_assoc]; rfl

theorem map_byte_clean (bs : List Byte) : (clean bs).map RxChar.byte = bs := by
  rw [clean, List.map_map]
  exact List.map_id bs

/-- The part of a control frame before its CRC. -/
def frameHead (body : List Byte) : List Byte := 0xA7#8 :: byte body.length :: body

theorem controlFrame_eq (body : List Byte) :
    controlFrame body = frameHead body ++ be16 (crc ((frameHead body).drop 1)).toNat := rfl

theorem controlFrame_length_sub_crc (body : List Byte) : (controlFrame body).length - 2 = (frameHead body).length := by
  simp [controlFrame_eq, be16]

theorem take_controlFrame (body : List Byte) :
    (controlFrame body).take ((controlFrame body).length - 2) = frameHead body := by
  rw [controlFrame_length_sub_crc, controlFrame_eq, List.take_left]

theorem frameOk_clean_controlFrame (body : List Byte) : frameOk (clean (controlFrame body)) = true := by
  have hframing : (clean (controlFrame body)).all (fun x => !x.framing) = true := by simp [clean]
  have hcrc : (controlFrame body).drop ((controlFrame body).length - 2) = be16 (crc ((frameHead body).drop 1)).toNat := by
    rw [controlFrame_length_sub_crc, controlFrame_eq, List.drop_left]
  simp only [frameOk, hframing, map_byte_clean, take_controlFrame, hcrc, beq_self_eq_true, Bool.and_self]

/-- A sound frame that is complete hands its body on. -/
theorem judgeFrame_clean_controlFrame {s : State} (body : List Byte) (hasm : s.link.asm = []) :
    judgeFrame (clean (controlFrame body)) s = receive body s := by
  simp only [judgeFrame, frameOk_clean_controlFrame, map_byte_clean, take_controlFrame, if_true]
  exact congrArg (receive body) (assembled_nil hasm)

/-- A receiver that hunts takes in the body of a sound frame. -/
theorem linkBytes_clean_controlFrame {s : State} {body : List Byte} (hasm : s.link.asm = []) (hlo : 2 ≤ body.length)
    (hhi : body.length ≤ 200) : linkBytes (clean (controlFrame body)) s = receive body s := by
  obtain ⟨k, ks, rfl⟩ := List.exists_cons_of_length_pos (by omega : 0 < body.length)
  have hbyte : (byte (k :: ks).length).toNat = (k :: ks).length := by simp only [byte, BitVec.toNat_ofNat]; omega
  have hrange : within 2 200 (byte (k :: ks).length).toNat = true := by
    simp only [within, hbyte, hlo, hhi, decide_true, Bool.and_self]
  rw [← judgeFrame_clean_controlFrame (k :: ks) hasm]
  change linkBytes _ (linkByte (linkByte s _) _) = _
  rw [linkByte_lead hasm rfl, linkByte_length s hrange]
  exact linkBytes_completes_frame s _ _ [] (by simp only [hbyte]; simp [be16])

theorem takeNext_takes_oldest {s : State} {body : List Byte} {rest : List (List Byte)} (hhand : s.link.inHand = none)
    (hbuf : s.link.buffer = body :: rest) :
    takeNext s = takeBody body (s.onLink fun l => { l with buffer := rest }) := by
  rw [takeNext, hhand, hbuf]

/-- With nothing in hand and an empty buffer a received body is taken in hand at once. -/
theorem receive_of_unoccupied {s : State} (body : List Byte) (hhand : s.link.inHand = none) (hbuf : s.link.buffer = []) :
    receive body s = takeBody body s := by
  have hjoined : joinBuffer body s = s.onLink fun l => { l with buffer := [body] } := by
    simp [joinBuffer, State.onLink, hbuf]
  have hemptied : (joinBuffer body s).onLink (fun l => { l with buffer := [] }) = s := by
    rw [hjoined, State.onLink, State.onLink, ← hbuf]
  rw [receive, takeNext_takes_oldest (body := body) (rest := []) (by rw [hjoined]; exact hhand) (by rw [hjoined]; rfl), hemptied]

/-! ## A frame of kind 0x70 with another length -/

theorem takeParams_setCursor_wrong_length {tag : Byte} {ps : List Byte} (h : ps.length ≠ 4) :
    takeParams 0x70 tag ps = none := by
  match ps with
  | [] | [_] | [_, _] | [_, _, _] => rfl
  | [_, _, _, _] => exact absurd rfl h
  | _ :: _ :: _ :: _ :: _ :: _ => rfl

theorem takeBody_setCursor_wrong_length (s : State) {tag : Byte} {ps : List Byte} (h : ps.length ≠ 4) :
    takeBody (0x70 :: tag :: ps) (startTx s) = waiting 0x70 tag (refuse .length (taken 0x70 tag s)) := by
  have hdecode : decodeRequest (0x70 :: tag :: ps) = .refuse 0x70 tag .length := by
    rw [decodeRequest, takeParams_setCursor_wrong_length h]; rfl
  rw [takeBody, hdecode]
  rfl

theorem setCursor_wrong_length_refused {s : State} (hF : Free s) (tag : Byte) {ps : List Byte} (hlen : ps.length ≠ 4)
    (hmax : ps.length ≤ 198) (hasm : s.link.asm = []) (hbuf : s.link.buffer = []) :
    Happens (.frameReceived (clean (controlFrame (0x70 :: tag :: ps)))) [] s fun t =>
      Replied 0x70 tag .length .none t ∧ Quiet s t := by
  obtain ⟨-, -, hkeptAsm, hkeptBuf, -⟩ := (startTx_kept s).1
  have heffect : linkBytes (clean (controlFrame (0x70 :: tag :: ps))) (startTx s) =
      waiting 0x70 tag (refuse .length (taken 0x70 tag s)) := by
    rw [linkBytes_clean_controlFrame (hkeptAsm.trans hasm) (by simp) (by simp; omega),
      receive_of_unoccupied _ (startTx_free s hF).1 (hkeptBuf.trans hbuf), takeBody_setCursor_wrong_length s hlen]
  refine Happens.of_effect rfl ?_ ?_ <;> rw [heffect]
  · exact onlyChanges_of_link_update id s
  · exact ⟨Replied.served (taken_inHand 0x70 tag s), Quiet.served rfl (taken_brd s 0x70 tag)⟩

/-- Settles O24: the cursor is written where the request is in range, RANGE and LENGTH refuse it otherwise. -/
theorem setCursorTakesThePosition : Obligations.SetCursorTakesThePosition := by
  intro s tag selector position mode hF
  refine ⟨?_, ?_, fun hout => ?_, fun ps hlen hmax hasm hbuf => setCursor_wrong_length_refused hF tag hlen hmax hasm hbuf⟩
  · rintro rfl hlo hhi hmode
    exact setCursor_completes hF tag false hlo hhi hmode
  · rintro rfl hlo hhi hmode
    exact setCursor_completes hF tag true hlo hhi hmode
  · exact Completes.quiet hF rfl rfl (serveSetCursor_out_of_range _ hout)

end Sys2Proof.Machine

/-! PROOFS. How a command runs: requests and events as an effect between the transmitter's choice and the frames that begin
after it (R145, R155, R157), and how a law that every step keeps follows from what its parts keep. -/

namespace Sys2Proof.Machine

/-! ## Every command is an effect -/

/-- The effect of an event, by its command; a request and a hard reset have none here. -/
def eventEffect : Instr → State → State
  | .storeWriteEnd verified => writeEnded verified
  | .debounceEdge line level => lineEdge line level
  | .debounceExpiry line => debounceExpired line
  | .cellAEdge => cellA
  | .cellBEdge interval => cellB interval
  | .trapTimerExpiry => trapTimedOut
  | .indexPulse => indexPulse
  | .gateHomeActive active => gateHome active
  | .stepTimeout => stepTimedOut
  | .settleExpiry => settleExpired
  | .homeTimeout => homeTimedOut
  | .flashTimerExpiry => flashExpired
  | .warningPeriodReached => warningReached
  | .countdownSecondChange => countdownChanged
  | .startWindowExpiry => windowExpired
  | .carrierClear => carrierCleared
  | .contentionMiss => contentionMissed
  | .turnaroundEnd => turnaroundEnded
  | .pollSent => pollWasSent
  | .replyTimeout => replyTimedOut
  | .replyBegin first => replyBegun first
  | .replyCharacter c => windCharacter c
  | .replyGapExpiry => replyGap
  | .noiseByte c => windCharacter c
  | .cyclePeriodExpiry => cyclePeriodExpired
  | .gatingMeanStale => gatingStale
  | .windDeferExpiry => windDeferExpired
  | .listenEnd => listenEnded
  | .echo positive n => echoHeard positive n
  | .echoWindowExpiry => echoWindowEnded
  | .markRecord console chars => consoleBytes console chars
  | .heartbeat console chars => consoleBytes console chars
  | .recordGap console c => fun s => consoleByte console (dropPartialRecord console s) c
  | .silenceTimerExpiry console => silenceExpired console
  | .markLimitExpiry => markLimitExpired
  | .secondMarkWaitExpiry attempt => waitExpired attempt
  | .boardFrameEnd => frameEnded
  | .pacingExpiry => pacingExpired
  | .boardReadyChange level => readyChanged level
  | .stallTimerExpiry => stallExpired
  | .frameReceived chars => linkBytes chars
  | .linkGap c => gapEnded c
  | .replySent => replyEnded
  | .noticeSent => noticeEnded
  | .breakEnd => breakEnded
  | .controlByteDiscarded c => fun s => linkByte s c
  | _ => id

/-- A request is served by its block (R155). -/
theorem exec_of_request {i : Instr} (h : (requestFrame i).isSome = true) (s : State) : exec i s = request i (serve i) s := by
  cases i <;> simp [requestFrame] at h <;> rfl

/-- An event other than a hard reset runs its effect. -/
theorem exec_of_event {i : Instr} (h : requestFrame i = none) (hr : ∀ cause, i ≠ .hardReset cause) (s : State) :
    exec i s = command (eventEffect i) s := by
  cases i with
  | hardReset cause => exact absurd rfl (hr cause)
  | _ => simp [requestFrame] at h <;> rfl

/-- The state in which a command leaves the part, whichever kind of command it is. -/
theorem exec_cases (i : Instr) (s : State) :
    (∃ kind tag ps, requestFrame i = some (kind, tag, ps) ∧
      exec i s = .next (settle (requestEffect kind tag (kind :: tag :: ps) (serve i) (startTx s))))
    ∨ (∃ cause, i = .hardReset cause ∧ exec i s = .next (hardReset cause s))
    ∨ exec i s = .next (settle (eventEffect i (startTx s))) := by
  match hf : requestFrame i with
  | some (kind, tag, ps) =>
    refine .inl ⟨kind, tag, ps, rfl, ?_⟩
    rw [exec_of_request (by rw [hf]; rfl), request, hf]; rfl
  | none =>
    by_cases hr : ∃ cause, i = .hardReset cause
    · obtain ⟨cause, rfl⟩ := hr
      exact .inr (.inl ⟨cause, rfl, rfl⟩)
    · exact .inr (.inr (exec_of_event hf (fun cause h => hr ⟨cause, h⟩) s))

/-- Settles O1: a step runs the command at the front. -/
theorem stepTakesTheFrontCommand : Obligations.StepTakesTheFrontCommand := fun _ _ _ => rfl

/-- Settles O2: each of the three kinds of commands answers a next state. -/
theorem everyCommandAnswersNext : Obligations.EveryCommandAnswersNext := by
  intro i s
  obtain ⟨_, _, _, _, h⟩ | ⟨_, _, h⟩ | h := exec_cases i s <;> exact ⟨_, h⟩

/-! ## A law that every step keeps -/

/-- A law is kept by every step when each part of a step keeps it. -/
theorem kept_of_parts {P : State → Prop} (hpending : ∀ s cs, P s → P (s.withPending cs)) (hstart : ∀ s, P s → P (startTx s))
    (hsettle : ∀ s, P s → P (settle s)) (htime : ∀ s, P s → P (timePasses s))
    (hreset : ∀ cause s, P s → P (hardReset cause s))
    (hrequest : ∀ i kind tag ps s, requestFrame i = some (kind, tag, ps) → P s →
      P (requestEffect kind tag (kind :: tag :: ps) (serve i) s))
    (hevent : ∀ i s, P s → P (eventEffect i s)) : Kept P := by
  intro s t hs hstep
  unfold step at hstep
  split at hstep
  · cases hstep
    exact hsettle _ (htime _ (hstart _ hs))
  next i rest _ =>
    have hrest := hpending s rest hs
    obtain ⟨kind, tag, ps, hf, he⟩ | ⟨cause, -, he⟩ | he := exec_cases i (s.withPending rest) <;> rw [he] at hstep <;> cases hstep
    · exact hsettle _ (hrequest i kind tag ps _ hf (hstart _ hrest))
    · exact hreset cause _ hrest
    · exact hsettle _ (hevent i _ (hstart _ hrest))

/-! ## Notices and enqueues -/

/-- Settles O16: the three branches of a notice. -/
theorem noticesAreQueuedByTheirGroup : Obligations.NoticesAreQueuedByTheirGroup := by
  intro b l
  refine ⟨fun hmask => ?_, fun hmask hroom => ?_, fun hmask hfull => ?_⟩
  · simp [queueNotice, hmask]
  · simp [queueNotice, hmask, hroom]
  · simp [queueNotice, hmask, Nat.not_lt.mpr hfull]

theorem any_key_eq (k : Key) (q : List BoardItem) : (q.any fun i => i.key == k) = true ↔ k ∈ q.map BoardItem.key := by
  simp [List.any_eq_true, List.mem_map]

/-- A key already in the queue keeps its place and takes the blank flag (R144). -/
theorem enqueued_of_mem {k : Key} {q : List BoardItem} (blank : Bool) (h : k ∈ q.map BoardItem.key) :
    enqueued k blank q = (q.map fun i => if i.key = k then { i with blank := blank } else i, false) :=
  if_pos ((any_key_eq k q).mpr h)

/-- A new key goes to the end of a queue with room (R144). -/
theorem enqueued_of_room {k : Key} {q : List BoardItem} (blank : Bool) (h : k ∉ q.map BoardItem.key) (hroom : q.length < 32) :
    enqueued k blank q = (q ++ [{ key := k, blank }], false) :=
  (if_neg fun hany => h ((any_key_eq k q).mp hany)).trans (if_pos hroom)

/-- A new key goes to the end of a full queue, which first drops an item (R144). -/
theorem enqueued_of_full {k : Key} {q : List BoardItem} (blank : Bool) (h : k ∉ q.map BoardItem.key) (hfull : 32 ≤ q.length) :
    enqueued k blank q = (dropBackground q ++ [{ key := k, blank }], true) :=
  (if_neg fun hany => h ((any_key_eq k q).mp hany)).trans (if_neg (Nat.not_lt.mpr hfull))

/-- The item that a full queue drops is its first BACKGROUND item (R144). -/
theorem dropBackground_append {before after : List BoardItem} {drop : BoardItem} (hdrop : drop.key.field.cls = .background)
    (hbefore : ∀ i ∈ before, i.key.field.cls ≠ .background) :
    dropBackground (before ++ drop :: after) = before ++ after := by
  have hindex : (before ++ drop :: after).findIdx? (fun i => i.key.field.cls == .background) = some before.length := by
    rw [List.findIdx?_append, List.findIdx?_eq_none_iff.mpr (by simpa using hbefore)]
    simp [List.findIdx?_cons, hdrop]
  rw [dropBackground, hindex]
  simp [List.eraseIdx_append_of_length_le]

/-- Settles O17: a key that is there, room, and a full queue. -/
theorem anEnqueueKeepsOneItemPerKey : Obligations.AnEnqueueKeepsOneItemPerKey := by
  intro k blank q
  refine ⟨fun hmem => ?_, enqueued_of_room blank, ?_⟩
  · rw [enqueued_of_mem blank hmem]
    refine ⟨rfl, ?_, fun i hi hk => ?_⟩
    · rw [List.map_map]
      refine List.map_congr_left fun i _ => ?_
      by_cases h : i.key = k <;> simp [h]
    · obtain ⟨j, -, rfl⟩ := List.mem_map.mp hi
      by_cases h : j.key = k <;> simp [h] at hk ⊢
  · rintro before drop after hnew hfull rfl hdrop hbefore
    rw [enqueued_of_full blank hnew hfull, dropBackground_append hdrop hbefore]

end Sys2Proof.Machine

/-! PROOFS. The state right after reset, and a hard reset from every state (R10, R165). -/

namespace Sys2Proof.Machine

/-- Settles O4: every register is read off; a power-on reset there runs the load check on the failing image again. -/
theorem resetLeavesTheSpecValues : Obligations.ResetLeavesTheSpecValues := by
  refine ⟨?_, rfl⟩
  have hstations : ∀ x ∈ List.replicate 8 stationReset, x = stationReset := fun x => List.eq_of_mem_replicate
  refine ⟨rfl, rfl, rfl, rfl, rfl, rfl, rfl, rfl, rfl, rfl, rfl, rfl, rfl, rfl, rfl, rfl, rfl, rfl, rfl, rfl, rfl, rfl, rfl, rfl,
    rfl, rfl, rfl, rfl, rfl, rfl, rfl, rfl, rfl, rfl, rfl, rfl, rfl, rfl, rfl, rfl, rfl, rfl, rfl, rfl, fun x hx => ?_, ?_⟩
  · rw [hstations x hx]
    exact ⟨rfl, rfl, rfl, rfl, rfl, rfl, rfl, rfl⟩
  · decide

/-- Settles O7: every queue and record is empty, and the light is DARK. -/
theorem theLawsHoldAtReset : Obligations.TheLawsHoldAtReset := by
  have hclear : HillClear State.reset := by simp [HillClear, State.reset, cstReset]
  refine ⟨⟨?_, ?_⟩, ⟨⟨?_, ?_, ?_⟩, ?_, ?_, ?_, ?_, ?_, ?_, ?_⟩⟩
  · exact ⟨List.nodup_nil, by decide⟩
  · exact ⟨by decide, by decide⟩
  · exact ⟨rfl, by decide, by simp [State.reset, cstReset], fun _ => hclear⟩
  · simp [CoachOk, State.reset, stcReset]
  · exact fun _ => hclear
  · simp [TrapOk, State.reset, measReset]
  · exact rfl
  · simp [RankingOk, State.reset, cstReset]
  · exact ⟨rfl, rfl, fun _ _ => by simp [State.reset, linkReset]⟩
  · simp [ClearOk, State.reset, stcReset]
  · simp [MarksOk, State.reset, cstReset, measReset]
  · rfl

/-! ## Hard reset -/

theorem lineIn_eq_some {lines : List Assignment} {f : LineFunction} {i : Nat} (h : lineIn lines f = some i) :
    ∃ a, lines[i]? = some a ∧ a.fn = f := by
  obtain ⟨hi, hfn, -⟩ := List.findIdx?_eq_some_iff_getElem.mp h
  exact ⟨lines[i], List.getElem?_eq_getElem hi, by simpa using hfn⟩

/-- The level sensed for a function depends on the lines, on FLD's levels and on what the function's own owner directs. -/
theorem sensedFn_congr {s t : State} (f : LineFunction) (hlines : t.prof.profile.lines = s.prof.profile.lines)
    (houtside : t.fld.outside = s.fld.outside) (hwritten : t.fld.written = s.fld.written)
    (hactive : outputActive t f = outputActive s f) : sensedFn t f = sensedFn s f := by
  unfold sensedFn lineOf
  rw [hlines]
  cases hline : lineIn s.prof.profile.lines f with
  | none => rfl
  | some i =>
    obtain ⟨a, ha, hfn⟩ := lineIn_eq_some hline
    simp [sensed, drivenLevel, hlines, ha, houtside, hwritten, hfn, hactive]

/-- The beginning of an exchange changes WLN alone, and goes on with its cycle (R74). -/
theorem beginExchange_wln (k : Nat) (s : State) : ∃ w, beginExchange k s = s.onWln (fun _ => w)
    ∧ w.poll = s.wln.poll ∧ w.cycle = s.wln.cycle ∧ w.phase ≠ .none := by
  simp only [beginExchange, enterTurnaround]
  split
  · exact ⟨_, rfl, rfl, rfl, by simp⟩
  · exact ⟨_, rfl, rfl, rfl, by simp⟩

/-- Where a station can be polled and no record tells against it, a slot is due (R79). -/
theorem nextDue_isSome_of_pollable {s : State} (hnext : s.wln.nextSlot = 0) (hpoll : anyPollable s = true)
    (hfresh : ∀ k, (station s k).newcomer = false ∧ (station s k).state ≠ .offline) : (nextDue s).isSome = true := by
  obtain ⟨k, hk, hcan⟩ := List.any_eq_true.mp hpoll
  refine List.find?_isSome.mpr ⟨k, hk, ?_⟩
  simp [hnext, due, hcan, hfresh k]

theorem station_replicate {s : State} (h : s.wln.stations = List.replicate 8 stationReset) (k : Nat) :
    station s k = stationReset := by
  simp only [station, h, List.getD_eq_getElem?_getD, List.getElem?_replicate]
  split <;> rfl

/-- Polling that begins after a reset changes WLN alone: cycle 0 begins where a station can be polled (R10, R72). -/
theorem beginPolling_wln {s : State} (hstations : s.wln.stations = List.replicate 8 stationReset) :
    ∃ w, beginPolling s = s.onWln (fun _ => w) ∧ (anyPollable s = false → w = s.wln)
      ∧ (anyPollable s = true → w.poll = .inCycle ∧ w.cycle = 0 ∧ w.phase ≠ .none) := by
  unfold beginPolling
  split
  next hpoll =>
    unfold beginCycle runSlots
    generalize hu : s.onWln _ = u
    have hunew : u.wln.stations = List.replicate 8 stationReset := by rw [← hu]; simp [hstations]; rfl
    have hcan : canBePolled u = canBePolled s := by
      funext k
      rw [canBePolled, canBePolled, station_replicate hunew, station_replicate hstations, ← hu]; rfl
    have hdue : (nextDue u).isSome = true :=
      nextDue_isSome_of_pollable (by rw [← hu]; rfl) (by rw [anyPollable, hcan]; exact hpoll)
        (fun k => by rw [station_replicate hunew]; exact ⟨rfl, by decide⟩)
    obtain ⟨k, hk⟩ := Option.isSome_iff_exists.mp hdue
    obtain ⟨w, hw, hwpoll, hwcycle, hwphase⟩ := beginExchange_wln k u
    refine ⟨w, ?_, by simp [hpoll], fun _ => ⟨?_, ?_, hwphase⟩⟩
    · rw [hk]; exact hw.trans (by rw [← hu]; rfl)
    · rw [hwpoll, ← hu]; rfl
    · rw [hwcycle, ← hu]; rfl
  next hpoll => exact ⟨s.wln, rfl, fun _ => rfl, fun h => absurd h hpoll⟩

theorem slot_isSome_of_fresh {s : State} (hstations : s.wln.stations = List.replicate 8 stationReset) :
    anyPollable s = true ↔ ∃ k, k < 8 ∧ (slot? s k).isSome = true := by
  have hcan : ∀ k, canBePolled s k = (slot? s k).isSome := fun k => by
    rw [canBePolled, station_replicate hstations]; simp [stationReset]
  have hmem : ∀ k, k ∈ [0, 1, 2, 3, 4, 5, 6, 7] ↔ k < 8 := fun k => by simp; omega
  simp only [anyPollable, List.any_eq_true, hcan, hmem]

/-- What the application of the loaded profile leaves of the blocks (R10). -/
theorem applyProfile_freshState (s : State) :
    ∃ f ready, applyProfile (freshState s) = { freshState s with fld := f, brd := brdReset ready }
      ∧ f.outside = s.fld.outside ∧ f.leave.timer = none ∧ f.stop.timer = none
      ∧ ready = readyLevel (applyProfile (freshState s)) := by
  refine ⟨_, _, rfl, rfl, rfl, rfl, ?_⟩
  exact congrArg (fun l => l.getD true) (sensedFn_congr .boardReady rfl rfl rfl rfl)

/-- RESET_DONE is the one notice after a reset, with sequence number 0 (R165). -/
theorem queueNotice_linkReset (cause : ResetCause) (valid : Bool) : queueNotice (.resetDone cause valid) linkReset =
    { linkReset with notices := [{ seq := 0#8, time := 0, body := .resetDone cause valid }], seq := 1#8 } := by
  have hmask : linkReset.mask.getLsbD (NoticeBody.resetDone cause valid).group = true := by
    change (0xFFFF#16).getLsbD 15 = true
    decide
  exact (noticesAreQueuedByTheirGroup _ _).2.1 hmask (by decide)

/-- Settles O5: WLN and the notice queue follow the loaded profile; every other block is at its reset values. -/
theorem hardResetFromEveryState : Obligations.HardResetFromEveryState := by
  intro cause s
  obtain ⟨f, ready, hu, houtside, hleave, hstop, hready⟩ := applyProfile_freshState s
  have hstations : (applyProfile (freshState s)).wln.stations = List.replicate 8 stationReset := by rw [hu]; rfl
  obtain ⟨w, hw, hidle, hpolls⟩ := beginPolling_wln hstations
  have hslot := slot_isSome_of_fresh hstations
  refine ⟨hardReset cause s, rfl, ?_⟩
  have ht : hardReset cause s = notify (.resetDone cause (freshState s).prof.valid)
      ((applyProfile (freshState s)).onWln fun _ => w) := by rw [hardReset, hw, hu]; rfl
  have hsensed : (sensedFn (hardReset cause s) .boardReady).getD true = ready := by
    rw [hready, readyLevel, sensedFn_congr (s := applyProfile (freshState s)) .boardReady] <;> rw [ht] <;> rfl
  have hslots : ∀ k, slot? (hardReset cause s) k = slot? (applyProfile (freshState s)) k := fun k => by rw [ht]; rfl
  simp only [hsensed, hslots]
  rw [ht, hu]
  refine ⟨rfl, rfl, rfl, rfl, rfl, rfl, rfl, rfl, rfl, rfl, rfl, ?_, rfl, rfl, rfl, fun hv => ?_, fun hv => ?_, houtside,
    hleave, hstop, fun hnone => ?_, fun hsome => ?_, rfl⟩
  · exact queueNotice_linkReset cause (freshState s).prof.valid
  · exact if_pos hv
  · exact if_neg (Bool.eq_false_iff.mp hv)
  · have hpoll : anyPollable (applyProfile (freshState s)) = false :=
      Bool.eq_false_iff.mpr fun h => by
        obtain ⟨k, hk, hsome⟩ := hslot.mp h
        rw [hu, hnone k hk] at hsome
        simp at hsome
    exact (hidle hpoll).trans (by rw [hu]; rfl)
  · exact hpolls (hslot.mpr (by rw [hu]; exact hsome))

end Sys2Proof.Machine

/-! PROOFS. The wind line (05, 06): what a law needs for its operations, its events and its requests to keep it. -/

namespace Sys2Proof.Machine

/-- A law that is kept by the updates which the wind line's operations are made of: WLN, the lines, the profile, DIAG, a notice and
an enqueue, the samples and the faults of an attempt, and the judgement of a clear. -/
structure WindLaw (P : State → Prop) : Prop where
  onProf : ∀ s f, P s → P (s.onProf f)
  onFld : ∀ s f, P s → P (s.onFld f)
  onWln : ∀ s f, P s → P (s.onWln f)
  onDiag : ∀ s f, P s → P (s.onDiag f)
  freeCtr : ∀ s n, P s → P { s with freeCtr := n }
  notify : ∀ s b, P s → P (notify b s)
  enqueueWith : ∀ s k b, P s → P (enqueueWith k b s)
  sampled : ∀ s n m, P s → P (setAttempt n (fun r => { r with samples := r.samples ++ [m] }) s)
  addFault : ∀ s n f, P s → P (addFault n f s)
  judgeClear : ∀ s, P s → P (judgeClear s)

/-- Such a law holds of a state. -/
structure WindSafe (P : State → Prop) (s : State) : Prop where
  law : WindLaw P
  holds : P s

/-- The events of the wind line. -/
def isWindLine : Instr → Bool
  | .carrierClear | .contentionMiss | .turnaroundEnd | .pollSent | .replyTimeout | .replyBegin _ | .replyCharacter _
  | .replyGapExpiry | .noiseByte _ | .cyclePeriodExpiry | .gatingMeanStale | .windDeferExpiry | .listenEnd | .echo _ _
  | .echoWindowExpiry => true
  | _ => false

theorem done_st (s : State) : (done s).st = s := rfl
theorem accepted_st (s : State) : (accepted s).st = s := rfl
theorem refuse_st (code : ReplyCode) (s : State) : (refuse code s).st = s := rfl
theorem doneWith_st (data : ReplyData) (s : State) : (doneWith data s).st = s := rfl

namespace WindSafe

variable {P : State → Prop} {s : State}

/-! ## The updates -/

theorem ite {c : Prop} [Decidable c] {t u : State} (ht : WindSafe P t) (hu : WindSafe P u) : WindSafe P (if c then t else u) := by
  split <;> assumption

theorem onProf (x : WindSafe P s) (f : Prof → Prof) : WindSafe P (s.onProf f) := ⟨x.law, x.law.onProf s f x.holds⟩
theorem onFld (x : WindSafe P s) (f : Fld → Fld) : WindSafe P (s.onFld f) := ⟨x.law, x.law.onFld s f x.holds⟩
theorem onWln (x : WindSafe P s) (f : Wln → Wln) : WindSafe P (s.onWln f) := ⟨x.law, x.law.onWln s f x.holds⟩
theorem onDiag (x : WindSafe P s) (f : Diag → Diag) : WindSafe P (s.onDiag f) := ⟨x.law, x.law.onDiag s f x.holds⟩
theorem freeCtr (x : WindSafe P s) (n : Nat) : WindSafe P { s with freeCtr := n } := ⟨x.law, x.law.freeCtr s n x.holds⟩
theorem notify (x : WindSafe P s) (b : NoticeBody) : WindSafe P (notify b s) := ⟨x.law, x.law.notify s b x.holds⟩
theorem enqueueWith (x : WindSafe P s) (k : Key) (b : Bool) : WindSafe P (enqueueWith k b s) :=
  ⟨x.law, x.law.enqueueWith s k b x.holds⟩
theorem enqueue (x : WindSafe P s) (k : Key) : WindSafe P (enqueue k s) := x.enqueueWith _ _
theorem addFault (x : WindSafe P s) (n : Nat) (f : DeferredFault) : WindSafe P (addFault n f s) :=
  ⟨x.law, x.law.addFault s n f x.holds⟩
theorem sampled (x : WindSafe P s) (n : Nat) (m : Int) :
    WindSafe P (setAttempt n (fun r => { r with samples := r.samples ++ [m] }) s) := ⟨x.law, x.law.sampled s n m x.holds⟩
theorem judgeClear (x : WindSafe P s) : WindSafe P (judgeClear s) := ⟨x.law, x.law.judgeClear s x.holds⟩

theorem setOutside (x : WindSafe P s) (i : Option Nat) (v : Bool) : WindSafe P (setOutside i v s) := by
  simp only [Machine.setOutside]
  repeat' split
  exacts [x.onFld _, x]

theorem count (x : WindSafe P s) (k : CounterKind) : WindSafe P (count k s) := by
  simp only [Machine.count]
  repeat' split
  exacts [((x.onDiag _).notify _).notify _, (x.onDiag _).notify _, (x.onDiag _).notify _, x.onDiag _]

theorem reportFault (x : WindSafe P s) (k : FaultKind) (d : Nat) : WindSafe P (reportFault k d s) := x.onDiag _

/-! ## Stations, exchanges and cycles -/

theorem setStation (x : WindSafe P s) (k : Nat) (f : Station → Station) : WindSafe P (setStation k f s) := x.onWln _

theorem stationLost (x : WindSafe P s) (k : Nat) : WindSafe P (stationLost k s) := by
  simp only [Machine.stationLost]
  repeat' split
  exacts [x.addFault _ _, x, x]

theorem moveStation (x : WindSafe P s) (k : Nat) (u : StationState) : WindSafe P (moveStation k u s) := by
  simp only [Machine.moveStation]
  repeat' split
  exacts [x, ((x.setStation _ _).notify _).stationLost _, (x.setStation _ _).notify _]

theorem noise (x : WindSafe P s) : WindSafe P (noise s) := (x.onWln _).count _

theorem enterTurnaround (x : WindSafe P s) : WindSafe P (enterTurnaround s) := x.onWln _

theorem beginExchange (x : WindSafe P s) (k : Nat) : WindSafe P (beginExchange k s) := by
  simp only [Machine.beginExchange]
  repeat' split
  exacts [x.onWln _, (x.onWln _).enterTurnaround]

theorem appendSample (x : WindSafe P s) : WindSafe P (appendSample s) := by
  simp only [Machine.appendSample]
  repeat' split
  exacts [x.sampled _ _, (x.onWln _).addFault _ _, x, x]

theorem windChange (x : WindSafe P s) : WindSafe P (windChange s) := by
  simp only [Machine.windChange]
  repeat' split
  exacts [x.onWln _, (x.onWln _).enqueue _]

theorem cycleEndWork (x : WindSafe P s) : WindSafe P (cycleEndWork s) :=
  have hjudged : WindSafe P (Machine.judgeClear (Machine.appendSample (storeMeans s))) := (x.onWln _).appendSample.judgeClear
  ite hjudged.windChange hjudged

theorem endCycle (x : WindSafe P s) : WindSafe P (endCycle s) := by
  simp only [Machine.endCycle]
  repeat' split
  all_goals exact x.cycleEndWork.onWln _

theorem runSlots (x : WindSafe P s) : WindSafe P (runSlots s) := by
  simp only [Machine.runSlots]
  repeat' split
  exacts [x.beginExchange _, (x.onWln _).endCycle]

theorem beginCycle (x : WindSafe P s) (n : Nat) : WindSafe P (beginCycle n s) := (x.onWln _).runSlots

theorem nextCycle (x : WindSafe P s) : WindSafe P (nextCycle s) := x.beginCycle _

theorem cycleMoment (x : WindSafe P s) : WindSafe P (cycleMoment s) := by
  simp only [Machine.cycleMoment]
  repeat' split
  exacts [x.nextCycle, x.onWln _]

theorem continueCycle (x : WindSafe P s) : WindSafe P (continueCycle s) := by
  simp only [Machine.continueCycle, Machine.followOn]
  repeat' split
  exacts [x.runSlots.cycleMoment, x.runSlots]

theorem followOn (x : WindSafe P s) : WindSafe P (followOn s) := by
  simp only [Machine.followOn]
  repeat' split
  exacts [x.cycleMoment, x]

theorem pollable (x : WindSafe P s) : WindSafe P (pollable s) := by
  simp only [Machine.pollable]
  repeat' split
  exacts [x.nextCycle, x]

theorem movePolarity (x : WindSafe P s) (a : Answer) : WindSafe P (movePolarity a s) := by
  simp only [Machine.movePolarity]
  repeat' split
  exacts [x, (x.onWln _).notify _, x.onWln _, x.onWln _, x.onWln _, x.onWln _, x]

theorem afterFailure (x : WindSafe P s) (k : Nat) : WindSafe P (afterFailure k s) := by
  simp only [Machine.afterFailure]
  repeat' split
  exacts [x.moveStation _ _, x, x.moveStation _ _, x, x.moveStation _ _, x, x, x]

theorem applyAnswer (x : WindSafe P s) (k : Nat) (a : Answer) : WindSafe P (applyAnswer k a s) := by
  simp only [Machine.applyAnswer]
  repeat' split
  exacts [((x.setStation _ _).count _).moveStation _ _, ((x.setStation _ _).count _).afterFailure _,
    ((x.setStation _ _).count _).afterFailure _, ((x.setStation _ _).count _).afterFailure _]

theorem takeAnswer (x : WindSafe P s) (a : Answer) : WindSafe P (takeAnswer a s) := by
  simp only [Machine.takeAnswer]
  repeat' split
  exacts [x, (x.applyAnswer _ _).movePolarity _]

theorem contend (x : WindSafe P s) : WindSafe P (contend s) := by
  simp only [Machine.contend]
  repeat' split
  exacts [x, (x.onWln _).reportFault _ _, x.onWln _]

theorem beginMeasurement (x : WindSafe P s) : WindSafe P (beginMeasurement s) := x.onWln _

theorem closeExchange (x : WindSafe P s) : WindSafe P (closeExchange s) := x.onWln _

theorem afterExchange (x : WindSafe P s) : WindSafe P (afterExchange s) := by
  simp only [Machine.afterExchange]
  repeat' split
  exacts [x.beginMeasurement, x.continueCycle]

theorem endExchange (x : WindSafe P s) (a : Answer) : WindSafe P (endExchange a s) := (x.closeExchange.takeAnswer _).afterExchange

theorem closeReply (x : WindSafe P s) : WindSafe P (closeReply s) := x.endExchange _

theorem carrierCleared (x : WindSafe P s) : WindSafe P (carrierCleared s) := by
  simp only [Machine.carrierCleared]
  repeat' split
  exacts [(x.setOutside _ _).enterTurnaround, x.setOutside _ _, x.setOutside _ _, x.setOutside _ _, x.setOutside _ _,
    x.setOutside _ _]

theorem contentionMissed (x : WindSafe P s) : WindSafe P (contentionMissed s) := by
  simp only [Machine.contentionMissed]
  repeat' split
  exacts [x.closeExchange.contend.afterExchange, x, x, x, x, x]

theorem turnaroundEnded (x : WindSafe P s) : WindSafe P (turnaroundEnded s) := by
  simp only [Machine.turnaroundEnded]
  repeat' split
  exacts [x.onWln _, x, x, x, x, x]

theorem beginReply (x : WindSafe P s) (r : List RxChar) : WindSafe P (beginReply r s) := x.onWln _

theorem pollWasSent (x : WindSafe P s) : WindSafe P (pollWasSent s) := by
  simp only [Machine.pollWasSent]
  repeat' split
  exacts [(x.onWln _).beginReply _, x.onWln _, x, x, x, x, x]

theorem replyTimedOut (x : WindSafe P s) : WindSafe P (replyTimedOut s) := by
  simp only [Machine.replyTimedOut]
  repeat' split
  exacts [x.endExchange _, x, x, x, x, x]

theorem resumePolling (x : WindSafe P s) : WindSafe P (resumePolling s) := by
  simp only [Machine.resumePolling]
  repeat' split
  exacts [x.pollable, x.onWln _, (x.onWln _).followOn, (x.onWln _).continueCycle, x.onWln _, (x.onWln _).followOn,
    (x.onWln _).continueCycle, x.onWln _, (x.onWln _).followOn, (x.onWln _).continueCycle]

theorem endTest (x : WindSafe P s) (r : TestResult) (d : Option Nat) (n : Nat) : WindSafe P (endTest r d n s) :=
  ((x.onWln _).notify _).resumePolling

theorem endInNoise (x : WindSafe P s) : WindSafe P (endInNoise s) := (x.freeCtr _).endTest _ _ _

theorem listenEnded (x : WindSafe P s) : WindSafe P (listenEnded s) := by
  simp only [Machine.listenEnded]
  repeat' split
  exacts [x.endInNoise, x.onWln _, x, x, x]

theorem echoHeard (x : WindSafe P s) (p : Bool) (n : Nat) : WindSafe P (echoHeard p n s) := by
  simp only [Machine.echoHeard]
  repeat' split
  exacts [x.endTest _ _ _, x.endTest _ _ _, x, x, x, x]

theorem echoWindowEnded (x : WindSafe P s) : WindSafe P (echoWindowEnded s) := by
  simp only [Machine.echoWindowEnded]
  repeat' split
  exacts [x.endTest _ _ _, x, x, x]

theorem noiseTaken (x : WindSafe P s) : WindSafe P (noiseTaken s) := by
  simp only [Machine.noiseTaken]
  repeat' split
  exacts [x.noise.endInNoise, x.noise, x.noise, x.noise]

theorem joinReply (x : WindSafe P s) (u : RxChar) : WindSafe P (joinReply u s) := by
  simp only [Machine.joinReply]
  repeat' split
  exacts [((x.onWln _).onWln _).closeReply, x.onWln _]

theorem windCharacter (x : WindSafe P s) (u : RxChar) : WindSafe P (windCharacter u s) := by
  simp only [Machine.windCharacter, Machine.takenCharacter, Machine.heardCharacter]
  repeat' split
  exacts [x, x, (x.onWln _).noiseTaken, x.noiseTaken, x.beginReply _, x.joinReply _, x.noiseTaken, x.noiseTaken, x.noiseTaken,
    x.noiseTaken, (x.onWln _).noiseTaken, x.noiseTaken, x.beginReply _, x.joinReply _, x.noiseTaken, x.noiseTaken, x.noiseTaken,
    x.noiseTaken, (x.onWln _).noiseTaken, x.noiseTaken, x.beginReply _, x.joinReply _, x.noiseTaken, x.noiseTaken, x.noiseTaken,
    x.noiseTaken, (x.onWln _).noiseTaken, x.noiseTaken, x.beginReply _, x.joinReply _, x.noiseTaken, x.noiseTaken, x.noiseTaken,
    x.noiseTaken]

theorem replyBegun (x : WindSafe P s) (u : Option RxChar) : WindSafe P (replyBegun u s) := by
  simp only [Machine.replyBegun, Machine.carrierRose]
  repeat' split
  exacts [(x.setOutside _ _).beginReply _, x.setOutside _ _, (x.setOutside _ _).onWln _, x.setOutside _ _, x.windCharacter _]

theorem replyGap (x : WindSafe P s) : WindSafe P (replyGap s) := by
  simp only [Machine.replyGap]
  repeat' split
  exacts [x.closeReply, x, x, x, x, x]

theorem cyclePeriodExpired (x : WindSafe P s) : WindSafe P (cyclePeriodExpired s) := by
  simp only [Machine.cyclePeriodExpired]
  repeat' split
  exacts [(x.onWln _).cycleMoment, x.onWln _, x.onWln _, x.onWln _, x]

theorem gatingStale (x : WindSafe P s) : WindSafe P (gatingStale s) := by
  simp only [Machine.gatingStale]
  repeat' split
  exacts [x.onWln _, (x.onWln _).windChange, x]

theorem windDeferExpired (x : WindSafe P s) : WindSafe P (windDeferExpired s) := by
  simp only [Machine.windDeferExpired]
  repeat' split
  exacts [((x.onWln _).onWln _).windChange, x.onWln _, x]

theorem discardExchange (x : WindSafe P s) (k : Nat) : WindSafe P (discardExchange k s) := by
  simp only [Machine.discardExchange]
  repeat' split
  exacts [x.onWln _, x]

/-! ## The events and the requests -/

/-- What an event of the wind line does. -/
theorem eventEffect (x : WindSafe P s) {i : Instr} (hi : isWindLine i = true) : WindSafe P (eventEffect i s) := by
  cases i with
  | carrierClear => exact x.carrierCleared
  | contentionMiss => exact x.contentionMissed
  | turnaroundEnd => exact x.turnaroundEnded
  | pollSent => exact x.pollWasSent
  | replyTimeout => exact x.replyTimedOut
  | replyBegin first => exact x.replyBegun first
  | replyCharacter c => exact x.windCharacter c
  | replyGapExpiry => exact x.replyGap
  | noiseByte c => exact x.windCharacter c
  | cyclePeriodExpiry => exact x.cyclePeriodExpired
  | gatingMeanStale => exact x.gatingStale
  | windDeferExpiry => exact x.windDeferExpired
  | listenEnd => exact x.listenEnded
  | echo positive n => exact x.echoHeard positive n
  | echoWindowExpiry => exact x.echoWindowEnded
  | _ => cases hi

theorem followSlot (x : WindSafe P s) (k : Nat) (u v : Option StationSlot) : WindSafe P (followSlot k u v s) := by
  simp only [Machine.followSlot]
  repeat' split
  exacts [x, (x.setStation _ _).discardExchange _]

theorem serveStationStatus (x : WindSafe P s) (k : Nat) : WindSafe P (serveStationStatus k s).st := by
  simp only [Machine.serveStationStatus]
  repeat' split
  all_goals dsimp only [done_st, accepted_st, refuse_st, doneWith_st]
  exacts [x, x, x.setStation _ _]

theorem serveDisableStation (x : WindSafe P s) (k : Nat) : WindSafe P (serveDisableStation k s).st := by
  simp only [Machine.serveDisableStation]
  repeat' split
  all_goals dsimp only [done_st, accepted_st, refuse_st, doneWith_st]
  exacts [x, x, x, (x.moveStation _ _).discardExchange _]

theorem serveEnableStation (x : WindSafe P s) (k : Nat) : WindSafe P (serveEnableStation k s).st := by
  simp only [Machine.serveEnableStation]
  repeat' split
  all_goals dsimp only [done_st, accepted_st, refuse_st, doneWith_st]
  exacts [x, x, ((x.setStation _ _).moveStation _ _).pollable, x]

theorem serveLineTest (x : WindSafe P s) : WindSafe P (serveLineTest s).st := by
  simp only [Machine.serveLineTest]
  repeat' split
  all_goals dsimp only [done_st, accepted_st, refuse_st, doneWith_st]
  exacts [x, x, x, x, x.beginMeasurement, x.onWln _, x.onWln _, x.onWln _, x.onWln _, x.onWln _]

theorem serveReadWind (x : WindSafe P s) : WindSafe P (serveReadWind s).st := by
  simp only [Machine.serveReadWind]
  dsimp only [done_st, accepted_st, refuse_st, doneWith_st]
  exact x.onWln _

theorem serveSetStation (x : WindSafe P s) (k presence address bearing roles : Nat) :
    WindSafe P (serveSetStation k presence address bearing roles s).st := by
  simp only [Machine.serveSetStation]
  repeat' split
  all_goals dsimp only [done_st, accepted_st, refuse_st, doneWith_st]
  exacts [x, ((x.onProf _).followSlot _ _ _).pollable, ((x.onProf _).followSlot _ _ _).pollable, x]

end WindSafe

end Sys2Proof.Machine

/-! PROOFS. Laws that an operation keeps because the few updates it is made of keep them: said once for every operation. -/

namespace Sys2Proof.Machine

/-- A change of LINK's settings, receiver, clock and cursors: the queues, the transmitter and the request in hand stay. -/
def KeepsTraffic (f : Link → Link) : Prop :=
  ∀ l, (f l).notices = l.notices ∧ (f l).buffer = l.buffer ∧ (f l).tx = l.tx ∧ (f l).replyWaiting = l.replyWaiting
    ∧ (f l).inHand.map InHand.kind = l.inHand.map InHand.kind ∧ (f l).inHand.map InHand.tag = l.inHand.map InHand.tag

/-- A change of BRD besides its queue and the number of its message lines. -/
def KeepsQueue (f : Brd → Brd) : Prop := ∀ b, (f b).queue = b.queue ∧ (f b).messages.length = b.messages.length

/-- A law that is kept by the updates which the blocks' operations are made of: any update of a block without queues and without
the directory, a notice, an enqueue, a re-ranking, and new entries. -/
structure Stable (P : State → Prop) : Prop where
  onProf : ∀ s f, P s → P (s.onProf f)
  onFld : ∀ s f, P s → P (s.onFld f)
  onStc : ∀ s f, P s → P (s.onStc f)
  onGate : ∀ s f, P s → P (s.onGate f)
  onWln : ∀ s f, P s → P (s.onWln f)
  onMeas : ∀ s f, P s → P (s.onMeas f)
  onDiag : ∀ s f, P s → P (s.onDiag f)
  onCst : ∀ s f, (∀ c, (f c).directory = c.directory) → P s → P (s.onCst f)
  onBrd : ∀ s f, KeepsQueue f → P s → P (s.onBrd f)
  onLink : ∀ s f, KeepsTraffic f → P s → P (s.onLink f)
  freeCtr : ∀ s n, P s → P { s with freeCtr := n }
  notify : ∀ s b, P s → P (notify b s)
  enqueueWith : ∀ s k b, P s → P (enqueueWith k b s)
  reRank_setTotal : ∀ s bib round v, P s → P (reRank bib (setTotal bib round v s))
  reRank_setDisqualified : ∀ s bib v, P s → P (reRank bib (setDisqualified bib v s))
  addToList : ∀ s es, P s → P (s.onCst (addToList es))

/-- A stable law holds of a state. -/
structure Safe (P : State → Prop) (s : State) : Prop where
  stable : Stable P
  holds : P s

/-- The events of the control link, which take requests in hand and move LINK's queues. -/
def isTraffic : Instr → Bool
  | .frameReceived _ | .linkGap _ | .replySent | .noticeSent | .breakEnd | .controlByteDiscarded _ => true
  | _ => false

namespace Safe

variable {P : State → Prop} {s : State}

/-! ## The updates -/

theorem ite {c : Prop} [Decidable c] {t u : State} (ht : Safe P t) (hu : Safe P u) : Safe P (if c then t else u) := by
  split <;> assumption

theorem onProf (x : Safe P s) (f : Prof → Prof) : Safe P (s.onProf f) := ⟨x.stable, x.stable.onProf s f x.holds⟩
theorem onFld (x : Safe P s) (f : Fld → Fld) : Safe P (s.onFld f) := ⟨x.stable, x.stable.onFld s f x.holds⟩
theorem onStc (x : Safe P s) (f : Stc → Stc) : Safe P (s.onStc f) := ⟨x.stable, x.stable.onStc s f x.holds⟩
theorem onGate (x : Safe P s) (f : Gate → Gate) : Safe P (s.onGate f) := ⟨x.stable, x.stable.onGate s f x.holds⟩
theorem onWln (x : Safe P s) (f : Wln → Wln) : Safe P (s.onWln f) := ⟨x.stable, x.stable.onWln s f x.holds⟩
theorem onMeas (x : Safe P s) (f : Meas → Meas) : Safe P (s.onMeas f) := ⟨x.stable, x.stable.onMeas s f x.holds⟩
theorem onDiag (x : Safe P s) (f : Diag → Diag) : Safe P (s.onDiag f) := ⟨x.stable, x.stable.onDiag s f x.holds⟩
theorem onCst (x : Safe P s) (f : Cst → Cst) (hf : ∀ c, (f c).directory = c.directory) : Safe P (s.onCst f) :=
  ⟨x.stable, x.stable.onCst s f hf x.holds⟩
theorem onBrd (x : Safe P s) (f : Brd → Brd) (hf : KeepsQueue f) : Safe P (s.onBrd f) := ⟨x.stable, x.stable.onBrd s f hf x.holds⟩
theorem onLink (x : Safe P s) (f : Link → Link) (hf : KeepsTraffic f) : Safe P (s.onLink f) :=
  ⟨x.stable, x.stable.onLink s f hf x.holds⟩
theorem freeCtr (x : Safe P s) (n : Nat) : Safe P { s with freeCtr := n } := ⟨x.stable, x.stable.freeCtr s n x.holds⟩
theorem notify (x : Safe P s) (b : NoticeBody) : Safe P (notify b s) := ⟨x.stable, x.stable.notify s b x.holds⟩
theorem enqueueWith (x : Safe P s) (k : Key) (b : Bool) : Safe P (enqueueWith k b s) :=
  ⟨x.stable, x.stable.enqueueWith s k b x.holds⟩
theorem reRank_setTotal (x : Safe P s) (bib round : Nat) (v : Option Nat) : Safe P (reRank bib (setTotal bib round v s)) :=
  ⟨x.stable, x.stable.reRank_setTotal s bib round v x.holds⟩
theorem reRank_setDisqualified (x : Safe P s) (bib : Nat) (v : Bool) : Safe P (reRank bib (setDisqualified bib v s)) :=
  ⟨x.stable, x.stable.reRank_setDisqualified s bib v x.holds⟩
theorem addToList (x : Safe P s) (es : List Entry) : Safe P (s.onCst (addToList es)) :=
  ⟨x.stable, x.stable.addToList s es x.holds⟩

/-! ## The shared operations -/

theorem setOutside (x : Safe P s) (i : Option Nat) (v : Bool) : Safe P (setOutside i v s) := by
  simp only [Machine.setOutside]
  repeat' split
  exacts [x.onFld _, x]

theorem count (x : Safe P s) (k : CounterKind) : Safe P (count k s) := by
  simp only [Machine.count]
  repeat' split
  exacts [((x.onDiag _).notify _).notify _, (x.onDiag _).notify _, (x.onDiag _).notify _, x.onDiag _]

theorem reportFault (x : Safe P s) (k : FaultKind) (d : Nat) : Safe P (reportFault k d s) := x.onDiag _

theorem setAttempt (x : Safe P s) (n : Nat) (f : Attempt → Attempt) : Safe P (setAttempt n f s) := x.onCst _ (by intro; rfl)

theorem addFault (x : Safe P s) (n : Nat) (f : DeferredFault) : Safe P (addFault n f s) := x.setAttempt _ _

theorem endCheck (x : Safe P s) : Safe P (endCheck s) := by
  simp only [Machine.endCheck]
  repeat' split
  exacts [x.onCst _ (by intro; rfl), x]

theorem notifyState (x : Safe P s) (n r b : Nat) (o : Option AttemptState) (u : AttemptState) :
    Safe P (notifyState n r b o u s) := x.notify _

theorem enqueue (x : Safe P s) (k : Key) : Safe P (enqueue k s) := x.enqueueWith _ _

theorem enqueueSubject (x : Safe P s) (f : BoardField) (n : Nat) : Safe P (enqueueSubject f n s) :=
  (x.onBrd _ (by intro; exact ⟨rfl, rfl⟩)).enqueue _

theorem enqueueAll (x : Safe P s) (ks : List Key) (b : Bool) : Safe P (enqueueAll ks b s) := by
  induction ks generalizing s with
  | nil => exact x
  | cons k r ih => exact ih (x.enqueueWith k b)

theorem stallRule (x : Safe P s) : Safe P (stallRule s) := by
  simp only [Machine.stallRule]
  repeat' split
  exacts [x.onBrd _ (by intro; exact ⟨rfl, rfl⟩), x, x.onBrd _ (by intro; exact ⟨rfl, rfl⟩)]

theorem setReady (x : Safe P s) (l : Bool) : Safe P (setReady l s) := by
  simp only [Machine.setReady]
  repeat' split
  exacts [((x.onBrd _ (by intro; exact ⟨rfl, rfl⟩)).onBrd _ (by intro; exact ⟨rfl, rfl⟩)).notify _,
    x.onBrd _ (by intro; exact ⟨rfl, rfl⟩)]

/-! ## Lights and the start window -/

theorem setLight (x : Safe P s) (l : Light) : Safe P (setLight l s) := by
  simp only [Machine.setLight]
  repeat' split
  exacts [x, ((x.onStc _).notify _).enqueue _]

theorem updateLight (x : Safe P s) : Safe P (updateLight s) := x.setLight _

theorem stopWindow (x : Safe P s) : Safe P (stopWindow s) := by
  simp only [Machine.stopWindow]
  repeat' split
  exacts [(x.onStc _).enqueue _, x]

theorem dropClear (x : Safe P s) : Safe P (dropClear s) := x.onStc _

theorem armEffect (x : Safe P s) : Safe P (armEffect s) := by
  simp only [Machine.armEffect]
  repeat' split
  exacts [x, (((x.onCst _ (by intro; rfl)).onStc _).dropClear.updateLight.notifyState _ _ _ _ _).enqueueSubject _ _,
    (((x.onCst _ (by intro; rfl)).onStc _).dropClear.updateLight.notifyState _ _ _ _ _).enqueueSubject _ _]

theorem dropHeldArm (x : Safe P s) (c : DropCause) : Safe P (dropHeldArm c s) := by
  simp only [Machine.dropHeldArm]
  repeat' split
  exacts [(x.onStc _).notify _, x]

theorem takeHeldArm (x : Safe P s) : Safe P (takeHeldArm s) := by
  simp only [Machine.takeHeldArm]
  repeat' split
  exacts [x.dropHeldArm _, x.dropHeldArm _, (x.onStc _).armEffect, x]

theorem flashExpired (x : Safe P s) : Safe P (flashExpired s) := by
  simp only [Machine.flashExpired]
  repeat' split
  exacts [x.onStc _, x]

theorem warningReached (x : Safe P s) : Safe P (warningReached s) := by
  simp only [Machine.warningReached]
  repeat' split
  exacts [(x.onStc _).updateLight, x, x]

theorem countdownChanged (x : Safe P s) : Safe P (countdownChanged s) := by
  simp only [Machine.countdownChanged]
  repeat' split
  exacts [(x.onStc _).enqueue _, x, x]

/-! ## The gate -/

theorem startMove (x : Safe P s) (k : MoveKind) (c t : Nat) : Safe P (startMove k c t s) := (x.onGate _).notify _

theorem manualMove (x : Safe P s) (k : MoveKind) (t : Nat) : Safe P (manualMove k t s) := ((x.onGate _).notify _).enqueue _

theorem returnInIdle (x : Safe P s) : Safe P (returnInIdle s) := by
  simp only [Machine.returnInIdle]
  repeat' split
  exacts [x, x.startMove _ _ _, x]

theorem requestReturn (x : Safe P s) : Safe P (requestReturn s) := by
  simp only [Machine.requestReturn]
  repeat' split
  exacts [x.returnInIdle, x, x.manualMove _ _, x, x.onGate _, x.onGate _, x.onGate _, x, x, x]

theorem afterHeadChange (x : Safe P s) : Safe P (afterHeadChange s) := by
  simp only [Machine.afterHeadChange]
  repeat' split
  exacts [x, (x.onStc _).requestReturn, x]

theorem enterFault (x : Safe P s) (k : FaultKind) (l : Option Nat) : Safe P (enterFault k l s) := by
  simp only [Machine.enterFault]
  exact (((((x.onGate _).reportFault _ _).notify _).enqueue _).dropHeldArm _).onStc _

theorem pulseMoving (x : Safe P s) (d : Direction) : Safe P (pulseMoving d s) := by
  simp only [Machine.pulseMoving]
  repeat' split
  exacts [x.onGate _, x.onGate _, x]

theorem pulseSettling (x : Safe P s) : Safe P (pulseSettling s) := by
  simp only [Machine.pulseSettling]
  repeat' split
  exacts [(x.count _).onGate _, (x.count _).enterFault _ _, x.count _]

theorem indexPulse (x : Safe P s) : Safe P (indexPulse s) := by
  simp only [Machine.indexPulse]
  repeat' split
  exacts [(x.setOutside _ _).pulseMoving _, (x.setOutside _ _).pulseMoving _, (x.setOutside _ _).pulseSettling,
    x.setOutside _ _, (x.setOutside _ _).count _, (x.setOutside _ _).count _, (x.setOutside _ _).count _,
    (x.setOutside _ _).count _, x]

theorem arrive (x : Safe P s) : Safe P (arrive s) := by
  simp only [Machine.arrive]
  repeat' split
  exacts [(((x.onGate _).notify _).enqueue _).returnInIdle.takeHeldArm, (((x.onGate _).notify _).enqueue _).returnInIdle,
    (((x.onGate _).notify _).enqueue _).takeHeldArm, ((x.onGate _).notify _).enqueue _]

theorem settleExpired (x : Safe P s) : Safe P (settleExpired s) := by
  simp only [Machine.settleExpired]
  repeat' split
  exacts [(x.onGate _).arrive, (x.onGate _).enterFault _ _, (x.onGate _).onGate _, x.onGate _, x]

theorem stepTimedOut (x : Safe P s) : Safe P (stepTimedOut s) := by
  simp only [Machine.stepTimedOut]
  repeat' split
  exacts [x.enterFault _ _, x]

theorem homeTimedOut (x : Safe P s) : Safe P (homeTimedOut s) := by
  simp only [Machine.homeTimedOut]
  repeat' split
  exacts [x.enterFault _ _, x]

theorem gateHome (x : Safe P s) (active : Bool) : Safe P (gateHome active s) := by
  simp only [Machine.gateHome]
  repeat' split
  exacts [(x.setOutside _ _).onGate _, x.setOutside _ _, x]

/-! ## Scoring and voids -/

theorem announceRanking (x : Safe P s) (b : List (Option (Nat × Option Nat × Nat))) (u : Option Nat) :
    Safe P (announceRanking b u s) := by
  cases u with
  | none => exact (x.enqueue _).enqueueAll _ _
  | some n => exact (x.enqueueSubject _ _).enqueueAll _ _

theorem reRankAfter_setTotal (x : Safe P s) (bib round : Nat) (v : Option Nat) :
    Safe P (reRankAfter bib (setTotal bib round v) s) := by
  simp only [Machine.reRankAfter]
  exact (x.reRank_setTotal _ _ _).announceRanking _ _

theorem reRankAfter_setDisqualified (x : Safe P s) (bib : Nat) (v : Bool) :
    Safe P (reRankAfter bib (setDisqualified bib v) s) := by
  simp only [Machine.reRankAfter]
  exact (x.reRank_setDisqualified _ _).announceRanking _ _

theorem notifyComplete (x : Safe P s) (r : Bool) (a : Attempt) (p : Points) : Safe P (notifyComplete r a p s) := x.notify _

theorem completeAttempt (x : Safe P s) (a : Attempt) : Safe P (completeAttempt a s) :=
  (((((x.setAttempt _ _).reRank_setTotal _ _ _).enqueueSubject _ _).announceRanking _ _).notifyComplete _ _ _).endCheck

theorem checkCompletion (x : Safe P s) (n : Nat) : Safe P (checkCompletion n s) := by
  simp only [Machine.checkCompletion]
  repeat' split
  exacts [x.completeAttempt _, x, x]

theorem recompute (x : Safe P s) (n : Nat) : Safe P (recompute n s) := by
  simp only [Machine.recompute]
  repeat' split
  exacts [x, (((x.setAttempt _ _).enqueueSubject _ _).announceRanking _ _).notifyComplete _ _ _,
    ((((x.setAttempt _ _).reRank_setTotal _ _ _).enqueueSubject _ _).announceRanking _ _).notifyComplete _ _ _,
    x.setAttempt _ _, (x.setAttempt _ _).reRank_setTotal _ _ _]

theorem afterInput (x : Safe P s) (n : Nat) : Safe P (afterInput n s) := by
  simp only [Machine.afterInput]
  repeat' split
  exacts [x, x.checkCompletion _, x.recompute _, x, x, x, x, x, x, x]

theorem announceDistance (x : Safe P s) (n : Nat) (u v : Option Nat) : Safe P (announceDistance n u v s) := by
  simp only [Machine.announceDistance]
  repeat' split
  exacts [x, x.enqueueSubject _ _]

theorem returnToHead (x : Safe P s) (bib : Nat) : Safe P (returnToHead bib s) := x.onCst _ (by intro; rfl)

theorem stopMeasuring (x : Safe P s) : Safe P (stopMeasuring s) := x.onMeas _

theorem dropWindow (x : Safe P s) : Safe P (dropWindow s) := x.onWln _

theorem takeBack (x : Safe P s) (a : Attempt) : Safe P (takeBack a s) := by
  simp only [Machine.takeBack]
  repeat' split
  exacts [x.dropClear.stopWindow.updateLight, x.dropClear.stopWindow.updateLight, x.stopMeasuring.dropWindow.updateLight,
    x.stopMeasuring.dropWindow.updateLight, (x.onMeas _).dropWindow, x.onMeas _, x.reRankAfter_setTotal _ _ _,
    x.reRankAfter_setDisqualified _ _, x, x]

theorem coachReturn (x : Safe P s) (a : Attempt) : Safe P (coachReturn a s) := by
  simp only [Machine.coachReturn]
  repeat' split
  exacts [x.requestReturn, x]

theorem voidAttempt (x : Safe P s) (a : Attempt) : Safe P (voidAttempt a s) :=
  (((((x.setAttempt _ _).returnToHead _).takeBack _).notifyState _ _ _ _ _).coachReturn _).afterHeadChange

/-! ## Measuring -/

theorem cellA (x : Safe P s) : Safe P (cellA s) := by
  simp only [Machine.cellA, Machine.breakA]
  repeat' split
  exacts [(x.setOutside _ _).onMeas _, x.setOutside _ _, x.setOutside _ _, x.setOutside _ _, x]

theorem endInterval (x : Safe P s) (i : Nat) : Safe P (endInterval i s) := by
  simp only [Machine.endInterval]
  repeat' split
  exacts [(((x.onMeas _).setAttempt _ _).enqueueSubject _ _).notifyState _ _ _ _ _,
    ((((x.onMeas _).setAttempt _ _).addFault _ _).enqueueSubject _ _).notifyState _ _ _ _ _, x.onMeas _]

theorem cellB (x : Safe P s) (i : Nat) : Safe P (cellB i s) := by
  simp only [Machine.cellB, Machine.breakB]
  repeat' split
  exacts [x.setOutside _ _, (x.setOutside _ _).count _, (x.setOutside _ _).count _, (x.setOutside _ _).endInterval _, x]

theorem trapTimedOut (x : Safe P s) : Safe P (trapTimedOut s) := by
  simp only [Machine.trapTimedOut, Machine.faultOnHill]
  repeat' split
  exacts [(x.onMeas _).addFault _ _, x.onMeas _, x]

theorem endTrap (x : Safe P s) (n : Nat) : Safe P (endTrap n s) := by
  simp only [Machine.endTrap]
  repeat' split
  exacts [(x.addFault _ _).onMeas _, x.onMeas _]

theorem closeWindow (x : Safe P s) (n : Nat) : Safe P (closeWindow n s) := by
  simp only [Machine.closeWindow]
  repeat' split
  exacts [(x.dropWindow.setAttempt _ _).checkCompletion _, ((x.dropWindow.setAttempt _ _).addFault _ _).checkCompletion _,
    x.dropWindow]

theorem reportFaults (x : Safe P s) (n : Nat) (c : EndCause) : Safe P (reportFaults n c s) := by
  simp only [Machine.reportFaults]
  repeat' split
  exacts [x, x.notify _, x]

theorem leaveHill (x : Safe P s) (a : Attempt) (c : EndCause) : Safe P (leaveHill a c s) :=
  ((((x.endTrap _).closeWindow _).coachReturn _).notifyState _ _ _ _ _).reportFaults _ _

theorem stopMarkLimit (x : Safe P s) : Safe P (stopMarkLimit s) := x.onMeas _

theorem enterScoring (x : Safe P s) (a : Attempt) : Safe P (enterScoring a s) := (x.setAttempt _ _).stopMarkLimit.leaveHill _ _

theorem markLimitExpired (x : Safe P s) : Safe P (markLimitExpired s) := by
  simp only [Machine.markLimitExpired, Machine.limitReached]
  repeat' split
  exacts [((x.setAttempt _ _).stopMarkLimit.addFault _ _).leaveHill _ _, x.stopMarkLimit, x.stopMarkLimit, x]

theorem stopWait (x : Safe P s) (n : Nat) : Safe P (stopWait n s) := x.onMeas _

theorem followWait (x : Safe P s) (n : Nat) (u v : DistanceStatus) : Safe P (followWait n u v s) := by
  simp only [Machine.followWait]
  repeat' split
  exacts [x, x.onMeas _, x.stopWait _]

theorem resolve (x : Safe P s) (n : Nat) : Safe P (resolve n s) := by
  simp only [Machine.resolve, Machine.reportHeld]
  repeat' split
  exacts [(((((x.setAttempt _ _).addFault _ _).notify _).followWait _ _ _).announceDistance _ _ _).checkCompletion _,
    (((x.setAttempt _ _).followWait _ _ _).announceDistance _ _ _).checkCompletion _, x]

theorem settleSingle (x : Safe P s) (n : Nat) : Safe P (settleSingle n s) := by
  simp only [Machine.settleSingle]
  repeat' split
  exacts [(((x.setAttempt _ _).stopWait _).announceDistance _ _ _).checkCompletion _, x.stopWait _]

theorem waitExpired (x : Safe P s) (n : Nat) : Safe P (waitExpired n s) := by
  simp only [Machine.waitExpired]
  repeat' split
  exacts [x.settleSingle _, x]

theorem storeMark (x : Safe P s) (c : Console) (n r e : Nat) : Safe P (storeMark c n r e s) := by
  simp only [Machine.storeMark]
  repeat' split
  exacts [(x.setAttempt _ _).addFault _ _, x.setAttempt _ _]

theorem handleMark (x : Safe P s) (c : Console) (b r e : Nat) : Safe P (handleMark c b r e s) := by
  simp only [Machine.handleMark, Machine.matchedMark]
  repeat' split
  exacts [x, (x.storeMark _ _ _ _).resolve _, ((x.storeMark _ _ _ _).enterScoring _).resolve _, (x.count _).notify _]

theorem validArrival (x : Safe P s) (c : Console) : Safe P (validArrival c s) := by
  simp only [Machine.validArrival]
  repeat' split
  exacts [((x.onMeas _).onMeas _).notify _, x.onMeas _]

theorem judgeRecord (x : Safe P s) (c : Console) (r : List RxChar) : Safe P (judgeRecord c r s) := by
  simp only [Machine.judgeRecord, Machine.takeRecord]
  repeat' split
  exacts [(x.validArrival _).handleMark _ _ _ _, x.validArrival _, x.count _]

theorem consoleByte (x : Safe P s) (c : Console) (u : RxChar) : Safe P (consoleByte c s u) := by
  simp only [Machine.consoleByte]
  repeat' split
  exacts [x, x.onMeas _, x, x.onMeas _, (x.onMeas _).judgeRecord _ _]

theorem consoleBytes (x : Safe P s) (c : Console) (xs : List RxChar) : Safe P (consoleBytes c xs s) := by
  induction xs generalizing s with
  | nil => exact x
  | cons y r ih => exact ih (x.consoleByte c y)

theorem dropPartialRecord (x : Safe P s) (c : Console) : Safe P (dropPartialRecord c s) := by
  simp only [Machine.dropPartialRecord]
  repeat' split
  exacts [x, (x.onMeas _).count _]

theorem foldl_settleSingle (x : Safe P s) (ns : List Nat) : Safe P (ns.foldl (fun s n => Machine.settleSingle n s) s) := by
  induction ns generalizing s with
  | nil => exact x
  | cons n r ih => exact ih (x.settleSingle n)

theorem silenceExpired (x : Safe P s) (c : Console) : Safe P (silenceExpired c s) := by
  simp only [Machine.silenceExpired, Machine.becomeSilent]
  repeat' split
  · exact (((x.onMeas _).onMeas _).notify _).foldl_settleSingle _
  · exact x.onMeas _
  · exact x

/-! ## The start -/

theorem copyGates (x : Safe P s) (n : Nat) : Safe P (copyGates n s) := by
  simp only [Machine.copyGates]
  exact ((x.onGate _).setAttempt _ _).onGate _

theorem giveGreen (x : Safe P s) (a : Attempt) : Safe P (giveGreen a s) :=
  ((((((x.copyGates _).setAttempt _ _).onStc _).updateLight.enqueue _).enqueue _).count _).notifyState _ _ _ _ _

theorem withholdGreen (x : Safe P s) (a : Attempt) : Safe P (withholdGreen a s) := by
  simp only [Machine.withholdGreen]
  repeat' split
  exacts [x.count _, ((x.count _).onStc _).notify _]

theorem judgeClear (x : Safe P s) : Safe P (judgeClear s) := by
  simp only [Machine.judgeClear]
  repeat' split
  exacts [x.giveGreen _, x.withholdGreen _, x, x]

theorem windowExpired (x : Safe P s) : Safe P (windowExpired s) := by
  simp only [Machine.windowExpired, Machine.lapse]
  repeat' split
  exacts [
    ((((x.setAttempt _ _).updateLight.stopWindow.reRankAfter_setDisqualified _ _).count _).notifyState _ _ _ _ _).endCheck.coachReturn _,
    x, x, x]

theorem handLeave (x : Safe P s) (n : Nat) : Safe P (handLeave n s) := by
  simp only [Machine.handLeave]
  repeat' split
  exacts [(((x.onWln _).setAttempt _ _).onMeas _).onMeas _, ((x.onWln _).setAttempt _ _).onMeas _]

theorem leaveBar (x : Safe P s) (a : Attempt) (t : Nat) (m : Bool) : Safe P (leaveBar a t m s) := by
  simp only [Machine.leaveBar, Machine.leaveEarly]
  repeat' split
  exacts [
    (((((x.setAttempt _ _).dropClear.setAttempt _ _).copyGates _).enqueue _).updateLight.handLeave _).notifyState _ _ _ _ _,
    ((x.setAttempt _ _).stopWindow.updateLight.handLeave _).notifyState _ _ _ _ _]

theorem stopEvent (x : Safe P s) (c : DropCause) : Safe P (stopEvent c s) := by
  simp only [Machine.stopEvent]
  repeat' split
  exacts [x.voidAttempt _, x.setAttempt _ _, x.dropHeldArm _]

theorem lineEdge (x : Safe P s) (l : DebouncedLine) (v : Bool) : Safe P (lineEdge l v s) := by
  simp only [Machine.lineEdge]
  repeat' split
  exacts [(x.setOutside _ _).onFld _, x]

theorem debounceExpired (x : Safe P s) (l : DebouncedLine) : Safe P (debounceExpired l s) := by
  simp only [Machine.debounceExpired, Machine.debounced, Machine.leaveEvent]
  repeat' split
  exacts [(x.onFld _).leaveBar _ _ _, (x.onFld _).count _, (x.onFld _).stopEvent _, x.onFld _, x.onFld _, x]

/-! ## The wind line -/

/-- A stable law is one that the wind line keeps. -/
theorem wind (x : Safe P s) : WindSafe P s where
  law := {
    onProf := x.stable.onProf
    onFld := x.stable.onFld
    onWln := x.stable.onWln
    onDiag := x.stable.onDiag
    freeCtr := x.stable.freeCtr
    notify := x.stable.notify
    enqueueWith := x.stable.enqueueWith
    sampled := fun _ _ _ hs => (setAttempt ⟨x.stable, hs⟩ _ _).holds
    addFault := fun _ _ _ hs => (addFault ⟨x.stable, hs⟩ _ _).holds
    judgeClear := fun _ hs => (judgeClear ⟨x.stable, hs⟩).holds }
  holds := x.holds

theorem ofWind (x : Safe P s) {t : State} (h : WindSafe P t) : Safe P t := ⟨x.stable, h.holds⟩

/-! ## The profile, the lines and the board -/

theorem edit (x : Safe P s) (f : Profile → Profile) : Safe P (edit f s) := x.onProf _

theorem followConsoleB (x : Safe P s) (u : Bool) : Safe P (followConsoleB u s) := by
  simp only [Machine.followConsoleB]
  repeat' split
  exacts [(x.onMeas _).notify _, x, x, (x.onMeas _).notify _]

theorem followDebounce (x : Safe P s) (o : List Assignment) (l : DebouncedLine) : Safe P (followDebounce o l s) := by
  simp only [Machine.followDebounce, Machine.startDebounce]
  repeat' split
  exacts [x, x.onFld _]

theorem followLines (x : Safe P s) (o : List Assignment) : Safe P (followLines o s) := by
  simp only [Machine.followLines]
  repeat' split
  exacts [((((x.onFld _).followDebounce _ _).followDebounce _ _).onWln _).onGate _,
    (((((x.onFld _).followDebounce _ _).followDebounce _ _).onWln _).onGate _).setReady _]

theorem writeEnded (x : Safe P s) (v : Bool) : Safe P (writeEnded v s) := by
  simp only [Machine.writeEnded]
  repeat' split
  exacts [(x.onProf _).notify _, ((x.onProf _).reportFault _ _).notify _, x]

theorem frameEnded (x : Safe P s) : Safe P (frameEnded s) := by
  simp only [Machine.frameEnded]
  repeat' split
  exacts [(x.onBrd _ (by intro; exact ⟨rfl, rfl⟩)).count _, x]

theorem pacingExpired (x : Safe P s) : Safe P (pacingExpired s) := x.onBrd _ (by intro; exact ⟨rfl, rfl⟩)

theorem readyChanged (x : Safe P s) (l : Bool) : Safe P (readyChanged l s) := by
  simp only [Machine.readyChanged]
  repeat' split
  exacts [(x.setOutside _ _).setReady _, x]

theorem stallExpired (x : Safe P s) : Safe P (stallExpired s) := by
  simp only [Machine.stallExpired]
  repeat' split
  exacts [((x.onBrd _ (by intro; exact ⟨rfl, rfl⟩)).reportFault _ _).notify _, x]

/-! ## Requests -/

theorem served_ite {c : Prop} [Decidable c] {a b : Served} (ha : Safe P a.st) (hb : Safe P b.st) :
    Safe P (if c then a else b).st := by split <;> assumption

theorem serveMoveGate (x : Safe P s) (target : Nat) : Safe P (serveMoveGate target s).st := by
  have hjury : Safe P (s.onGate fun g => { g with jury := some target }) := x.onGate _
  unfold Machine.serveMoveGate
  refine served_ite x (served_ite x (served_ite x (served_ite x (served_ite x ?_))))
  exact served_ite (served_ite (hjury.manualMove _ _) (hjury.startMove _ _ _)) hjury

theorem serveHomeGate (x : Safe P s) : Safe P (serveHomeGate s).st := by
  simp only [Machine.serveHomeGate]
  repeat' split
  all_goals dsimp only [done_st, accepted_st, refuse_st, doneWith_st]
  exacts [x, x, x, x, ((x.onGate _).notify _).enqueue _, (x.onGate _).notify _]

theorem serveCoachReduction (x : Safe P s) (bib k : Nat) : Safe P (serveCoachReduction bib k s).st := by
  have hcoach : Safe P (s.onStc fun c => { c with coach := some (bib, k) }) := x.onStc _
  unfold Machine.serveCoachReduction
  refine served_ite x (served_ite x (served_ite x (served_ite x (served_ite x (served_ite x ?_)))))
  split
  · exact x
  · exact served_ite x (served_ite x (served_ite (served_ite (hcoach.manualMove _ _) (hcoach.startMove _ _ _)) hcoach))

theorem serveEnterMark (x : Safe P s) (n judge mark : Nat) : Safe P (serveEnterMark n judge mark s).st := by
  simp only [Machine.serveEnterMark]
  repeat' split
  all_goals dsimp only [done_st, accepted_st, refuse_st, doneWith_st]
  exacts [x, x, x, x, ((x.setAttempt _ _).enqueueSubject _ _).afterInput _, (x.setAttempt _ _).afterInput _]

theorem serveCloseMarks (x : Safe P s) (n : Nat) : Safe P (serveCloseMarks n s).st := by
  simp only [Machine.serveCloseMarks]
  repeat' split
  all_goals dsimp only [done_st, accepted_st, refuse_st, doneWith_st]
  exacts [x, x, x, x, x, ((x.setAttempt _ _).enqueueSubject _ _).checkCompletion _, x]

theorem serveSetDistance (x : Safe P s) (n d : Nat) : Safe P (serveSetDistance n d s).st := by
  simp only [Machine.serveSetDistance]
  repeat' split
  all_goals dsimp only [done_st, accepted_st, refuse_st, doneWith_st]
  exacts [x, x, x, x, (((x.setAttempt _ _).onMeas _).announceDistance _ _ _).afterInput _]

theorem serveSetWind (x : Safe P s) (n : Nat) (w : Int) : Safe P (serveSetWind n w s).st := by
  simp only [Machine.serveSetWind]
  repeat' split
  all_goals dsimp only [done_st, accepted_st, refuse_st, doneWith_st]
  exacts [x, x, x, x, (x.setAttempt _ _).afterInput _]

theorem serveReadAttempt (x : Safe P s) (n : Nat) : Safe P (serveReadAttempt n s).st := by
  simp only [Machine.serveReadAttempt]
  repeat' split
  all_goals exact x

theorem serveVoidAttempt (x : Safe P s) (n : Nat) : Safe P (serveVoidAttempt n s).st := by
  simp only [Machine.serveVoidAttempt]
  repeat' split
  all_goals dsimp only [done_st, accepted_st, refuse_st, doneWith_st]
  exacts [x, x, x, x, x, x.voidAttempt _]

theorem serveArmNext (x : Safe P s) : Safe P (serveArmNext s).st := by
  simp only [Machine.serveArmNext]
  repeat' split
  all_goals dsimp only [done_st, accepted_st, refuse_st, doneWith_st]
  exacts [x, x, x, x, x, x, x, x, x.armEffect, x.armEffect, x.onStc _, x.onStc _, x.onStc _, x.onStc _]

theorem serveClear (x : Safe P s) : Safe P (serveClear s).st := by
  simp only [Machine.serveClear]
  repeat' split
  all_goals dsimp only [done_st, accepted_st, refuse_st, doneWith_st]
  exacts [x, x, x, (x.onStc _).giveGreen _, x.onStc _]

theorem serveHold (x : Safe P s) : Safe P (serveHold s).st := by
  simp only [Machine.serveHold]
  repeat' split
  all_goals dsimp only [done_st, accepted_st, refuse_st, doneWith_st]
  exacts [x, x.dropClear, x]

theorem serveMarkLeave (x : Safe P s) : Safe P (serveMarkLeave s).st := by
  simp only [Machine.serveMarkLeave]
  repeat' split
  all_goals dsimp only [done_st, accepted_st, refuse_st, doneWith_st]
  exacts [x, x.leaveBar _ _ _, x.count _]

theorem serveStop (x : Safe P s) : Safe P (serveStop s).st := by
  simp only [Machine.serveStop]
  dsimp only [done_st, accepted_st, refuse_st, doneWith_st]
  exact x.stopEvent _

theorem serveSetHill (x : Safe P s) (h : HillSection) : Safe P (serveSetHill h s).st := by
  simp only [Machine.serveSetHill]
  repeat' split
  all_goals dsimp only [done_st, accepted_st, refuse_st, doneWith_st]
  exacts [x, ((x.edit _).onWln _).followConsoleB _, x]

theorem serveSetSurvey (x : Safe P s) (points : List SurveyPoint) : Safe P (serveSetSurvey points s).st := by
  simp only [Machine.serveSetSurvey]
  repeat' split
  all_goals dsimp only [done_st, accepted_st, refuse_st, doneWith_st]
  exacts [x, x.edit _, x]

theorem serveSetLines (x : Safe P s) (codes : List (Nat × Nat)) : Safe P (serveSetLines codes s).st := by
  simp only [Machine.serveSetLines]
  repeat' split
  all_goals dsimp only [done_st, accepted_st, refuse_st, doneWith_st]
  exacts [x, x, x, (x.edit _).followLines _, x, x]

theorem serveStoreProfile (x : Safe P s) : Safe P (serveStoreProfile s).st := by
  simp only [Machine.serveStoreProfile]
  repeat' split
  all_goals dsimp only [done_st, accepted_st, refuse_st, doneWith_st]
  exacts [x, x.onProf _, x]

theorem serveReadProfile (x : Safe P s) (selector k : Nat) : Safe P (serveReadProfile selector k s).st := by
  simp only [Machine.serveReadProfile]
  repeat' split
  all_goals exact x

theorem serveWriteLine (x : Safe P s) (line level : Nat) : Safe P (serveWriteLine line level s).st := by
  simp only [Machine.serveWriteLine]
  repeat' split
  all_goals dsimp only [done_st, accepted_st, refuse_st, doneWith_st]
  exacts [x, x.onFld _, x]

theorem serveReadLines (x : Safe P s) : Safe P (serveReadLines s).st := x

theorem serveOpenRound (x : Safe P s) (source : Nat) (q : Option Nat) : Safe P (serveOpenRound source q s).st := by
  simp only [Machine.serveOpenRound, Machine.openWith]
  repeat' split
  all_goals dsimp only [done_st, accepted_st, refuse_st, doneWith_st]
  exacts [x, x, x, ((x.onCst _ (by intro; rfl)).onGate _).afterHeadChange.updateLight, x,
    ((x.onCst _ (by intro; rfl)).onGate _).afterHeadChange.updateLight, x, x]

theorem serveConfirmRound (x : Safe P s) : Safe P (serveConfirmRound s).st := by
  simp only [Machine.serveConfirmRound, Machine.setRoundState]
  repeat' split
  all_goals dsimp only [done_st, accepted_st, refuse_st, doneWith_st]
  exacts [(x.onCst _ (by intro; rfl)).updateLight, x]

theorem serveSuspendRound (x : Safe P s) : Safe P (serveSuspendRound s).st := by
  simp only [Machine.serveSuspendRound, Machine.voidAtBar, Machine.setRoundState]
  repeat' split
  all_goals dsimp only [done_st, accepted_st, refuse_st, doneWith_st]
  exacts [x, x, (((x.voidAttempt _).dropHeldArm _).onCst _ (by intro; rfl)).updateLight,
    ((x.dropHeldArm _).onCst _ (by intro; rfl)).updateLight]

theorem serveResumeRound (x : Safe P s) : Safe P (serveResumeRound s).st := by
  simp only [Machine.serveResumeRound, Machine.setRoundState]
  repeat' split
  all_goals dsimp only [done_st, accepted_st, refuse_st, doneWith_st]
  exacts [(x.onCst _ (by intro; rfl)).endCheck, x]

theorem serveCancelRound (x : Safe P s) (hcancel : Safe P (cancelOpenRound s)) : Safe P (serveCancelRound s).st :=
  served_ite hcancel x

theorem serveAddEntries (x : Safe P s) (es : List Entry) : Safe P (serveAddEntries es s).st := by
  simp only [Machine.serveAddEntries]
  repeat' split
  all_goals dsimp only [done_st, accepted_st, refuse_st, doneWith_st]
  exacts [x, x, x, x, x, x, (x.addToList _).afterHeadChange]

theorem serveWithdrawEntry (x : Safe P s) (bib : Nat) : Safe P (serveWithdrawEntry bib s).st := by
  simp only [Machine.serveWithdrawEntry]
  repeat' split
  all_goals dsimp only [done_st, accepted_st, refuse_st, doneWith_st]
  exacts [x, x, x, (x.onCst _ (by intro; rfl)).afterHeadChange.endCheck]

theorem serveMoveEntry (x : Safe P s) (bib target : Nat) : Safe P (serveMoveEntry bib target s).st := by
  simp only [Machine.serveMoveEntry]
  repeat' split
  all_goals dsimp only [done_st, accepted_st, refuse_st, doneWith_st]
  exacts [x, x, x, (x.onCst _ (by intro; rfl)).afterHeadChange]

theorem serveBoardMessage (x : Safe P s) (line : Nat) (text : Text) : Safe P (serveBoardMessage line text s).st := by
  simp only [Machine.serveBoardMessage]
  repeat' split
  all_goals dsimp only [done_st, accepted_st, refuse_st, doneWith_st]
  exacts [x, (x.onBrd _ (by intro; exact ⟨rfl, List.length_set⟩)).enqueue _]

theorem serveBoardRefresh (x : Safe P s) : Safe P (serveBoardRefresh s).st := by
  simp only [Machine.serveBoardRefresh]
  dsimp only [done_st, accepted_st, refuse_st, doneWith_st]
  exact x.enqueueAll _ _

theorem serveBoardStatus (x : Safe P s) : Safe P (serveBoardStatus s).st := x

theorem serveSetCursor (x : Safe P s) (selector position mode : Nat) : Safe P (serveSetCursor selector position mode s).st := by
  simp only [Machine.serveSetCursor]
  repeat' split
  all_goals dsimp only [done_st, accepted_st, refuse_st, doneWith_st]
  exacts [x, x.onLink _ fun _ => ⟨rfl, rfl, rfl, rfl, rfl, rfl⟩, x, x.onLink _ fun _ => ⟨rfl, rfl, rfl, rfl, rfl, rfl⟩, x, x]

theorem serveReadAtCursor (x : Safe P s) (selector : Nat) : Safe P (serveReadAtCursor selector s).st := by
  simp only [Machine.serveReadAtCursor]
  repeat' split
  all_goals dsimp only [done_st, accepted_st, refuse_st, doneWith_st]
  exacts [x.onLink _ fun _ => ⟨rfl, rfl, rfl, rfl, rfl, rfl⟩, x, x.onLink _ fun _ => ⟨rfl, rfl, rfl, rfl, rfl, rfl⟩, x, x]

theorem serveSetClock (x : Safe P s) (time : Nat) : Safe P (serveSetClock time s).st := by
  simp only [Machine.serveSetClock]
  repeat' split
  all_goals dsimp only [done_st, accepted_st, refuse_st, doneWith_st]
  exacts [x, x.onLink _ fun _ => ⟨rfl, rfl, rfl, rfl, rfl, rfl⟩]

theorem serveSetNotices (x : Safe P s) (mask : BitVec 16) : Safe P (serveSetNotices mask s).st := by
  simp only [Machine.serveSetNotices]
  dsimp only [done_st, accepted_st, refuse_st, doneWith_st]
  exact x.onLink _ fun _ => ⟨rfl, rfl, rfl, rfl, rfl, rfl⟩

theorem keepsTraffic_withChange (rate : Nat) (brk : Bool) :
    KeepsTraffic fun l => { l with inHand := l.inHand.map (withChange rate brk) } := by
  intro l
  refine ⟨rfl, rfl, rfl, rfl, ?_, ?_⟩ <;> cases h : l.inHand <;> simp [h, withChange]

theorem serveSetLink (x : Safe P s) (rate setting : Nat) : Safe P (serveSetLink rate setting s).st := by
  simp only [Machine.serveSetLink]
  repeat' split
  all_goals dsimp only [done_st, accepted_st, refuse_st, doneWith_st]
  exacts [x, x.onLink _ (keepsTraffic_withChange rate (setting == 1))]

theorem serveSelectCounter (x : Safe P s) (n kind qualifier : Nat) : Safe P (serveSelectCounter n kind qualifier s).st := by
  simp only [Machine.serveSelectCounter]
  repeat' split
  all_goals dsimp only [done_st, accepted_st, refuse_st, doneWith_st]
  exacts [x, x.onDiag _, x.onDiag _, x]

theorem serveReadCounters (x : Safe P s) : Safe P (serveReadCounters s).st := x

theorem serveReadFault (x : Safe P s) : Safe P (serveReadFault s).st := by
  simp only [Machine.serveReadFault]
  dsimp only [done_st, accepted_st, refuse_st, doneWith_st]
  exact x.onDiag _

theorem serveUnknownKind (x : Safe P s) : Safe P (serveUnknownKind s).st := x

/-- What a request does keeps a stable law (R155), if the cancelling of a round and RESTART keep it. -/
theorem serve (x : Safe P s) (hcancel : Safe P (cancelOpenRound s)) (hrestart : Safe P (restartEffect s)) (i : Instr) :
    Safe P (serve i s).st :=
  match i with
  | .setHill _ h => x.serveSetHill h
  | .setStation _ k presence address bearing roles => x.ofWind (x.wind.serveSetStation k presence address bearing roles)
  | .setSurvey _ points => x.serveSetSurvey points
  | .setLines _ codes => x.serveSetLines codes
  | .storeProfile _ => x.serveStoreProfile
  | .readProfile _ selector k => x.serveReadProfile selector k
  | .writeLine _ line level => x.serveWriteLine line level
  | .readLines _ => x.serveReadLines
  | .openRound _ source q => x.serveOpenRound source q
  | .addEntries _ es => x.serveAddEntries es
  | .withdrawEntry _ bib => x.serveWithdrawEntry bib
  | .moveEntry _ bib target => x.serveMoveEntry bib target
  | .confirmRound _ => x.serveConfirmRound
  | .cancelRound _ => x.serveCancelRound hcancel
  | .suspendRound _ => x.serveSuspendRound
  | .resumeRound _ => x.serveResumeRound
  | .armNext _ => x.serveArmNext
  | .clear _ => x.serveClear
  | .hold _ => x.serveHold
  | .stop _ => x.serveStop
  | .markLeave _ => x.serveMarkLeave
  | .coachReduction _ bib k => x.serveCoachReduction bib k
  | .moveGate _ target => x.serveMoveGate target
  | .homeGate _ => x.serveHomeGate
  | .enterMark _ n judge mark => x.serveEnterMark n judge mark
  | .closeMarks _ n => x.serveCloseMarks n
  | .setDistance _ n d => x.serveSetDistance n d
  | .setWind _ n w => x.serveSetWind n w
  | .voidAttempt _ n => x.serveVoidAttempt n
  | .readAttempt _ n => x.serveReadAttempt n
  | .stationStatus _ k => x.ofWind (x.wind.serveStationStatus k)
  | .disableStation _ k => x.ofWind (x.wind.serveDisableStation k)
  | .enableStation _ k => x.ofWind (x.wind.serveEnableStation k)
  | .lineTest _ => x.ofWind x.wind.serveLineTest
  | .readWind _ => x.ofWind x.wind.serveReadWind
  | .boardMessage _ line text => x.serveBoardMessage line text
  | .boardRefresh _ => x.serveBoardRefresh
  | .boardStatus _ => x.serveBoardStatus
  | .setCursor _ selector position mode => x.serveSetCursor selector position mode
  | .readAtCursor _ selector => x.serveReadAtCursor selector
  | .setClock _ time => x.serveSetClock time
  | .setNotices _ mask => x.serveSetNotices mask
  | .setLink _ rate setting => x.serveSetLink rate setting
  | .selectCounter _ n kind qualifier => x.serveSelectCounter n kind qualifier
  | .readCounters _ => x.serveReadCounters
  | .readFault _ => x.serveReadFault
  | .restart _ => hrestart
  | .unknownKind _ _ => x.serveUnknownKind
  | .hardReset _ | .storeWriteEnd _
  | .debounceEdge _ _ | .debounceExpiry _ | .cellAEdge | .cellBEdge _ | .trapTimerExpiry | .indexPulse | .gateHomeActive _
  | .stepTimeout | .settleExpiry | .homeTimeout | .flashTimerExpiry | .warningPeriodReached | .countdownSecondChange
  | .startWindowExpiry | .carrierClear | .contentionMiss | .turnaroundEnd | .pollSent | .replyTimeout | .replyBegin _
  | .replyCharacter _ | .replyGapExpiry | .noiseByte _ | .cyclePeriodExpiry | .gatingMeanStale | .windDeferExpiry
  | .listenEnd | .echo _ _ | .echoWindowExpiry | .markRecord _ _ | .heartbeat _ _ | .recordGap _ _
  | .silenceTimerExpiry _ | .markLimitExpiry | .secondMarkWaitExpiry _ | .boardFrameEnd
  | .pacingExpiry | .boardReadyChange _ | .stallTimerExpiry | .frameReceived _ | .linkGap _ | .replySent | .noticeSent
  | .breakEnd | .controlByteDiscarded _ => x

/-- What an event does, apart from those of the control link, keeps a stable law. -/
theorem eventEffect (x : Safe P s) {i : Instr} (hi : isTraffic i = false) : Safe P (eventEffect i s) := by
  cases i with
  | storeWriteEnd verified => exact x.writeEnded verified
  | debounceEdge line level => exact x.lineEdge line level
  | debounceExpiry line => exact x.debounceExpired line
  | cellAEdge => exact x.cellA
  | cellBEdge interval => exact x.cellB interval
  | trapTimerExpiry => exact x.trapTimedOut
  | indexPulse => exact x.indexPulse
  | gateHomeActive active => exact x.gateHome active
  | stepTimeout => exact x.stepTimedOut
  | settleExpiry => exact x.settleExpired
  | homeTimeout => exact x.homeTimedOut
  | flashTimerExpiry => exact x.flashExpired
  | warningPeriodReached => exact x.warningReached
  | countdownSecondChange => exact x.countdownChanged
  | startWindowExpiry => exact x.windowExpired
  | carrierClear | contentionMiss | turnaroundEnd | pollSent | replyTimeout | replyBegin _ | replyCharacter _ | replyGapExpiry | noiseByte _
    | cyclePeriodExpiry | gatingMeanStale | windDeferExpiry | listenEnd | echo _ _ | echoWindowExpiry =>
    exact x.ofWind (x.wind.eventEffect rfl)
  | markRecord console chars => exact x.consoleBytes console chars
  | heartbeat console chars => exact x.consoleBytes console chars
  | recordGap console c => exact (x.dropPartialRecord console).consoleByte console c
  | silenceTimerExpiry console => exact x.silenceExpired console
  | markLimitExpiry => exact x.markLimitExpired
  | secondMarkWaitExpiry attempt => exact x.waitExpired attempt
  | boardFrameEnd => exact x.frameEnded
  | pacingExpiry => exact x.pacingExpired
  | boardReadyChange level => exact x.readyChanged level
  | stallTimerExpiry => exact x.stallExpired
  | frameReceived _ => cases hi
  | linkGap _ => cases hi
  | replySent => cases hi
  | noticeSent => cases hi
  | breakEnd => cases hi
  | controlByteDiscarded _ => cases hi
  | _ => exact x

end Safe

end Sys2Proof.Machine

/-! PROOFS. The capacities of the queues, the reply that goes with the request in hand, and the message lines (R141, R144, R152,
R155). -/

namespace Sys2Proof.Machine

/-! ## Laws about LINK and BRD -/

/-- A law about LINK and BRD that notices, enqueues and changes beside the queues keep. -/
structure TrafficLaw (Q : Link → Brd → Prop) : Prop where
  notice : ∀ n l b, Q l b → Q (queueNotice n l) b
  enqueue : ∀ k blank l b, Q l b → Q l { b with queue := (enqueued k blank b.queue).1 }
  link : ∀ f l b, KeepsTraffic f → Q l b → Q (f l) b
  board : ∀ f l b, KeepsQueue f → Q l b → Q l (f b)
  cleared : ∀ l b, Q l b → Q l { b with queue := [], subjects := noSubjects, messages := List.replicate 16 [] }

namespace TrafficLaw

variable {Q : Link → Brd → Prop}

theorem notices (h : TrafficLaw Q) {l : Link} {b : Brd} (ns : List NoticeBody) (hl : Q l b) :
    Q (ns.foldl (fun l n => queueNotice n l) l) b := by
  induction ns generalizing l with
  | nil => exact hl
  | cons n r ih => exact ih (h.notice n l b hl)

/-- Such a law is stable. -/
theorem stable (h : TrafficLaw Q) : Stable fun s => Q s.link s.brd where
  onProf _ _ hs := hs
  onFld _ _ hs := hs
  onStc _ _ hs := hs
  onGate _ _ hs := hs
  onWln _ _ hs := hs
  onMeas _ _ hs := hs
  onDiag _ _ hs := hs
  onCst _ _ _ hs := hs
  onBrd _ f hf hs := h.board f _ _ hf hs
  onLink _ f hf hs := h.link f _ _ hf hs
  freeCtr _ _ hs := hs
  notify _ b hs := h.notice b _ _ hs
  enqueueWith s k blank hs := by
    have hq := h.enqueue k blank _ _ hs
    rw [enqueueWith_brd]
    simp only [enqueueWith]
    split
    · rw [count_link]; exact h.notices _ hq
    · exact hq
  reRank_setTotal _ _ _ _ hs := hs
  reRank_setDisqualified _ _ _ hs := hs
  addToList _ _ hs := hs

theorem safe (h : TrafficLaw Q) {s : State} (hs : Q s.link s.brd) : Safe (fun s => Q s.link s.brd) s := ⟨h.stable, hs⟩

/-- A cancelled round rewrites CST's records and the ranking beside what such a law speaks of (R23, R140). -/
theorem cancelOpenRound (h : TrafficLaw Q) {s : State} (hs : Q s.link s.brd) :
    Safe (fun s => Q s.link s.brd) (cancelOpenRound s) := by
  have hflights : Safe (fun s => Q s.link s.brd) (stopFlights (s.onCst cancelRecords)) :=
    ((h.safe (s := s.onCst cancelRecords) hs).stopMeasuring.onMeas _).dropWindow
  have hfreed : ∀ (a : Option Attempt) u, Safe (fun s => Q s.link s.brd) u →
      Safe (fun s => Q s.link s.brd) (rebuildRanking (updateLight (cancelledReturn a u))) := fun a u hu => by
    cases a with
    | none => exact h.safe hu.updateLight.holds
    | some x => exact h.safe (hu.coachReturn x).updateLight.holds
  exact ((hfreed _ _ ((hflights.dropClear.stopWindow.dropHeldArm _).afterHeadChange)).announceRanking _ _).notify _

/-- RESTART clears BRD and refills its queue (R151). -/
theorem restartEffect (h : TrafficLaw Q) {s : State} (hs : Q s.link s.brd) :
    Safe (fun s => Q s.link s.brd) (restartEffect s) := by
  simp only [Machine.restartEffect, restartBoard]
  refine Safe.setLight (Safe.enqueueAll (h.safe ?_) _ _) _
  exact h.cleared _ _ (h.link restartLink _ _ (fun _ => ⟨rfl, rfl, rfl, rfl, rfl, rfl⟩) hs)

/-- What a request does keeps such a law. -/
theorem serve (h : TrafficLaw Q) {s : State} (hs : Q s.link s.brd) (i : Instr) :
    Q (serve i s).st.link (serve i s).st.brd :=
  ((h.safe hs).serve (h.cancelOpenRound hs) (h.restartEffect hs) i).holds

theorem eventEffect (h : TrafficLaw Q) {s : State} (hs : Q s.link s.brd) {i : Instr} (hi : isTraffic i = false) :
    Q (eventEffect i s).link (eventEffect i s).brd := ((h.safe hs).eventEffect hi).holds

theorem count (h : TrafficLaw Q) {s : State} (hs : Q s.link s.brd) (k : CounterKind) :
    Q (count k s).link (count k s).brd := ((h.safe hs).count k).holds

end TrafficLaw

/-! ## What a request's service leaves of LINK's traffic -/

/-- The request in hand by its kind and tag, the transmitter and the reply that waits are these. -/
def HandIs (kind tag : Option Byte) (tx : Tx) (reply : Option Reply) (l : Link) (_ : Brd) : Prop :=
  l.inHand.map InHand.kind = kind ∧ l.inHand.map InHand.tag = tag ∧ l.tx = tx ∧ l.replyWaiting = reply

theorem trafficLaw_handIs (kind tag : Option Byte) (tx : Tx) (reply : Option Reply) : TrafficLaw (HandIs kind tag tx reply) where
  notice n l b h := by
    have hcore := queueNotice_core n l
    simp only [Link.core, Link.mk.injEq] at hcore
    obtain ⟨-, -, -, -, hinHand, htx, hreply, -⟩ := hcore
    unfold HandIs
    rw [hinHand, htx, hreply]
    exact h
  enqueue _ _ _ _ h := h
  link f l b hf h := by
    obtain ⟨-, -, htx, hreply, hkind, htag⟩ := hf l
    unfold HandIs
    rw [hkind, htag, htx, hreply]
    exact h
  board _ _ _ _ h := h
  cleared _ _ h := h

/-- A block's service leaves the request in hand, the transmitter and the reply that waits. -/
theorem serve_handIs (i : Instr) (s : State) : HandIs (s.link.inHand.map InHand.kind) (s.link.inHand.map InHand.tag) s.link.tx
    s.link.replyWaiting (serve i s).st.link (serve i s).st.brd :=
  (trafficLaw_handIs _ _ _ _).serve ⟨rfl, rfl, rfl, rfl⟩ i

/-! ## The board queue -/

theorem keys_dropBackground_sublist (q : List BoardItem) : (dropBackground q).Sublist q := by
  unfold dropBackground
  split
  · exact List.eraseIdx_sublist _ _
  · exact List.drop_sublist _ _

theorem length_dropBackground_le {q : List BoardItem} (h : q.length ≤ 32) : (dropBackground q).length ≤ 31 := by
  unfold dropBackground
  split
  next n hn =>
    obtain ⟨hlt, -⟩ := List.findIdx?_eq_some_iff_getElem.mp hn
    rw [List.length_eraseIdx, if_pos hlt]
    omega
  · rw [List.length_drop]; omega

/-- An enqueue keeps the keys distinct and the queue within its 32 items (R144). -/
theorem QueueOk.enqueued {q : List BoardItem} (h : QueueOk q) (k : Key) (blank : Bool) : QueueOk (enqueued k blank q).1 := by
  obtain ⟨hnodup, hlen⟩ := h
  have happend : ∀ {r : List BoardItem}, r.Sublist q → k ∉ q.map BoardItem.key →
      ((r ++ [BoardItem.mk k blank]).map BoardItem.key).Nodup := fun {r} hr hk => by
    rw [List.map_append]
    refine List.Nodup.append (hnodup.sublist (hr.map _)) (List.nodup_singleton k) ?_
    rw [List.map_singleton, List.disjoint_singleton]
    exact fun hmem => hk ((hr.map _).mem hmem)
  by_cases hk : k ∈ q.map BoardItem.key
  · have hkeys := (anEnqueueKeepsOneItemPerKey k blank q).1 hk
    rw [QueueOk, hkeys.2.1]
    refine ⟨hnodup, ?_⟩
    rw [enqueued_of_mem blank hk, List.length_map]
    exact hlen
  · by_cases hroom : q.length < 32
    · rw [enqueued_of_room blank hk hroom]
      exact ⟨happend (List.Sublist.refl q) hk, by rw [List.length_append]; exact hroom⟩
    · rw [enqueued_of_full blank hk (Nat.not_lt.mp hroom)]
      refine ⟨happend (keys_dropBackground_sublist q) hk, ?_⟩
      rw [List.length_append]
      exact Nat.succ_le_succ (length_dropBackground_le hlen)

/-! ## The control link's own steps -/

/-- A law that every part of a step keeps: the transmitter's choice, what follows a command, the millisecond, the reset, the events
of the blocks, and LINK's own handling of frames and requests. -/
structure StepLaw (P : State → Prop) : Prop where
  pending : ∀ s cs, P s → P (s.withPending cs)
  startTx : ∀ s, P s → P (startTx s)
  settle : ∀ s, P s → P (settle s)
  time : ∀ s, P s → P (timePasses s)
  reset : ∀ cause s, P s → P (hardReset cause s)
  event : ∀ i s, isTraffic i = false → P s → P (eventEffect i s)
  linkBad : ∀ s, P s → P (linkBad s)
  assembled : ∀ s f, P s → P (assembled f s)
  rate : ∀ s rate brk, P s → P (s.onLink fun l => { l with rate := rate, brk := brk })
  take : ∀ s kind tag d, s.link.inHand = none → P s → P (takeInHand kind tag (serveDecoded d) s)
  join : ∀ s body, P s → P (joinBuffer body s)
  unbuffer : ∀ s body rest, s.link.buffer = body :: rest → P s → P (s.onLink fun l => { l with buffer := rest })
  replySent : ∀ s r status, s.link.tx = .reply r status → P s → P (s.onLink fun l => { l with tx := .idle, inHand := none })
  noticeSent : ∀ s n, s.link.tx = .notice n → P s → P (s.onLink fun l => { l with tx := .idle })
  breakEnd : ∀ s n rest, s.link.tx = .brk → s.link.notices = n :: rest → P s →
    P (s.onLink fun l => { l with tx := .notice n, notices := rest })
  breakLost : ∀ s, s.link.tx = .brk → P s → P (s.onLink fun l => { l with tx := .idle })

theorem count_tx (k : CounterKind) (s : State) : (count k s).link.tx = s.link.tx := by
  have hcore := count_link_core s k
  simp only [Link.core, Link.mk.injEq] at hcore
  tauto

/-- New link settings leave the transmitter as it is (R153). -/
theorem applyChange_tx (c : Option (Nat × Bool)) (s : State) : (applyChange c s).link.tx = s.link.tx := by
  unfold applyChange
  split
  · split
    · rfl
    · simp only []
      split
      · rfl
      · exact count_tx _ _
  · rfl

namespace StepLaw

variable {P : State → Prop} {s : State}

theorem takeNext (h : StepLaw P) (hs : P s) : P (takeNext s) := by
  unfold Machine.takeNext
  split
  next body rest hhand hbuf => exact h.take _ _ _ _ hhand (h.unbuffer _ body rest hbuf hs)
  · exact hs

theorem linkByte (h : StepLaw P) (hs : P s) (x : RxChar) : P (linkByte s x) := by
  unfold Machine.linkByte
  split
  · split
    · exact h.assembled _ _ hs
    · exact h.linkBad _ hs
  · split
    · exact h.assembled _ _ hs
    · exact h.linkBad _ hs
  · simp only []
    split
    · exact h.assembled _ _ hs
    · unfold judgeFrame
      split
      · exact h.takeNext (h.join _ _ (h.assembled _ [] hs))
      · exact h.linkBad _ hs

theorem linkBytes (h : StepLaw P) (hs : P s) (xs : List RxChar) : P (linkBytes xs s) := by
  induction xs generalizing s with
  | nil => exact hs
  | cons x r ih => exact ih (h.linkByte hs x)

theorem gapEnded (h : StepLaw P) (hs : P s) (x : RxChar) : P (gapEnded x s) := by
  unfold Machine.gapEnded
  split
  · exact h.linkByte hs x
  · exact h.linkByte (h.linkBad _ hs) x

theorem applyChange (h : StepLaw P) (hs : P s) (c : Option (Nat × Bool)) : P (applyChange c s) := by
  unfold Machine.applyChange
  split
  next rate brk =>
    split
    · exact hs
    · simp only []
      split
      · exact h.rate _ rate brk hs
      · exact h.linkBad _ (h.rate _ rate brk hs)
  · exact hs

theorem replyEnded (h : StepLaw P) (hs : P s) : P (replyEnded s) := by
  unfold Machine.replyEnded
  split
  next r status htx => exact h.takeNext (h.replySent _ r status ((applyChange_tx _ s).trans htx) (h.applyChange hs _))
  all_goals exact hs

theorem noticeEnded (h : StepLaw P) (hs : P s) : P (noticeEnded s) := by
  unfold Machine.noticeEnded
  split
  next n htx => exact h.noticeSent _ n htx hs
  all_goals exact hs

theorem breakEnded (h : StepLaw P) (hs : P s) : P (breakEnded s) := by
  unfold Machine.breakEnded
  split
  next htx =>
    split
    next n rest hn => exact h.breakEnd _ n rest htx hn hs
    · exact h.breakLost _ htx hs
  all_goals exact hs

theorem anyEvent (h : StepLaw P) (hs : P s) (i : Instr) : P (eventEffect i s) := by
  cases hi : isTraffic i with
  | false => exact h.event i s hi hs
  | true =>
    cases i with
    | frameReceived chars => exact h.linkBytes hs chars
    | linkGap c => exact h.gapEnded hs c
    | replySent => exact h.replyEnded hs
    | noticeSent => exact h.noticeEnded hs
    | breakEnd => exact h.breakEnded hs
    | controlByteDiscarded c => exact h.linkByte hs c
    | _ => cases hi

theorem request (h : StepLaw P) (hs : P s) (i : Instr) (kind tag : Byte) (body : List Byte) :
    P (requestEffect kind tag body (Machine.serve i) s) := by
  unfold requestEffect
  split
  next hhand => exact h.take s kind tag (.cmd i) hhand hs
  · exact h.join s body hs

/-- Such a law is kept by every step. -/
theorem kept (h : StepLaw P) : Kept P :=
  kept_of_parts h.pending h.startTx h.settle h.time h.reset (fun i kind tag _ _ _ hs => h.request hs i kind tag _)
    (fun i _ hs => h.anyEvent hs i)

end StepLaw

/-- A law that LINK and BRD do not touch is kept by every step when the millisecond, a reset, the service of a request and the
events of the blocks keep it. -/
theorem stepLaw_of_records {P : State → Prop} (hlink : ∀ s f, P s → P (s.onLink f)) (hbrd : ∀ s f, P s → P (s.onBrd f))
    (hdiag : ∀ s f, P s → P (s.onDiag f)) (hpending : ∀ s cs, P s → P (s.withPending cs)) (htime : ∀ s, P s → P (timePasses s))
    (hreset : ∀ cause s, P s → P (hardReset cause s)) (hserve : ∀ i s, P s → P (serve i s).st)
    (hevent : ∀ i s, isTraffic i = false → P s → P (eventEffect i s)) : StepLaw P := by
  have hstart : ∀ s, P s → P (startTx s) := fun s hs => by
    unfold startTx
    repeat' split
    exacts [hlink _ _ hs, hlink _ _ hs, hlink _ _ hs, hs, hs, hs, hs]
  have hframe : ∀ s, P s → P (beginFrame s) := fun s hs => by
    unfold beginFrame
    repeat' split
    exacts [hbrd _ _ hs, hs, hs]
  have hstall : ∀ s, P s → P (stallRule s) := fun s hs => by
    unfold stallRule
    repeat' split
    exacts [hbrd _ _ hs, hs, hbrd _ _ hs]
  have hcount : ∀ k s, P s → P (count k s) := fun k s hs => by
    simp only [count]
    repeat' split
    exacts [hlink _ _ (hlink _ _ (hdiag _ _ hs)), hlink _ _ (hdiag _ _ hs), hlink _ _ (hdiag _ _ hs), hdiag _ _ hs]
  exact {
    pending := hpending
    startTx := hstart
    settle := fun s hs => hstart _ (hstall _ (hframe _ hs))
    time := htime
    reset := hreset
    event := hevent
    linkBad := fun s hs => hcount _ _ (hlink _ _ hs)
    assembled := fun s f hs => hlink _ _ hs
    rate := fun s _ _ hs => hlink _ _ hs
    take := fun s kind tag d _ hs => by
      have htaken : P (s.onLink fun l => { l with inHand := some { kind, tag, change := none } }) := hlink _ _ hs
      unfold takeInHand
      refine hlink _ _ ?_
      cases d with
      | cmd i => exact hserve i _ htaken
      | refuse _ _ _ => exact htaken
    join := fun s _ hs => hlink _ _ hs
    unbuffer := fun s _ _ _ hs => hlink _ _ hs
    replySent := fun s _ _ _ hs => hlink _ _ hs
    noticeSent := fun s _ _ hs => hlink _ _ hs
    breakEnd := fun s _ _ _ _ hs => hlink _ _ hs
    breakLost := fun s _ hs => hlink _ _ hs }

/-- A law about LINK and BRD that the transmitter, the receiver, the beginning of a frame, and the taking of a request keep too. -/
structure WireLaw (Q : Link → Brd → Prop) : Prop extends TrafficLaw Q where
  startTx : ∀ s, Q s.link s.brd → Q (startTx s).link s.brd
  beginFrame : ∀ s, Q s.link s.brd → Q s.link (beginFrame s).brd
  take : ∀ kind tag d s, s.link.inHand = none → Q s.link s.brd →
    Q (takeInHand kind tag (serveDecoded d) s).link (takeInHand kind tag (serveDecoded d) s).brd
  join : ∀ body s, Q s.link s.brd → Q (joinBuffer body s).link s.brd
  unbuffer : ∀ l b body rest, l.buffer = body :: rest → Q l b → Q { l with buffer := rest } b
  replySent : ∀ l b r status, l.tx = .reply r status → Q l b → Q { l with tx := .idle, inHand := none } b
  noticeSent : ∀ l b n, l.tx = .notice n → Q l b → Q { l with tx := .idle } b
  breakEnd : ∀ l b n rest, l.tx = .brk → l.notices = n :: rest → Q l b → Q { l with tx := .notice n, notices := rest } b
  breakLost : ∀ l b, l.tx = .brk → Q l b → Q { l with tx := .idle } b
  reset : ∀ ready n, Q (queueNotice n linkReset) (brdReset ready)

namespace WireLaw

variable {Q : Link → Brd → Prop} {s : State}

theorem settle (h : WireLaw Q) (hs : Q s.link s.brd) : Q (settle s).link (settle s).brd := by
  have hframe : Q (Machine.startTx s).link (Machine.beginFrame s).brd := by
    have hstarted := h.startTx (Machine.beginFrame s) (by rw [beginFrame_link]; exact h.beginFrame s hs)
    have hlink : (Machine.startTx (Machine.beginFrame s)).link = (Machine.startTx s).link := by
      have hstatus : statusByte (Machine.beginFrame s) = statusByte s := by simp [statusByte]
      unfold Machine.startTx
      rw [beginFrame_link, hstatus]
      repeat' split
      all_goals simp_all
    rw [← hlink]
    exact hstarted
  rw [settle_link, settle_brd]
  unfold stallRule
  split
  · split
    · exact h.board (fun b => { b with stallTimer := some 10000 }) _ _ (fun _ => ⟨rfl, rfl⟩) hframe
    · exact hframe
  · exact h.board (fun b => { b with stallTimer := none }) _ _ (fun _ => ⟨rfl, rfl⟩) hframe

theorem assembled (h : WireLaw Q) (hs : Q s.link s.brd) (f : List RxChar) : Q (assembled f s).link (assembled f s).brd :=
  h.link (fun l => { l with asm := f }) _ _ (fun _ => ⟨rfl, rfl, rfl, rfl, rfl, rfl⟩) hs

theorem hardReset (h : WireLaw Q) (cause : ResetCause) (s : State) : Q (hardReset cause s).link (hardReset cause s).brd := by
  obtain ⟨f, ready, hu, -⟩ := applyProfile_freshState s
  obtain ⟨w, hw, -⟩ := beginPolling_wln (s := applyProfile (freshState s)) (by rw [hu]; rfl)
  rw [Machine.hardReset, hw, hu]
  exact h.reset ready _

/-- Such a law is kept by every part of a step. -/
theorem stepLaw (h : WireLaw Q) : StepLaw fun s => Q s.link s.brd where
  pending _ _ hs := hs
  startTx s hs := by rw [startTx_brd]; exact h.startTx s hs
  settle _ hs := h.settle hs
  time s hs := h.board tickBrd _ _ (fun _ => ⟨rfl, rfl⟩) (h.link tickLink _ _ (fun _ => ⟨rfl, rfl, rfl, rfl, rfl, rfl⟩) hs)
  reset cause s _ := h.hardReset cause s
  event _ _ hi hs := h.eventEffect hs hi
  linkBad s hs := h.count (s := Machine.assembled [] s) (h.assembled hs []) .linkBad
  assembled _ f hs := h.assembled hs f
  rate s rate brk hs := h.link (fun l => { l with rate := rate, brk := brk }) _ _ (fun _ => ⟨rfl, rfl, rfl, rfl, rfl, rfl⟩) hs
  take s kind tag d hhand hs := h.take kind tag d s hhand hs
  join s body hs := h.join body s hs
  unbuffer s body rest hbuf hs := h.unbuffer _ _ body rest hbuf hs
  replySent s r status htx hs := h.replySent _ _ r status htx hs
  noticeSent s n htx hs := h.noticeSent _ _ n htx hs
  breakEnd s n rest htx hn hs := h.breakEnd _ _ n rest htx hn hs
  breakLost s htx hs := h.breakLost _ _ htx hs

end WireLaw

/-- The request that is taken in hand is served beside the request in hand: its reply then waits (R155). -/
theorem takeInHand_handIs (kind tag : Byte) (d : Decoded) (s : State) :
    ∃ l r, (takeInHand kind tag (serveDecoded d) s).link = { l with replyWaiting := some r } ∧ r.kind = replyKind kind
      ∧ r.tag = tag ∧ HandIs (some kind) (some tag) s.link.tx s.link.replyWaiting l s.brd := by
  refine ⟨_, _, rfl, rfl, rfl, ?_⟩
  cases d with
  | cmd i => exact serve_handIs i _
  | refuse _ _ _ => exact ⟨rfl, rfl, rfl, rfl⟩

/-- A law that the request in hand and the reply that waits do not touch is kept where a request is taken in hand. -/
theorem TrafficLaw.take {Q : Link → Brd → Prop} (h : TrafficLaw Q) (hhand : ∀ l b x, Q l b → Q { l with inHand := x } b)
    (hreply : ∀ l b x, Q l b → Q { l with replyWaiting := x } b) (kind tag : Byte) (d : Decoded) {s : State}
    (hs : Q s.link s.brd) : Q (takeInHand kind tag (serveDecoded d) s).link (takeInHand kind tag (serveDecoded d) s).brd := by
  let hand : InHand := { kind, tag, change := none }
  have htaken := hhand s.link s.brd (some hand) hs
  refine hreply _ _ _ ?_
  cases d with
  | cmd i => exact h.serve (s := s.onLink fun l => { l with inHand := some hand }) htaken i
  | refuse _ _ _ => exact htaken

/-! ## The three laws -/

theorem startTx_notices_sublist (s : State) : (startTx s).link.notices.Sublist s.link.notices := by
  unfold startTx
  repeat' split
  all_goals simp_all

theorem queue_beginFrame_sublist (s : State) : (beginFrame s).brd.queue.Sublist s.brd.queue := by
  unfold beginFrame
  repeat' split
  all_goals simp [List.erase_sublist]

theorem QueueOk.sublist {q r : List BoardItem} (h : QueueOk q) (hr : r.Sublist q) : QueueOk r :=
  ⟨h.1.sublist (hr.map _), hr.length_le.trans h.2⟩

theorem LinkOk.queueNotice {l : Link} (h : LinkOk l) (n : NoticeBody) : LinkOk (queueNotice n l) := by
  obtain ⟨hnotices, hbuffer⟩ := h
  unfold Machine.queueNotice
  split
  · split
    next hroom => exact ⟨by rw [List.length_append]; exact hroom, hbuffer⟩
    · exact ⟨hnotices, hbuffer⟩
  · exact ⟨hnotices, hbuffer⟩

/-- The capacities of the queues, as a law about LINK and BRD. -/
theorem wireLaw_queues : WireLaw fun l b => QueueOk b.queue ∧ LinkOk l := by
  have htraffic : TrafficLaw fun l b => QueueOk b.queue ∧ LinkOk l := {
    notice := fun n l b ⟨hq, hl⟩ => ⟨hq, LinkOk.queueNotice hl n⟩
    enqueue := fun k blank l b ⟨hq, hl⟩ => ⟨QueueOk.enqueued hq k blank, hl⟩
    link := fun f l b hf ⟨hq, hl⟩ => by
      obtain ⟨hnotices, hbuffer, -⟩ := hf l
      exact ⟨hq, by rw [LinkOk, hnotices, hbuffer]; exact hl⟩
    board := fun f l b hf ⟨hq, hl⟩ => ⟨by rw [(hf b).1]; exact hq, hl⟩
    cleared := fun l b ⟨_, hl⟩ => ⟨⟨List.nodup_nil, by simp⟩, hl⟩ }
  exact {
    toTrafficLaw := htraffic
    startTx := fun s ⟨hq, hnotices, hbuffer⟩ =>
      ⟨hq, (startTx_notices_sublist s).length_le.trans hnotices, by rw [(startTx_kept s).1.2.2.2.1]; exact hbuffer⟩
    beginFrame := fun s ⟨hq, hl⟩ => ⟨QueueOk.sublist hq (queue_beginFrame_sublist s), hl⟩
    take := fun kind tag d s _ hs => htraffic.take (fun _ _ _ h => h) (fun _ _ _ h => h) kind tag d hs
    join := fun body s ⟨hq, hnotices, hbuffer⟩ => by
      simp only [joinBuffer, State.onLink_link]
      split
      next hroom => exact ⟨hq, hnotices, by rw [List.length_append]; exact hroom⟩
      · exact ⟨hq, hnotices, hbuffer⟩
    unbuffer := fun l b body rest hbuf ⟨hq, hnotices, hbuffer⟩ => by
      rw [hbuf] at hbuffer
      exact ⟨hq, hnotices, Nat.le_of_succ_le hbuffer⟩
    replySent := fun _ _ _ _ _ h => h
    noticeSent := fun _ _ _ _ h => h
    breakEnd := fun l b n rest _ hn ⟨hq, hnotices, hbuffer⟩ => by
      rw [hn] at hnotices
      exact ⟨hq, Nat.le_of_succ_le hnotices, hbuffer⟩
    breakLost := fun _ _ _ h => h
    reset := fun ready n => ⟨⟨List.nodup_nil, Nat.zero_le 32⟩, LinkOk.queueNotice ⟨by decide, by decide⟩ n⟩ }

/-- The law of the request in hand and its reply, read from LINK alone. -/
def HandLaw (l : Link) : Prop :=
  match l.inHand with
  | none => l.replyWaiting = none ∧ ∀ r status, l.tx ≠ .reply r status
  | some h =>
    (∃ r, l.replyWaiting = some r ∧ r.tag = h.tag ∧ r.kind = replyKind h.kind ∧ ∀ x y, l.tx ≠ .reply x y) ∨
      (l.replyWaiting = none ∧ ∃ r status, l.tx = .reply r status ∧ r.tag = h.tag ∧ r.kind = replyKind h.kind)

theorem handOk_iff (s : State) : HandOk s ↔ HandLaw s.link := by
  unfold HandOk HandLaw Free
  cases s.link.inHand <;> simp

/-- The law reads the request in hand by its kind and tag. -/
theorem HandLaw.congr {l m : Link} (h : HandLaw l) (hkind : m.inHand.map InHand.kind = l.inHand.map InHand.kind)
    (htag : m.inHand.map InHand.tag = l.inHand.map InHand.tag) (htx : m.tx = l.tx) (hreply : m.replyWaiting = l.replyWaiting) :
    HandLaw m := by
  unfold HandLaw at h ⊢
  rw [htx, hreply]
  cases hl : l.inHand <;> cases hm : m.inHand <;> simp_all

/-- The transmitter's choice sends the reply that waits, or a notice where none waits. -/
theorem HandLaw.startTx {s : State} (h : HandLaw s.link) : HandLaw (startTx s).link := by
  unfold Machine.startTx HandLaw at *
  cases hhand : s.link.inHand <;> simp only [hhand] at h <;> repeat' split
  all_goals simp_all

/-- With nothing in hand no reply waits or is being sent (R155). -/
theorem HandLaw.free {l : Link} (h : HandLaw l) (hhand : l.inHand = none) :
    l.replyWaiting = none ∧ ∀ r status, l.tx ≠ .reply r status := by
  unfold HandLaw at h
  rw [hhand] at h
  exact h

/-- While a reply is being sent, none waits. -/
theorem HandLaw.replying {l : Link} {r : Reply} {status : BitVec 8} (h : HandLaw l) (htx : l.tx = .reply r status) :
    l.replyWaiting = none := by
  unfold HandLaw at h
  split at h
  · exact h.1
  · obtain ⟨_, -, -, -, hno⟩ | ⟨hnone, -⟩ := h
    · exact absurd htx (hno r status)
    · exact hnone

/-- What the transmitter sends beside replies is of no matter to the law. -/
theorem HandLaw.sending {l : Link} (h : HandLaw l) (htx : ∀ r status, l.tx ≠ .reply r status) {tx : Tx}
    (htx' : ∀ r status, tx ≠ .reply r status) (notices : List Notice) : HandLaw { l with tx, notices } := by
  unfold HandLaw at *
  cases hhand : l.inHand <;> simp only [hhand] at h ⊢
  · exact ⟨h.1, htx'⟩
  · obtain ⟨r, hr, htag, hkind, -⟩ | ⟨-, r, status, hreply, -⟩ := h
    · exact .inl ⟨r, hr, htag, hkind, htx'⟩
    · exact absurd hreply (htx r status)

theorem wireLaw_hand : WireLaw fun l _ => HandLaw l where
  notice n l _ h := by
    have hcore := queueNotice_core n l
    simp only [Link.core, Link.mk.injEq] at hcore
    obtain ⟨-, -, -, -, hinHand, htx, hreply, -⟩ := hcore
    exact h.congr (by rw [hinHand]) (by rw [hinHand]) htx hreply
  enqueue _ _ _ _ h := h
  link f l _ hf h := by
    obtain ⟨-, -, htx, hreply, hkind, htag⟩ := hf l
    exact h.congr hkind htag htx hreply
  board _ _ _ _ h := h
  cleared _ _ h := h
  startTx _ h := h.startTx
  beginFrame _ h := h
  take kind tag d s hhand h := by
    obtain ⟨hwaiting, hidle⟩ := h.free hhand
    obtain ⟨l, r, hl, hkind, htag, hlkind, hltag, hltx, -⟩ := takeInHand_handIs kind tag d s
    rw [hl]
    obtain ⟨x, hx, rfl⟩ := Option.map_eq_some_iff.mp hlkind
    obtain rfl : x.tag = tag := by rw [hx] at hltag; exact Option.some.inj hltag
    unfold HandLaw
    simp only [hx]
    exact .inl ⟨r, rfl, htag, hkind, by rw [hltx]; exact hidle⟩
  join body s h := by
    simp only [joinBuffer, State.onLink_link]
    split
    · exact h
    · exact h
  unbuffer _ _ _ _ _ h := h
  replySent _ _ _ _ htx h := ⟨h.replying htx, fun _ _ => by simp⟩
  noticeSent _ _ n htx h := h.sending (fun _ _ => by simp [htx]) (fun _ _ => by simp) _
  breakEnd _ _ n rest htx _ h := h.sending (fun _ _ => by simp [htx]) (fun _ _ => by simp) _
  breakLost _ _ htx h := h.sending (fun _ _ => by simp [htx]) (fun _ _ => by simp) _
  reset _ n := by
    have hcore := queueNotice_core n linkReset
    simp only [Link.core, Link.mk.injEq] at hcore
    obtain ⟨-, -, -, -, hinHand, htx, hreply, -⟩ := hcore
    unfold HandLaw
    rw [hinHand, htx, hreply]
    exact ⟨rfl, fun _ _ => by simp [linkReset]⟩

theorem wireLaw_messages : WireLaw fun _ b => b.messages.length = 16 := by
  have htraffic : TrafficLaw fun _ b => b.messages.length = 16 := {
    notice := fun _ _ _ h => h
    enqueue := fun _ _ _ _ h => h
    link := fun _ _ _ _ h => h
    board := fun f l b hf h => (hf b).2.trans h
    cleared := fun _ _ _ => List.length_replicate }
  exact {
    toTrafficLaw := htraffic
    startTx := fun _ h => h
    beginFrame := fun s h => by rw [(beginFrame_core s).1]; exact h
    take := fun kind tag d s _ hs => htraffic.take (fun _ _ _ h => h) (fun _ _ _ h => h) kind tag d hs
    join := fun _ _ h => h
    unbuffer := fun _ _ _ _ _ h => h
    replySent := fun _ _ _ _ _ h => h
    noticeSent := fun _ _ _ _ h => h
    breakEnd := fun _ _ _ _ _ _ h => h
    breakLost := fun _ _ _ h => h
    reset := fun _ _ => List.length_replicate }

/-- Settles O6: each of the three is a law about LINK and BRD that every part of a step keeps. -/
theorem queuesKeepTheirCapacities : Obligations.QueuesKeepTheirCapacities := by
  refine ⟨wireLaw_queues.stepLaw.kept, ?_, wireLaw_messages.stepLaw.kept⟩
  have hkept := wireLaw_hand.stepLaw.kept
  simp only [← handOk_iff] at hkept
  exact hkept

end Sys2Proof.Machine

/-! PROOFS. The ranking list stays complete, without doubles and in order (R133, R134, R135, R140). -/

namespace Sys2Proof.Machine

/-! ## The order of two competitors (R134) -/

theorem ranksBefore_trans {a b c : Competitor} (hab : ranksBefore a b = true) (hbc : ranksBefore b c = true) :
    ranksBefore a c = true := by
  unfold ranksBefore at *
  cases ha : a.disqualified <;> cases hb : b.disqualified <;> cases hc : c.disqualified <;> simp_all <;> omega

/-- Two competitors with different bibs stand in one order or the other. -/
theorem ranksBefore_total {a b : Competitor} (hne : a.bib ≠ b.bib) (hab : ranksBefore a b = false) :
    ranksBefore b a = true := by
  unfold ranksBefore at *
  cases ha : a.disqualified <;> cases hb : b.disqualified <;> simp_all <;> omega

/-! ## Records by their bib (R30) -/

/-- The directory holds each bib once. -/
def BibsOnce (dir : List Competitor) : Prop := (dir.map Competitor.bib).Nodup

theorem findBib_mem {dir : List Competitor} {b : Nat} {c : Competitor} (h : findBib dir b = some c) : c ∈ dir ∧ c.bib = b := by
  unfold findBib at h
  exact ⟨List.mem_of_find?_eq_some h, by simpa using List.find?_some h⟩

theorem findBib_eq_some_iff {dir : List Competitor} (hdir : BibsOnce dir) {b : Nat} {c : Competitor} :
    findBib dir b = some c ↔ c ∈ dir ∧ c.bib = b := by
  refine ⟨findBib_mem, fun ⟨hmem, hbib⟩ => ?_⟩
  cases hfind : findBib dir b with
  | none =>
    have hnone := List.find?_eq_none.mp hfind c hmem
    simp [hbib] at hnone
  | some d =>
    obtain ⟨hd, hdbib⟩ := findBib_mem hfind
    rw [List.inj_on_of_nodup_map hdir hd hmem (hdbib.trans hbib.symm)]

/-- A change of records that keeps their bibs changes the record that a bib finds. -/
theorem findBib_map {dir : List Competitor} {g : Competitor → Competitor} (hg : ∀ c, (g c).bib = c.bib) (b : Nat) :
    findBib (dir.map g) b = (findBib dir b).map g := by
  have hcomp : (fun c : Competitor => c.bib == b) ∘ g = fun c => c.bib == b := by
    funext c
    simp [hg]
  rw [findBib, List.find?_map, hcomp]
  rfl

theorem bibsOnce_map {dir : List Competitor} {g : Competitor → Competitor} (hg : ∀ c, (g c).bib = c.bib) (h : BibsOnce dir) :
    BibsOnce (dir.map g) := by
  have hcomp : Competitor.bib ∘ g = Competitor.bib := funext hg
  rw [BibsOnce, List.map_map, hcomp]
  exact h

/-! ## The ranking list of a directory -/

/-- A list of bibs ranks a directory: the qualifying bibs, each once, in the order of R134. -/
structure Ranks (dir : List Competitor) (r : List Nat) : Prop where
  nodup : r.Nodup
  mem : ∀ b, b ∈ r ↔ ∃ c, findBib dir b = some c ∧ qualifies c = true
  sorted : r.Pairwise (InOrder dir)

theorem rankingOk_iff (s : State) : RankingOk s ↔ BibsOnce s.cst.directory ∧ Ranks s.cst.directory s.scr.ranking := by
  have hmem : BibsOnce s.cst.directory → ∀ b, (∃ c ∈ s.cst.directory, c.bib = b ∧ qualifies c = true) ↔
      ∃ c, findBib s.cst.directory b = some c ∧ qualifies c = true := fun hdir b => by
    simp only [findBib_eq_some_iff hdir, and_assoc]
  constructor
  · rintro ⟨hdir, hnodup, hm, hsorted⟩
    exact ⟨hdir, hnodup, fun b => (hm b).trans (hmem hdir b), hsorted⟩
  · rintro ⟨hdir, hnodup, hm, hsorted⟩
    exact ⟨hdir, hnodup, fun b => (hm b).trans (hmem hdir b).symm, hsorted⟩

/-! ## Insertion (R135) -/

theorem insertRanked_perm (dir : List Competitor) (c : Competitor) (r : List Nat) : (insertRanked dir c r).Perm (c.bib :: r) := by
  induction r with
  | nil => exact List.Perm.refl _
  | cons b r ih =>
    unfold insertRanked
    split
    · split
      · exact List.Perm.refl _
      · exact (ih.cons b).trans (List.Perm.swap _ _ _)
    · exact (ih.cons b).trans (List.Perm.swap _ _ _)

/-- An insertion keeps the order (R135). -/
theorem insertRanked_sorted {dir : List Competitor} {c : Competitor} (hc : findBib dir c.bib = some c) {r : List Nat}
    (hnew : c.bib ∉ r) (hr : r.Pairwise (InOrder dir)) : (insertRanked dir c r).Pairwise (InOrder dir) := by
  induction r with
  | nil => exact List.pairwise_singleton _ _
  | cons b r ih =>
    obtain ⟨hb, hr⟩ := List.pairwise_cons.mp hr
    obtain ⟨hne, hnew⟩ : c.bib ≠ b ∧ c.bib ∉ r := by simpa using hnew
    have hlater : InOrder dir b c.bib → (b :: insertRanked dir c r).Pairwise (InOrder dir) := fun hbc => by
      refine List.pairwise_cons.mpr ⟨fun x hx => ?_, ih hnew hr⟩
      obtain rfl | hx := List.mem_cons.mp ((insertRanked_perm dir c r).mem_iff.mp hx)
      · exact hbc
      · exact hb x hx
    unfold insertRanked
    split
    next d hd =>
      split
      next hcd =>
        have hfirst : InOrder dir c.bib b := fun x y hx hy => by
          rw [hc] at hx; rw [hd] at hy
          cases hx; cases hy
          exact hcd
        refine List.pairwise_cons.mpr ⟨fun x hx => ?_, List.pairwise_cons.mpr ⟨hb, hr⟩⟩
        obtain rfl | hx := List.mem_cons.mp hx
        · exact hfirst
        · exact fun u v hu hv => ranksBefore_trans (hfirst u d hu hd) (hb x hx d v hd hv)
      next hcd =>
        refine hlater fun x y hx hy => ?_
        rw [hd] at hx; rw [hc] at hy
        cases hx; cases hy
        exact ranksBefore_total (by rw [(findBib_mem hd).2]; exact hne) (Bool.eq_false_iff.mpr hcd)
    next hnone => exact hlater fun x _ hx _ => by rw [hnone] at hx; cases hx

/-- A list that ranks the directory but for a bib, which it lacks, ranks it once a qualifying record of that bib is inserted. -/
theorem Ranks.insert {dir : List Competitor} {c : Competitor} {r : List Nat} (hc : findBib dir c.bib = some c)
    (hq : qualifies c = true) (hnew : c.bib ∉ r) (hnodup : r.Nodup) (hsorted : r.Pairwise (InOrder dir))
    (hmem : ∀ b, b ≠ c.bib → (b ∈ r ↔ ∃ d, findBib dir b = some d ∧ qualifies d = true)) :
    Ranks dir (insertRanked dir c r) where
  nodup := (insertRanked_perm dir c r).nodup_iff.mpr (List.nodup_cons.mpr ⟨hnew, hnodup⟩)
  mem b := by
    rw [(insertRanked_perm dir c r).mem_iff, List.mem_cons]
    by_cases hb : b = c.bib
    · subst hb
      exact ⟨fun _ => ⟨c, hc, hq⟩, fun _ => .inl rfl⟩
    · rw [← hmem b hb]
      exact ⟨fun h => h.resolve_left hb, .inr⟩
  sorted := insertRanked_sorted hc hnew hsorted

/-- A re-ranking after a change of one competitor's record (R135). -/
theorem Ranks.reRanked {dir : List Competitor} {r : List Nat} (h : Ranks dir r) (bib : Nat) {g : Competitor → Competitor}
    (hg : ∀ c, (g c).bib = c.bib) :
    Ranks (dir.map fun c => if c.bib = bib then g c else c)
      (reRanked (dir.map fun c => if c.bib = bib then g c else c) bib r) := by
  have hbibs : ∀ c : Competitor, (if c.bib = bib then g c else c).bib = c.bib := fun c => by split <;> simp [hg]
  have hother : ∀ b, b ≠ bib → findBib (dir.map fun c => if c.bib = bib then g c else c) b = findBib dir b := fun b hb => by
    rw [findBib_map hbibs]
    cases hfind : findBib dir b with
    | none => rfl
    | some c => simp [(findBib_mem hfind).2, hb]
  have hnew : bib ∉ r.filter fun b => b != bib := by simp
  have hsorted : (r.filter fun b => b != bib).Pairwise
      (InOrder (dir.map fun c => if c.bib = bib then g c else c)) := by
    refine (h.sorted.filter _).imp_of_mem fun {a b} ha hb hab => ?_
    have hane : a ≠ bib := by simpa using (List.mem_filter.mp ha).2
    have hbne : b ≠ bib := by simpa using (List.mem_filter.mp hb).2
    unfold InOrder
    rw [hother a hane, hother b hbne]
    exact hab
  have hmem : ∀ b, b ≠ bib → ((b ∈ r.filter fun b => b != bib) ↔
      ∃ d, findBib (dir.map fun c => if c.bib = bib then g c else c) b = some d ∧ qualifies d = true) := fun b hb => by
    rw [hother b hb, ← h.mem b]
    simp [hb]
  have hout : (∀ d, findBib (dir.map fun c => if c.bib = bib then g c else c) bib = some d → qualifies d = false) →
      Ranks (dir.map fun c => if c.bib = bib then g c else c) (r.filter fun b => b != bib) := fun hno =>
    ⟨h.nodup.filter _, fun b => by
      by_cases hb : b = bib
      · subst hb
        refine ⟨fun hin => absurd hin hnew, fun ⟨d, hd, hq⟩ => ?_⟩
        rw [hno d hd] at hq
        cases hq
      · exact hmem b hb, hsorted⟩
  unfold Machine.reRanked
  split
  next c hc =>
    split
    next hq =>
      obtain rfl := (findBib_mem hc).2
      exact Ranks.insert hc hq hnew (h.nodup.filter _) hsorted hmem
    next hq =>
      refine hout fun d hd => ?_
      rw [hc] at hd
      cases hd
      exact Bool.eq_false_iff.mpr hq
  next hnone =>
    refine hout fun d hd => ?_
    rw [hnone] at hd
    cases hd

/-! ## The whole list anew (R140), and new entries (R26) -/

/-- The list built from a directory record by record ranks the records taken so far. -/
theorem ranks_foldl_insert {dir : List Competitor} (hdir : BibsOnce dir) (todo done : List Competitor) (h : dir = done ++ todo)
    {r : List Nat} (hnodup : r.Nodup) (hmem : ∀ b, b ∈ r ↔ ∃ c ∈ done, c.bib = b ∧ qualifies c = true)
    (hsorted : r.Pairwise (InOrder dir)) :
    Ranks dir (todo.foldl (fun r c => if qualifies c then insertRanked dir c r else r) r) := by
  induction todo generalizing done r with
  | nil =>
    obtain rfl : dir = done := by simpa using h
    refine ⟨hnodup, fun b => ?_, hsorted⟩
    simp only [hmem b, findBib_eq_some_iff hdir, List.foldl_nil, and_assoc]
  | cons c todo ih =>
    have hsplit : dir = (done ++ [c]) ++ todo := by simpa using h
    have hc : findBib dir c.bib = some c := (findBib_eq_some_iff hdir).mpr ⟨by rw [h]; simp, rfl⟩
    rw [List.foldl_cons]
    split
    next hq =>
      have hnew : c.bib ∉ r := fun hin => by
        obtain ⟨d, hd, hdbib, -⟩ := (hmem c.bib).mp hin
        have hdisjoint := hdir
        rw [h, BibsOnce, List.map_append, List.map_cons] at hdisjoint
        exact List.disjoint_of_nodup_append hdisjoint (List.mem_map_of_mem hd) (by rw [hdbib]; exact List.mem_cons_self)
      refine ih (done ++ [c]) hsplit ((insertRanked_perm dir c r).nodup_iff.mpr (List.nodup_cons.mpr ⟨hnew, hnodup⟩))
        (fun b => ?_) (insertRanked_sorted hc hnew hsorted)
      rw [(insertRanked_perm dir c r).mem_iff, List.mem_cons, hmem b]
      simp only [List.mem_append, List.mem_singleton, or_and_right, exists_or, exists_eq_left]
      constructor
      · rintro (rfl | hin)
        · exact .inr ⟨rfl, hq⟩
        · exact .inl hin
      · rintro (hin | ⟨rfl, -⟩)
        · exact .inr hin
        · exact .inl rfl
    next hq =>
      refine ih (done ++ [c]) hsplit hnodup (fun b => ?_) hsorted
      rw [hmem b]
      simp only [List.mem_append, List.mem_singleton, or_and_right, exists_or, exists_eq_left]
      exact ⟨.inl, fun hin => hin.resolve_right fun hout => hq hout.2⟩

theorem ranks_rankingOf {dir : List Competitor} (hdir : BibsOnce dir) : Ranks dir (rankingOf dir) :=
  ranks_foldl_insert hdir dir [] rfl List.nodup_nil (fun b => by simp) List.Pairwise.nil

/-- A change that leaves what the order looks at leaves the ranking. -/
theorem Ranks.map {dir : List Competitor} {r : List Nat} (h : Ranks dir r) {g : Competitor → Competitor}
    (hg : ∀ c, (g c).bib = c.bib ∧ (g c).disqualified = c.disqualified ∧ (g c).totals = c.totals) : Ranks (dir.map g) r := by
  have hfind := fun b => findBib_map (dir := dir) (fun c => (hg c).1) b
  have hqualifies : ∀ c, qualifies (g c) = qualifies c := fun c => by simp [qualifies, hg c]
  refine ⟨h.nodup, fun b => ?_, h.sorted.imp fun {a b} hab x y hx hy => ?_⟩
  · rw [h.mem b, hfind b]
    simp [hqualifies]
  · rw [hfind] at hx hy
    obtain ⟨u, hu, rfl⟩ := Option.map_eq_some_iff.mp hx
    obtain ⟨v, hv, rfl⟩ := Option.map_eq_some_iff.mp hy
    have hbefore := hab u v hu hv
    simp only [ranksBefore, rankingTotal, hg] at hbefore ⊢
    exact hbefore

/-- A new competitor without a total is ranked nowhere. -/
theorem Ranks.append {dir : List Competitor} {r : List Nat} (h : Ranks dir r) {c : Competitor}
    (hq : qualifies c = false) : Ranks (dir ++ [c]) r := by
  have hfind : ∀ b, findBib (dir ++ [c]) b = (findBib dir b).or (if c.bib = b then some c else none) := fun b => by
    rw [findBib, List.find?_append]
    simp [findBib, List.find?_cons]
    split <;> simp_all
  have hsame : ∀ b d, qualifies d = true ∧ findBib (dir ++ [c]) b = some d ↔ qualifies d = true ∧ findBib dir b = some d := by
    intro b d
    rw [hfind b]
    cases hb : findBib dir b with
    | some x => simp
    | none =>
      simp only [Option.none_or, reduceCtorEq, and_false, iff_false, not_and]
      intro hd hif
      split at hif <;> simp_all
  have hin : ∀ b ∈ r, findBib (dir ++ [c]) b = findBib dir b := fun b hb => by
    obtain ⟨d, hd, -⟩ := (h.mem b).mp hb
    rw [hfind b, hd]
    rfl
  refine ⟨h.nodup, fun b => ?_, h.sorted.imp_of_mem fun {a b} ha hb hab => ?_⟩
  · rw [h.mem b]
    exact exists_congr fun d => by rw [and_comm, ← hsame b d, and_comm]
  · unfold InOrder
    rw [hin a ha, hin b hb]
    exact hab

/-- An entry keeps the bibs once each and the ranking (R26). -/
theorem enterCompetitor_keeps {dir : List Competitor} {r : List Nat} (hdir : BibsOnce dir) (h : Ranks dir r) (e : Entry) :
    BibsOnce (enterCompetitor dir e) ∧ Ranks (enterCompetitor dir e) r := by
  unfold enterCompetitor
  split
  next hold =>
    have hg : ∀ c : Competitor, (if c.bib = e.bib then { c with name := e.name, nation := e.nation } else c).bib = c.bib
        ∧ (if c.bib = e.bib then { c with name := e.name, nation := e.nation } else c).disqualified = c.disqualified
        ∧ (if c.bib = e.bib then { c with name := e.name, nation := e.nation } else c).totals = c.totals := fun c => by
      split <;> exact ⟨rfl, rfl, rfl⟩
    exact ⟨bibsOnce_map (fun c => (hg c).1) hdir, h.map hg⟩
  next hnew =>
    refine ⟨?_, h.append (by simp [qualifies])⟩
    rw [BibsOnce, List.map_append]
    refine List.Nodup.append hdir (List.nodup_singleton _) ?_
    rw [List.map_singleton, List.disjoint_singleton]
    intro hmem
    obtain ⟨c, hc, hbib⟩ := List.mem_map.mp hmem
    exact hnew (List.any_eq_true.mpr ⟨c, hc, by simpa using hbib⟩)

theorem addToList_keeps {c : Cst} {r : List Nat} (hdir : BibsOnce c.directory) (h : Ranks c.directory r) (es : List Entry) :
    BibsOnce (addToList es c).directory ∧ Ranks (addToList es c).directory r := by
  simp only [addToList]
  generalize c.directory = dir at hdir h
  induction es generalizing dir with
  | nil => exact ⟨hdir, h⟩
  | cons e es ih =>
    obtain ⟨hdir', h'⟩ := enterCompetitor_keeps hdir h e
    exact ih _ hdir' h'

/-! ## The laws as stable laws -/

/-- The directory holds each bib once, as a law of the state. -/
theorem stable_bibsOnce : Stable fun s => BibsOnce s.cst.directory where
  onProf _ _ hs := hs
  onFld _ _ hs := hs
  onStc _ _ hs := hs
  onGate _ _ hs := hs
  onWln _ _ hs := hs
  onMeas _ _ hs := hs
  onDiag _ _ hs := hs
  onCst _ _ hf hs := by rw [State.onCst_cst, hf]; exact hs
  onBrd _ _ _ hs := hs
  onLink _ _ _ hs := hs
  freeCtr _ _ hs := hs
  notify _ _ hs := hs
  enqueueWith _ _ _ hs := by rw [enqueueWith_cst]; exact hs
  reRank_setTotal _ _ _ _ hs := bibsOnce_map (fun c => by split <;> rfl) hs
  reRank_setDisqualified _ _ _ hs := bibsOnce_map (fun c => by split <;> rfl) hs
  addToList s es hs := (addToList_keeps hs (ranks_rankingOf hs) es).1

theorem stable_rankingOk : Stable RankingOk where
  onProf _ _ hs := hs
  onFld _ _ hs := hs
  onStc _ _ hs := hs
  onGate _ _ hs := hs
  onWln _ _ hs := hs
  onMeas _ _ hs := hs
  onDiag _ _ hs := hs
  onCst _ _ hf hs := by
    unfold RankingOk at *
    rw [State.onCst_cst, hf]
    exact hs
  onBrd _ _ _ hs := hs
  onLink _ _ _ hs := hs
  freeCtr _ _ hs := hs
  notify _ _ hs := hs
  enqueueWith _ _ _ hs := by
    unfold RankingOk at *
    rw [enqueueWith_cst, enqueueWith_scr]
    exact hs
  reRank_setTotal s bib round v hs := by
    obtain ⟨hdir, h⟩ := (rankingOk_iff s).mp hs
    exact (rankingOk_iff _).mpr ⟨stable_bibsOnce.reRank_setTotal s bib round v hdir, h.reRanked bib fun _ => rfl⟩
  reRank_setDisqualified s bib v hs := by
    obtain ⟨hdir, h⟩ := (rankingOk_iff s).mp hs
    exact (rankingOk_iff _).mpr ⟨stable_bibsOnce.reRank_setDisqualified s bib v hdir, h.reRanked bib fun _ => rfl⟩
  addToList s es hs := by
    obtain ⟨hdir, h⟩ := (rankingOk_iff s).mp hs
    exact (rankingOk_iff _).mpr (addToList_keeps hdir h es)

theorem rankingOk_of_empty {s : State} (hcst : s.cst = cstReset) (hscr : s.scr.ranking = []) : RankingOk s := by
  rw [rankingOk_iff, hcst, hscr]
  exact ⟨List.nodup_nil, List.nodup_nil, fun b => by simp [cstReset, findBib], List.Pairwise.nil⟩

/-- A cancelled round rebuilds the ranking from the directory (R140). -/
theorem rankingOk_cancelOpenRound {s : State} (hs : RankingOk s) : RankingOk (cancelOpenRound s) := by
  have hrecords : Safe (fun s => BibsOnce s.cst.directory) (s.onCst cancelRecords) :=
    ⟨stable_bibsOnce, bibsOnce_map (fun _ => rfl) hs.1⟩
  have hflights : Safe (fun s => BibsOnce s.cst.directory) (stopFlights (s.onCst cancelRecords)) :=
    (hrecords.stopMeasuring.onMeas _).dropWindow
  have hrebuilt : ∀ (a : Option Attempt) u, Safe (fun s => BibsOnce s.cst.directory) u →
      Safe RankingOk (rebuildRanking (updateLight (cancelledReturn a u))) := fun a u hu => by
    have hdir : BibsOnce (updateLight (cancelledReturn a u)).cst.directory := by
      cases a with
      | none => exact hu.updateLight.holds
      | some x => exact (hu.coachReturn x).updateLight.holds
    exact ⟨stable_rankingOk, (rankingOk_iff _).mpr ⟨hdir, ranks_rankingOf hdir⟩⟩
  exact (((hrebuilt _ _ ((hflights.dropClear.stopWindow.dropHeldArm _).afterHeadChange)).announceRanking _ _).notify _).holds

theorem rankingOk_restartEffect (s : State) : RankingOk (restartEffect s) := by
  simp only [restartEffect, restartBoard]
  exact ((Safe.enqueueAll ⟨stable_rankingOk, rankingOk_of_empty rfl rfl⟩ _ _).setLight _).holds

theorem rankingOk_hardReset (cause : ResetCause) (s : State) : RankingOk (hardReset cause s) := by
  obtain ⟨f, ready, hu, -⟩ := applyProfile_freshState s
  obtain ⟨w, hw, -⟩ := beginPolling_wln (s := applyProfile (freshState s)) (by rw [hu]; rfl)
  rw [hardReset, hw, hu]
  exact rankingOk_of_empty rfl rfl

/-- Settles O9: the ranking is a stable law, rebuilt where CANCEL ROUND rewrites the directory. -/
theorem theRankingStaysInOrder : Obligations.TheRankingStaysInOrder :=
  StepLaw.kept <| stepLaw_of_records (fun _ _ hs => hs) (fun _ _ hs => hs) (fun _ _ hs => hs) (fun _ _ hs => hs)
    (fun _ hs => hs) (fun cause s _ => rankingOk_hardReset cause s)
    (fun i s hs => (Safe.serve ⟨stable_rankingOk, hs⟩ ⟨stable_rankingOk, rankingOk_cancelOpenRound hs⟩
      ⟨stable_rankingOk, rankingOk_restartEffect s⟩ i).holds)
    (fun _ _ hi hs => (Safe.eventEffect ⟨stable_rankingOk, hs⟩ hi).holds)

end Sys2Proof.Machine

/-! PROOFS. LINK reads back what a request carries (10, section 10.13): a rule for each reader on the bytes of its field, then one
case per request kind. -/

namespace Sys2Proof.Machine

/-! ## A reader after the bytes of its field -/

theorem byte_toNat {n : Nat} (h : n < 256) : (byte n).toNat = n := by
  rw [byte, BitVec.toNat_ofNat]
  omega

theorem byte_toNat_mod (n : Nat) : (byte n).toNat = n % 256 := by
  rw [byte, BitVec.toNat_ofNat]

theorem take8_byte {n : Nat} (h : fits8 n = true) (r : List Byte) : take8 (byte n :: r) = some (n, r) := by
  rw [take8, byte_toNat (of_decide_eq_true h)]

theorem u16_bytes {n : Nat} (h : n < 65536) : u16 (byte (n / 256)) (byte n) = n := by
  simp only [u16, byte_toNat_mod]
  omega

theorem take16_be16 {n : Nat} (h : fits16 n = true) (r : List Byte) : take16 (be16 n ++ r) = some (n, r) := by
  change some (u16 (byte (n / 256)) (byte n), r) = _
  rw [u16_bytes (of_decide_eq_true h)]

/-- A two-byte field that ends the parameters. -/
theorem take16_be16_last {n : Nat} (h : fits16 n = true) : take16 (be16 n) = some (n, []) := by
  simpa using take16_be16 h []

theorem s16_bytes {i : Int} (h : fitsS16 i = true) :
    s16 (byte ((i % 65536).toNat / 256)) (byte (i % 65536).toNat) = i := by
  have hrange : -32768 ≤ i ∧ i < 32768 := of_decide_eq_true h
  rw [s16, u16_bytes (by omega)]
  split <;> omega

theorem takeS16_sbe16 {i : Int} (h : fitsS16 i = true) (r : List Byte) : takeS16 (sbe16 i ++ r) = some (i, r) := by
  change some (s16 (byte ((i % 65536).toNat / 256)) (byte (i % 65536).toNat), r) = _
  rw [s16_bytes h]

/-- A signed field that ends the parameters. -/
theorem takeS16_sbe16_last {i : Int} (h : fitsS16 i = true) : takeS16 (sbe16 i) = some (i, []) := by
  simpa using takeS16_sbe16 h []

theorem take32_be32 {n : Nat} (h : fits32 n = true) (r : List Byte) : take32 (be32 n ++ r) = some (n, r) := by
  have hn : n < 4294967296 := of_decide_eq_true h
  change some (u32 (byte (n / 16777216)) (byte (n / 65536)) (byte (n / 256)) (byte n), r) = _
  simp only [u32, byte_toNat_mod, Option.some.injEq, Prod.mk.injEq, and_true]
  omega

theorem takeN_append (t : Text) (r : List Byte) : takeN t.length (t ++ r) = some (t, r) := by
  induction t with
  | nil => rfl
  | cons a t ih => simp [takeN, ih]

theorem takeText_textField {t : Text} (h : t.length < 256) (r : List Byte) : takeText (textField t ++ r) = some (t, r) := by
  change takeN (byte t.length).toNat (t ++ r) = _
  rw [byte_toNat h, takeN_append]

/-- A text field that ends the parameters. -/
theorem takeText_textField_last {t : Text} (h : t.length < 256) : takeText (textField t) = some (t, []) := by
  simpa using takeText_textField h []

/-! ## The counted lists -/

theorem takePoints_pointBytes {ps : List SurveyPoint} (h : ∀ p ∈ ps, fits16 p.raw = true ∧ fits32 p.mm = true) :
    takePoints ps.length (pointBytes ps) = some ps := by
  induction ps with
  | nil => rfl
  | cons p ps ih =>
    obtain ⟨⟨hraw, hmm⟩, hrest⟩ := List.forall_mem_cons.mp h
    simp [takePoints, pointBytes, take16_be16 hraw, take32_be32 hmm, ih hrest]

theorem takeCodes_codeBytes {cs : List (Nat × Nat)} (h : ∀ c ∈ cs, fits8 c.1 = true ∧ fits8 c.2 = true) :
    takeCodes cs.length (codeBytes cs) = some cs := by
  induction cs with
  | nil => rfl
  | cons c cs ih =>
    obtain ⟨⟨hfn, hmode⟩, hrest⟩ := List.forall_mem_cons.mp h
    simp [takeCodes, codeBytes, take8_byte hfn, take8_byte hmode, ih hrest]

theorem takeEntries_entryBytes {es : List Entry} (h : ∀ e ∈ es, e.wf = true) :
    takeEntries es.length (entryBytes es) = some es := by
  induction es with
  | nil => rfl
  | cons e es ih =>
    obtain ⟨he, hrest⟩ := List.forall_mem_cons.mp h
    simp only [Entry.wf, Bool.and_eq_true, beq_iff_eq] at he
    obtain ⟨⟨hbib, hname⟩, hnation⟩ := he
    have hthree := takeN_append e.nation (entryBytes es)
    rw [hnation] at hthree
    simp [takeEntries, entryBytes, take16_be16 hbib, takeText_textField (of_decide_eq_true hname), hthree, ih hrest]

/-! The readers in front of what reads on: SET HILL has too many fields to look below each reader for the next one. -/

section Front

variable {α : Type} {n : Nat} {i : Int} {r : List Byte} {v : Option α}

theorem take8_then {k : Nat × List Byte → Option α} (h : fits8 n = true) (hk : k (n, r) = v) :
    (take8 (byte n :: r) >>= k) = v := by
  rw [take8_byte h]; exact hk

theorem take16_then {k : Nat × List Byte → Option α} (h : fits16 n = true) (hk : k (n, r) = v) :
    (take16 (be16 n ++ r) >>= k) = v := by
  rw [take16_be16 h]; exact hk

theorem take16_last_then {k : Nat × List Byte → Option α} (h : fits16 n = true) (hk : k (n, []) = v) :
    (take16 (be16 n) >>= k) = v := by
  rw [take16_be16_last h]; exact hk

theorem takeS16_then {k : Int × List Byte → Option α} (h : fitsS16 i = true) (hk : k (i, r) = v) :
    (takeS16 (sbe16 i ++ r) >>= k) = v := by
  rw [takeS16_sbe16 h]; exact hk

theorem takeText_then {t : Text} {k : Text × List Byte → Option α} (h : t.length < 256) (hk : k (t, r) = v) :
    (takeText (textField t ++ r) >>= k) = v := by
  rw [takeText_textField h]; exact hk

end Front

theorem takeHill_hillBytes {h : HillSection} (hwf : h.wf = true) : takeHill (hillBytes h) = some h := by
  simp only [HillSection.wf, Bool.and_eq_true, decide_eq_true_eq, and_assoc] at hwf
  obtain
    ⟨hname, hkh, hhs, hbase, hmvh, hgates, hgf, hch, hhf, htf, hlo, hhi, hstartWindow, hwarning, hmarkLimit, hsecondMarkWait,
    htolerance, hconsoleB, hsettle, hgateStep, hleaveDebounce, hbaseline, hcycleMin, hfreshness, hreplyTimeout, hturnaround,
    hcableFactor, hautoSwap, hpacing⟩ := hwf
  unfold takeHill hillBytes
  exact
    takeText_then (by omega) <| take16_then hkh <| take16_then hhs <| take16_then hbase <|
    take8_then hmvh <| take8_then hgates <| take8_then hgf <|
    take16_then hch <| take16_then hhf <| take16_then htf <|
    takeS16_then hlo <| takeS16_then hhi <| take16_then hstartWindow <|
    take16_then hwarning <| take16_then hmarkLimit <| take16_then hsecondMarkWait <|
    take8_then htolerance <| take8_then hconsoleB <| take16_then hsettle <|
    take16_then hgateStep <| take8_then hleaveDebounce <| take16_then hbaseline <|
    take16_then hcycleMin <| take16_then hfreshness <| take8_then hreplyTimeout <|
    take8_then hturnaround <| take16_then hcableFactor <| take8_then hautoSwap <|
    take16_last_then hpacing rfl

/-! ## One case per request kind -/

/-- OPEN ROUND without Q (EMPTY and the others), FROM_RANKING apart. -/
theorem takeOpenRound_without {tag : Byte} {source : Nat} (h : fits8 source = true) (hsource : source ≠ 1) :
    takeOpenRound tag [byte source] = some (.cmd (.openRound tag source none)) := by
  simp [takeOpenRound, byte_toNat (of_decide_eq_true h), hsource]

/-- OPEN ROUND with Q, EMPTY apart. -/
theorem takeOpenRound_with {tag : Byte} {source n : Nat} (h : fits8 source = true) (hn : fits8 n = true)
    (hsource : source ≠ 0) : takeOpenRound tag [byte source, byte n] = some (.cmd (.openRound tag source (some n))) := by
  simp [takeOpenRound, byte_toNat (of_decide_eq_true h), byte_toNat (of_decide_eq_true hn), hsource]

/-- A kind that is not in the request table matches no case of the decoder. -/
theorem takeParams_of_not_known {kind : Byte} (h : kind.toNat ∉ knownKinds) (tag : Byte) (ps : List Byte) :
    takeParams kind tag ps = some (.cmd (.unknownKind tag kind)) := by
  simp only [knownKinds, List.mem_cons, List.not_mem_nil, or_false, not_or] at h
  unfold takeParams
  split
  any_goals omega
  rfl

/-- The parameters of a request read back as the request. -/
theorem takeParams_requestFrame {i : Instr} {kind tag : Byte} {ps : List Byte} (hwf : i.wf = true)
    (hframe : requestFrame i = some (kind, tag, ps)) : takeParams kind tag ps = some (.cmd i) := by
  cases i with
  | setHill tag h =>
    cases hframe
    change (takeHill (hillBytes h)).map _ = _
    rw [takeHill_hillBytes hwf]; rfl
  | setSurvey tag points =>
    cases hframe
    simp only [Instr.wf, Bool.and_eq_true, decide_eq_true_eq, List.all_eq_true] at hwf
    have hcount : fits8 points.length = true := decide_eq_true (by omega)
    change (take8 (byte points.length :: pointBytes points) >>= _) = _
    exact take8_then hcount (congrArg (Option.map _) (takePoints_pointBytes hwf.2))
  | setLines tag codes =>
    cases hframe
    simp only [Instr.wf, Bool.and_eq_true, beq_iff_eq, List.all_eq_true] at hwf
    change (takeCodes 16 (codeBytes codes)).map _ = _
    rw [← hwf.1, takeCodes_codeBytes hwf.2]; rfl
  | addEntries tag entries =>
    cases hframe
    simp only [Instr.wf, Bool.and_eq_true, decide_eq_true_eq, List.all_eq_true] at hwf
    obtain ⟨⟨⟨hlo, hhi⟩, hentries⟩, -⟩ := hwf
    have hcount : fits8 entries.length = true := decide_eq_true (by omega)
    change (take8 (byte entries.length :: entryBytes entries) >>= _) = _
    exact take8_then hcount ((if_pos ⟨hlo, hhi⟩).trans (by rw [takeEntries_entryBytes hentries]; rfl))
  | openRound tag source q =>
    cases hframe
    cases q with
    | none =>
      simp only [Instr.wf, Bool.and_eq_true, bne_iff_ne] at hwf
      exact takeOpenRound_without hwf.1 hwf.2
    | some n =>
      simp only [Instr.wf, Bool.and_eq_true, bne_iff_ne] at hwf
      exact takeOpenRound_with hwf.1 hwf.2.1 hwf.2.2
  | boardMessage tag line text =>
    cases hframe
    simp only [Instr.wf, Bool.and_eq_true, decide_eq_true_eq] at hwf
    simp [takeParams, take8_byte hwf.1, takeText_textField_last (show text.length < 256 by omega), finish]
  | unknownKind tag kind =>
    cases hframe
    exact takeParams_of_not_known (by simpa [Instr.wf] using hwf) tag []
  | setNotices tag mask =>
    cases hframe
    have hmask : fits16 mask.toNat = true := decide_eq_true mask.isLt
    simp [takeParams, take16_be16_last hmask, finish]
  | setClock tag time =>
    cases hframe
    have hread := take32_be32 (n := time) hwf []
    rw [List.append_nil] at hread
    simp [takeParams, hread, finish]
  | disableStation tag slot | enableStation tag slot =>
    cases hframe
    simp [takeParams, take8, byte_toNat (of_decide_eq_true hwf), finish]
  | _ =>
    cases hframe <;>
      simp_all [Instr.wf, takeParams, take8_byte, take16_be16, take16_be16_last, takeS16_sbe16_last, finish]

/-- Settles O10: the kind and the tag stand before the parameters. -/
theorem requestsDecodeToThemselves : Obligations.RequestsDecodeToThemselves := by
  intro i hwf hframe
  obtain ⟨⟨kind, tag, ps⟩, hframe⟩ := Option.isSome_iff_exists.mp hframe
  have hbody : encodeRequest i = kind :: tag :: ps := by rw [encodeRequest, hframe]
  rw [hbody, decodeRequest, takeParams_requestFrame hwf hframe]
  rfl

end Sys2Proof.Machine

/-! PROOFS. LINK at work: a request behind the one in hand, a received frame, the ends of a reply, a notice and a break, and what the
receiver discards (R154 to R157). -/

namespace Sys2Proof.OnlyChanges

open Machine

/-! ## What a command changes besides BRD and LINK -/

variable {bs : List Block} {s u : State}

theorem settled (h : OnlyChanges (.brd :: .link :: bs) s u) : OnlyChanges (.brd :: .link :: bs) s (settle u) := by
  obtain ⟨hblocks, hctr, hpending⟩ := h
  refine ⟨fun b hb => ?_, ?_, ?_⟩
  · have := hblocks b hb
    cases b <;> simp [SameBlock] at hb this ⊢ <;> exact this
  · rw [← hctr]; simp
  · rw [← hpending]; simp

/-- An event changes what its effect changes in the state that the transmitter's choice leaves. -/
theorem effect (h : OnlyChanges (.brd :: .link :: bs) (startTx s) u) : OnlyChanges (.brd :: .link :: bs) s (settle u) := by
  obtain ⟨hblocks, hctr, hpending⟩ := h
  refine settled ⟨fun b hb => ?_, by simpa using hctr, by simpa using hpending⟩
  have := hblocks b hb
  cases b <;> simp [SameBlock] at hb this ⊢ <;> exact this

/-- A request changes what its block changes while the request is in hand. -/
theorem served {kind tag : Byte} {r : Served} (h : OnlyChanges (.brd :: .link :: bs) (taken kind tag s) r.st) :
    OnlyChanges (.brd :: .link :: bs) s (settle (waiting kind tag r)) := by
  obtain ⟨hblocks, hctr, hpending⟩ := h
  refine settled ⟨fun b hb => ?_, by simpa [waiting] using hctr, by simpa [waiting] using hpending⟩
  have := hblocks b hb
  cases b <;> simp [SameBlock, waiting] at hb this ⊢ <;> exact this

theorem of_onLink (f : Link → Link) : OnlyChanges (.brd :: .link :: bs) s (s.onLink f) :=
  ⟨fun b hb => by cases b <;> simp [SameBlock] at hb ⊢, rfl, rfl⟩

end Sys2Proof.OnlyChanges

namespace Sys2Proof.Machine

/-! ## A request behind the one in hand -/

/-- Settles O12: the effect of such a request is its frame's way into the input buffer. -/
theorem aRequestWaitsBehindTheOneInHand : Obligations.ARequestWaitsBehindTheOneInHand := by
  intro i s h hframe hhand hbusy
  obtain ⟨⟨kind, tag, ps⟩, hf⟩ := Option.isSome_iff_exists.mp hframe
  have hbody : encodeRequest i = kind :: tag :: ps := by rw [encodeRequest, hf]
  have hexec : exec i s = command (joinBuffer (encodeRequest i)) s := by
    rw [exec_of_request hframe, request, hf, hbody]
    simp [command, requestEffect, startTx_of_busy s hbusy, hhand]
  have hlink : (settle (joinBuffer (encodeRequest i) s)).link = (joinBuffer (encodeRequest i) s).link := by
    rw [settle_link, startTx_of_busy]
    simp only [joinBuffer, State.onLink_link]
    split <;> exact hbusy
  refine Happens.of_effect hexec (OnlyChanges.of_onLink _).effect ?_
  rw [startTx_of_busy s hbusy]
  refine ⟨settle_subjects _, Boards.settled rfl rfl, ?_, fun hroom => ?_, fun hfull => ?_⟩
  · rw [hlink]
    simp only [joinBuffer, State.onLink_link]
    split <;> exact hhand
  · rw [hlink]
    exact if_pos hroom
  · rw [hlink]
    exact if_neg (Nat.not_lt.mpr hfull)

/-! ## A received frame that carries a request -/

theorem pointBytes_length (ps : List SurveyPoint) : (pointBytes ps).length = 6 * ps.length := by
  induction ps with
  | nil => rfl
  | cons p ps ih => simp [pointBytes, be16, be32, ih]; omega

theorem codeBytes_length (cs : List (Nat × Nat)) : (codeBytes cs).length = 2 * cs.length := by
  induction cs with
  | nil => rfl
  | cons c cs ih => simp [codeBytes, ih]; omega

theorem entryBytes_length {es : List Entry} (h : ∀ e ∈ es, e.wf = true) : (entryBytes es).length = entriesSize es := by
  induction es with
  | nil => rfl
  | cons e es ih =>
    obtain ⟨he, hrest⟩ := List.forall_mem_cons.mp h
    simp only [Entry.wf, Bool.and_eq_true, beq_iff_eq] at he
    have hsize : entriesSize (e :: es) = 6 + e.name.length + entriesSize es := by simp [entriesSize]
    simp [entryBytes, be16, textField, ih hrest, hsize, he.2]
    omega

theorem hillBytes_length (h : HillSection) : (hillBytes h).length = h.name.length + 48 := by
  simp [hillBytes, textField, sbe16, be16]

/-- The parameters of a request fit a frame. -/
theorem requestFrame_length_le {i : Instr} {kind tag : Byte} {ps : List Byte} (hwf : i.wf = true)
    (hframe : requestFrame i = some (kind, tag, ps)) : ps.length ≤ 198 := by
  cases i with
  | setHill tag h =>
    cases hframe
    simp only [Instr.wf, HillSection.wf, Bool.and_eq_true, decide_eq_true_eq, and_assoc] at hwf
    rw [hillBytes_length]; omega
  | setSurvey tag points =>
    cases hframe
    simp only [Instr.wf, Bool.and_eq_true, decide_eq_true_eq] at hwf
    rw [List.length_cons, pointBytes_length]; omega
  | setLines tag codes =>
    cases hframe
    simp only [Instr.wf, Bool.and_eq_true, beq_iff_eq] at hwf
    rw [codeBytes_length]; omega
  | addEntries tag entries =>
    cases hframe
    simp only [Instr.wf, Bool.and_eq_true, decide_eq_true_eq, List.all_eq_true] at hwf
    rw [List.length_cons, entryBytes_length hwf.1.2]; omega
  | openRound tag source q => cases hframe; cases q <;> simp
  | boardMessage tag line text =>
    cases hframe
    simp only [Instr.wf, Bool.and_eq_true, decide_eq_true_eq] at hwf
    simp [textField]; omega
  | _ => cases hframe <;> simp [be16, be32, sbe16]

/-- Taking the body of a request in hand serves the request. -/
theorem takeBody_encodeRequest {i : Instr} {kind tag : Byte} {ps : List Byte} (hwf : i.wf = true)
    (hframe : requestFrame i = some (kind, tag, ps)) (s : State) :
    takeBody (encodeRequest i) s = takeInHand kind tag (serve i) s := by
  rw [takeBody, requestsDecodeToThemselves i hwf (by rw [hframe]; rfl), encodeRequest, hframe]
  rfl

/-- Settles O13: the frame hunts its way to the request's own service. -/
theorem aReceivedFrameIsItsRequest : Obligations.AReceivedFrameIsItsRequest := by
  intro i s hF hasm hbuf hwf hframe
  obtain ⟨⟨kind, tag, ps⟩, hf⟩ := Option.isSome_iff_exists.mp hframe
  have hbody : encodeRequest i = kind :: tag :: ps := by rw [encodeRequest, hf]
  have hlen := requestFrame_length_le hwf hf
  have hhand := (startTx_free s hF).1
  obtain ⟨⟨-, -, hkeptAsm, hkeptBuf, -⟩, -⟩ := startTx_kept s
  have heffect : linkBytes (clean (controlFrame (encodeRequest i))) (startTx s) = takeInHand kind tag (serve i) (startTx s) := by
    rw [linkBytes_clean_controlFrame (hkeptAsm.trans hasm) (by simp [hbody]) (by simp [hbody]; omega),
      receive_of_unoccupied _ hhand (hkeptBuf.trans hbuf), takeBody_encodeRequest hwf hf]
  refine ⟨_, congrArg (fun u => Host.Outcome.next (settle u)) heffect, ?_⟩
  rw [exec_of_request hframe, request, hf]
  simp [command, requestEffect, hhand]

/-! ## The ends of a reply, a notice and a break -/

section Ends

variable {s : State} {bs : List Block}

/-- What the transmitter begins from IDLE with no reply waiting (R157). -/
theorem startTx_of_idle (htx : s.link.tx = .idle) (hreply : s.link.replyWaiting = none) :
    (s.link.notices = [] → (startTx s).link.tx = .idle)
      ∧ ∀ n rest, s.link.notices = n :: rest →
        (s.link.brk = false → (startTx s).link.tx = .notice n ∧ (startTx s).link.notices = rest)
          ∧ (s.link.brk = true → (startTx s).link.tx = .brk ∧ (startTx s).link.notices = s.link.notices) := by
  refine ⟨fun hnotices => ?_, fun n rest hnotices => ⟨fun hbrk => ?_, fun hbrk => ?_⟩⟩
  · simp [startTx, htx, hreply, hnotices]
  · simp [startTx, htx, hreply, hnotices, hbrk]
  · simp [startTx, htx, hreply, hnotices, hbrk]

/-- What the transmitter begins from IDLE with a reply waiting (R156, R157). -/
theorem startTx_of_reply {r : Reply} (htx : s.link.tx = .idle) (hreply : s.link.replyWaiting = some r) :
    startTx s = s.onLink fun l =>
      { l with tx := .reply r (statusByte s), replyWaiting := none, overrun := false, discard := false } := by
  simp [startTx, htx, hreply]

/-- An event that updates LINK while the transmitter is busy: the transmitter chooses after it. -/
theorem happens_link_update {i : Instr} {f : State → State} {g : Link → Link} {P : State → Prop}
    (he : exec i s = command f s) (hbusy : s.link.tx ≠ .idle) (hf : f s = s.onLink g) (hkept : LinkKept s (s.onLink g))
    (hP : ∀ t, LinkKept s t → Boards [] s t → t.link = (startTx (s.onLink g)).link → P t) : Happens i [] s P := by
  refine Happens.of_effect he ?_ ?_ <;> rw [startTx_of_busy s hbusy, hf]
  · exact (OnlyChanges.of_onLink g).settled
  · exact hP _ hkept.settled (Boards.settled rfl rfl) (settle_link _)

theorem takeNext_of_empty (hbuf : s.link.buffer = []) : takeNext s = s := by
  unfold takeNext
  split
  next hrest => rw [hbuf] at hrest; cases hrest
  · rfl

/-- The end of a reply without a change of settings releases the request in hand and takes the next frame (R155). -/
theorem replyEnded_of_unchanged {r : Reply} {status : BitVec 8} {h : InHand} (htx : s.link.tx = .reply r status)
    (hhand : s.link.inHand = some h) (hchange : h.change = none) :
    replyEnded s = takeNext (s.onLink fun l => { l with tx := .idle, inHand := none }) := by
  simp [replyEnded, htx, hhand, hchange, applyChange]

theorem replySent_of_empty {r : Reply} {status : BitVec 8} {h : InHand} (htx : s.link.tx = .reply r status)
    (hhand : s.link.inHand = some h) (hchange : h.change = none) (hbuf : s.link.buffer = [])
    (hreply : s.link.replyWaiting = none) :
    Happens .replySent [] s fun t => t.link.inHand = none ∧ LinkKept s t ∧ Boards [] s t
      ∧ (s.link.notices = [] → t.link.tx = .idle)
      ∧ (∀ n rest, s.link.notices = n :: rest → s.link.brk = false → t.link.tx = .notice n ∧ t.link.notices = rest)
      ∧ (s.link.notices ≠ [] → s.link.brk = true → t.link.tx = .brk ∧ t.link.notices = s.link.notices) := by
  have heffect := (replyEnded_of_unchanged htx hhand hchange).trans (takeNext_of_empty hbuf)
  refine happens_link_update rfl (by simp [htx]) heffect ⟨rfl, rfl, rfl, rfl, rfl, rfl, rfl, rfl, rfl⟩
    fun t hkept hboards hlink => ?_
  have hnext := startTx_of_idle (s := s.onLink fun l => { l with tx := .idle, inHand := none }) rfl hreply
  rw [hlink]
  refine ⟨(startTx_kept _).2.1, hkept, hboards, hnext.1, fun n rest hn hbrk => (hnext.2 n rest hn).1 hbrk, fun hne hbrk => ?_⟩
  obtain ⟨n, rest, hn⟩ := List.exists_cons_of_ne_nil hne
  exact (hnext.2 n rest hn).2 hbrk

theorem noticeSent_goes_on {n : Notice} (htx : s.link.tx = .notice n) :
    Happens .noticeSent [] s fun t => LinkKept s t ∧ Boards [] s t ∧ t.link.inHand = s.link.inHand
      ∧ (∀ r, s.link.replyWaiting = some r →
          t.link.tx = .reply r (statusByte s) ∧ t.link.replyWaiting = none ∧ t.link.overrun = false
            ∧ t.link.discard = false)
      ∧ (s.link.replyWaiting = none → s.link.notices = [] → t.link.tx = .idle)
      ∧ (∀ m rest, s.link.replyWaiting = none → s.link.notices = m :: rest →
          (s.link.brk = false → t.link.tx = .notice m ∧ t.link.notices = rest)
            ∧ (s.link.brk = true → t.link.tx = .brk ∧ t.link.notices = s.link.notices)) := by
  have heffect : noticeEnded s = s.onLink fun l => { l with tx := .idle } := by rw [noticeEnded, htx]
  refine happens_link_update rfl (by simp [htx]) heffect ⟨rfl, rfl, rfl, rfl, rfl, rfl, rfl, rfl, rfl⟩
    fun t hkept hboards hlink => ?_
  rw [hlink]
  refine ⟨hkept, hboards, (startTx_kept _).2.1, fun r hr => ?_, fun hr => ?_, fun m rest hr => ?_⟩
  · rw [startTx_of_reply (s := s.onLink fun l => { l with tx := .idle }) rfl hr]
    exact ⟨rfl, rfl, rfl, rfl⟩
  · exact (startTx_of_idle (s := s.onLink fun l => { l with tx := .idle }) rfl hr).1
  · exact (startTx_of_idle (s := s.onLink fun l => { l with tx := .idle }) rfl hr).2 m rest

theorem breakEnd_begins_notice {n : Notice} {rest : List Notice} (htx : s.link.tx = .brk)
    (hnotices : s.link.notices = n :: rest) :
    Happens .breakEnd [] s fun t =>
      LinkKept s t ∧ Boards [] s t ∧ t.link.tx = .notice n ∧ t.link.notices = rest := by
  have heffect : breakEnded s = s.onLink fun l => { l with tx := .notice n, notices := rest } := by
    rw [breakEnded, htx, hnotices]
  refine happens_link_update rfl (by simp [htx]) heffect ⟨rfl, rfl, rfl, rfl, rfl, rfl, rfl, rfl, rfl⟩
    fun t hkept hboards hlink => ⟨hkept, hboards, ?_⟩
  rw [hlink, startTx_of_busy _ (by simp)]
  exact ⟨rfl, rfl⟩

end Ends

/-- LINK's input buffer, which no block's service touches. -/
def BufferIs (buffer : List (List Byte)) (l : Link) (_ : Brd) : Prop := l.buffer = buffer

theorem trafficLaw_bufferIs (buffer : List (List Byte)) : TrafficLaw (BufferIs buffer) where
  notice n l b h := by
    have hcore := queueNotice_core n l
    simp only [Link.core, Link.mk.injEq] at hcore
    obtain ⟨-, -, -, hbuffer, -⟩ := hcore
    exact hbuffer.trans h
  enqueue _ _ _ _ h := h
  link f l b hf h := (hf l).2.1.trans h
  board _ _ _ _ h := h
  cleared _ _ h := h

/-- With frames in the input buffer the end of a reply serves the oldest, and its reply goes before any notice. -/
theorem replySent_of_waiting {s : State} {r : Reply} {status : BitVec 8} {h : InHand} {body : List Byte}
    {rest : List (List Byte)} (htx : s.link.tx = .reply r status) (hhand : s.link.inHand = some h)
    (hchange : h.change = none) (hbuf : s.link.buffer = body :: rest) (hreply : s.link.replyWaiting = none) :
    (∃ t, exec .replySent s = .next t ∧ t.link.buffer = rest
      ∧ (∃ g, t.link.inHand = some g ∧ g.kind = body.getD 0 0 ∧ g.tag = body.getD 1 0)
      ∧ ∃ q st, t.link.tx = .reply q st ∧ q.kind = replyKind (body.getD 0 0) ∧ q.tag = body.getD 1 0)
    ∧ ∀ i, body = encodeRequest i → i.wf = true → (requestFrame i).isSome = true → s.link.notices = [] →
        exec .replySent s = exec i { s with link := { s.link with tx := .idle, inHand := none, buffer := rest } } := by
  have heffect : replyEnded s =
      takeBody body (s.onLink fun l => { l with tx := .idle, inHand := none, buffer := rest }) :=
    (replyEnded_of_unchanged htx hhand hchange).trans (takeNext_takes_oldest rfl hbuf)
  have hexec : exec .replySent s =
      .next (settle (takeBody body (s.onLink fun l => { l with tx := .idle, inHand := none, buffer := rest }))) := by
    change command replyEnded s = _
    rw [command, startTx_of_busy s (by simp [htx]), heffect]
  refine ⟨⟨_, hexec, ?_⟩, ?_⟩
  · obtain ⟨l, q, hl, hqkind, hqtag, hkind, htag, hidle, -⟩ := takeInHand_handIs (body.getD 0 0) (body.getD 1 0)
      (decodeRequest body) (s.onLink fun l => { l with tx := .idle, inHand := none, buffer := rest })
    have hbuffer : BufferIs rest { l with replyWaiting := some q } s.brd := by
      rw [← hl]
      exact (trafficLaw_bufferIs rest).take (fun _ _ _ h => h) (fun _ _ _ h => h) _ _ _ rfl
    obtain ⟨x, hx, hxkind⟩ := Option.map_eq_some_iff.mp hkind
    rw [hx] at htag
    have hnext := startTx_of_reply (s := takeBody body _) (r := q) ((congrArg Link.tx hl).trans hidle)
      (congrArg Link.replyWaiting hl)
    rw [settle_link, hnext]
    exact ⟨(congrArg Link.buffer hl).trans hbuffer, ⟨x, (congrArg Link.inHand hl).trans hx, hxkind, Option.some.inj htag⟩,
      q, _, rfl, hqkind, hqtag⟩
  · rintro i rfl hwf hframe hnotices
    obtain ⟨⟨kind, tag, ps⟩, hf⟩ := Option.isSome_iff_exists.mp hframe
    rw [hexec, takeBody_encodeRequest hwf hf, exec_of_request hframe, request, hf]
    have hidle : startTx (s.onLink fun l => { l with tx := .idle, inHand := none, buffer := rest }) =
        s.onLink fun l => { l with tx := .idle, inHand := none, buffer := rest } := by
      simp [startTx, hreply, hnotices]
    change _ = command _ (s.onLink fun l => { l with tx := .idle, inHand := none, buffer := rest })
    rw [command, hidle]
    rfl

/-- Settles O14: the four ends of the transmitter's frames. -/
theorem theTransmitterGoesOn : Obligations.TheTransmitterGoesOn := fun _ =>
  ⟨fun _ _ _ htx hhand hchange hbuf hreply => replySent_of_empty htx hhand hchange hbuf hreply,
    fun _ _ _ _ _ htx hhand hchange hbuf hreply => replySent_of_waiting htx hhand hchange hbuf hreply,
    fun _ htx => noticeSent_goes_on htx, fun _ _ htx hnotices => breakEnd_begins_notice htx hnotices⟩

/-! ## What the receiver discards -/

/-- A notice does not look at the receiver's characters. -/
theorem foldl_queueNotice_asm (bs : List NoticeBody) (l : Link) (f : List RxChar) :
    bs.foldl (fun l b => queueNotice b l) { l with asm := f } = { bs.foldl (fun l b => queueNotice b l) l with asm := f } := by
  induction bs generalizing l with
  | nil => rfl
  | cons b r ih =>
    have hb : queueNotice b { l with asm := f } = { queueNotice b l with asm := f } := by
      unfold queueNotice; repeat' split
      all_goals rfl
    simp only [List.foldl_cons, hb, ih]

/-- A discarded frame: LINK_BAD is counted, and the receiver hunts (R154). -/
theorem linkBad_startTx_link (s : State) : (linkBad (startTx s)).link = { handed (overflows .linkBad s) s with asm := [] } := by
  have hover : overflows .linkBad ((startTx s).onLink fun l => { l with asm := [] }) = overflows .linkBad s := by
    simp [overflows]
  rw [linkBad, count_link, hover]
  exact foldl_queueNotice_asm _ _ _

theorem linkBad_startTx_diag (s : State) : (linkBad (startTx s)).diag = Sys2Proof.counted .linkBad s := by
  rw [linkBad, count_diag]; simp [Sys2Proof.counted]

/-- LINK after notices, beside its queue (R158). -/
theorem foldl_queueNotice_core (bs : List NoticeBody) (l : Link) :
    (bs.foldl (fun l b => queueNotice b l) l).core = l.core := by
  induction bs generalizing l with
  | nil => rfl
  | cons b r ih => rw [List.foldl_cons, ih, queueNotice_core]

theorem handed_core (bs : List NoticeBody) (s : State) : (handed bs s).core = (startTx s).link.core :=
  foldl_queueNotice_core bs _

theorem handed_kept (bs : List NoticeBody) (s : State) :
    LinkKept s (s.onLink fun _ => handed bs s) ∧ (handed bs s).inHand = s.link.inHand := by
  obtain ⟨hkept, hhand, -⟩ := startTx_kept s
  have hcore := handed_core bs s
  refine ⟨hkept.trans (LinkKept.of_core hcore), hhand ▸ ?_⟩
  simp only [Link.core, Link.mk.injEq] at hcore
  obtain ⟨-, -, -, -, hinHand, -⟩ := hcore
  exact hinHand

/-- An event discards with one LINK_BAD event, and leaves the receiver with the characters `f`. -/
theorem linkBad_happens {s : State} {i : Instr} {eff : State → State} {f : List RxChar} {P : State → Prop}
    (he : exec i s = command eff s) (heffect : eff (startTx s) = assembled f (linkBad (startTx s)))
    (hP : ∀ t, t.diag = Sys2Proof.counted .linkBad s → t.link.asm = f → (f = s.link.asm → LinkKept s t) → Boards [] s t →
      t.link.inHand = s.link.inHand → Sends (overflows .linkBad s) s t → P t) : Happens i [.diag] s P := by
  have hlink : (assembled f (linkBad (startTx s))).link = { handed (overflows .linkBad s) s with asm := f } := by
    rw [assembled, State.onLink_link, linkBad_startTx_link]
  obtain ⟨⟨-, -, hkeptAsm, -⟩, hkeptHand, -⟩ := startTx_kept (assembled f (linkBad (startTx s)))
  obtain ⟨hhanded, hinHand⟩ := handed_kept (overflows .linkBad s) s
  refine Happens.of_effect he ?_ ?_ <;> rw [heffect]
  · refine OnlyChanges.effect ⟨fun b hb => ?_, by simp [assembled, linkBad], by simp [assembled, linkBad]⟩
    cases b <;> simp [SameBlock, assembled, linkBad] at hb ⊢
  · refine hP _ ?_ ?_ (fun hf => LinkKept.settled ?_) (Boards.settled ?_ ?_) ?_ (Sends.settled ?_ ?_ ?_)
    · simp [assembled, linkBad_startTx_diag]
    · rw [settle_link, hkeptAsm, hlink]
    · obtain ⟨hrate, hbrk, -, hrest⟩ := hhanded
      unfold LinkKept
      rw [hlink]
      exact ⟨hrate, hbrk, hf, hrest⟩
    · simp [assembled, linkBad, onto]
    · simp [assembled, linkBad]
    · rw [settle_link, hkeptHand, hlink]
      exact hinHand
    · rw [hlink]
    · rw [hlink]
    · rw [hlink]; exact handed_tx _ s

theorem linkByte_no_lead {s : State} {x : RxChar} (hasm : s.link.asm = []) (hlead : x.byte ≠ 0xA7) :
    linkByte s x = linkBad s := by
  rw [linkByte, hasm]
  exact if_neg hlead

theorem linkByte_bad_length {s : State} {lead x : RxChar} (hasm : s.link.asm = [lead])
    (hlen : x.byte.toNat < 2 ∨ 200 < x.byte.toNat) : linkByte s x = linkBad s := by
  rw [linkByte, hasm]
  exact if_neg (by simp [within]; omega)

theorem assembled_linkBad (s : State) : assembled [] (linkBad s) = linkBad s := by
  refine assembled_nil ?_
  have hcore := count_link_core (s.onLink fun l => { l with asm := [] }) .linkBad
  simp only [Link.core, Link.mk.injEq] at hcore
  obtain ⟨-, -, hasm, -⟩ := hcore
  exact hasm

/-- A complete frame with a framing error, or with another CRC, does not pass its checks. -/
theorem frameOk_of_bad {f : List RxChar} {body : List Byte} {hi lo : Byte}
    (hf : f.map RxChar.byte = 0xA7 :: byte body.length :: (body ++ [hi, lo]))
    (hbad : (∃ x ∈ f, x.framing = true) ∨ [hi, lo] ≠ be16 (crc (byte body.length :: body)).toNat) : frameOk f = false := by
  have hsplit : f.map RxChar.byte = frameHead body ++ [hi, lo] := hf
  have hlen : (f.map RxChar.byte).length - 2 = (frameHead body).length := by rw [hsplit]; simp
  have hdrop : (f.map RxChar.byte).drop ((f.map RxChar.byte).length - 2) = [hi, lo] := by rw [hlen, hsplit, List.drop_left]
  have htake : (f.map RxChar.byte).take ((f.map RxChar.byte).length - 2) = frameHead body := by
    rw [hlen, hsplit, List.take_left]
  simp only [frameOk, hdrop, htake, frameHead, List.drop_one, List.tail_cons, Bool.and_eq_false_iff]
  rcases hbad with ⟨x, hx, hframing⟩ | hcrc
  · exact .inl (List.all_eq_false.mpr ⟨x, hx, by simp [hframing]⟩)
  · exact .inr (beq_false_of_ne hcrc)

/-- A complete frame that does not pass its checks is discarded by its last character. -/
theorem linkBytes_bad_frame {s : State} {f : List RxChar} {body : List Byte} {hi lo : Byte} (hasm : s.link.asm = [])
    (hlo : 2 ≤ body.length) (hhi : body.length ≤ 200)
    (hf : f.map RxChar.byte = 0xA7 :: byte body.length :: (body ++ [hi, lo]))
    (hbad : (∃ x ∈ f, x.framing = true) ∨ [hi, lo] ≠ be16 (crc (byte body.length :: body)).toNat) :
    linkBytes f s = linkBad s := by
  have hok := frameOk_of_bad hf hbad
  obtain ⟨b, bs, rfl⟩ := List.exists_cons_of_length_pos (by omega : 0 < body.length)
  match f with
  | [] | [_] | [_, _] => simp at hf
  | lead :: n :: x :: xs =>
    simp only [List.map_cons, List.cons_append, List.cons.injEq] at hf
    obtain ⟨hlead, hn, -, hxs⟩ := hf
    have hcount := congrArg List.length hxs
    have hbyte : n.byte.toNat = bs.length + 1 := by rw [hn, byte_toNat (by simp at hhi ⊢; omega)]; simp
    have hrange : within 2 200 n.byte.toNat = true := by
      simp only [List.length_cons] at hlo hhi
      simp only [within, hbyte, hlo, hhi, decide_true, Bool.and_self]
    have hjudge : linkBytes (x :: xs) (assembled (lead :: n :: []) s) = judgeFrame (lead :: n :: x :: xs) s :=
      linkBytes_completes_frame s x xs [] (by simp at hcount ⊢; omega)
    calc linkBytes (lead :: n :: x :: xs) s
        = linkBytes (x :: xs) (linkByte (linkByte s lead) n) := rfl
      _ = judgeFrame (lead :: n :: x :: xs) s := by rw [linkByte_lead hasm hlead, linkByte_length s hrange, hjudge]
      _ = linkBad s := by simp [judgeFrame, hok]

/-- Settles O15: the lead, the length, the gap and the whole frame. -/
theorem theReceiverDiscardsWithLinkBad : Obligations.TheReceiverDiscardsWithLinkBad := by
  intro s c
  obtain ⟨⟨-, -, hkeptAsm, -⟩, -⟩ := startTx_kept s
  refine ⟨fun hasm hlead => ?_, fun lead hasm hlen => ?_, fun hasm hlead => ?_, fun hasm hlead => ?_,
    fun f body hi lo hasm hlo hhi hf hbad => ?_⟩
  · have heffect := (linkByte_no_lead (hkeptAsm.trans hasm) hlead).trans (assembled_linkBad _).symm
    exact linkBad_happens (eff := fun s => linkByte s c) rfl heffect
      fun t hdiag hnone _ hboards _ hsends => ⟨hdiag, hnone, hboards, hsends⟩
  · have heffect := (linkByte_bad_length (hkeptAsm.trans hasm) hlen).trans (assembled_linkBad _).symm
    exact linkBad_happens (eff := fun s => linkByte s c) rfl heffect
      fun t hdiag hnone _ hboards _ hsends => ⟨hdiag, hnone, hboards, hsends⟩
  · have heffect : gapEnded c (startTx s) = assembled [c] (linkBad (startTx s)) := by
      rw [gapEnded, if_neg (hkeptAsm ▸ hasm), linkByte_lead _ hlead]
      rw [← assembled_linkBad]; rfl
    exact linkBad_happens rfl heffect fun t hdiag hone _ hboards _ hsends => ⟨hdiag, hone, hboards, hsends⟩
  · have heffect : gapEnded c (startTx s) = assembled [c] (startTx s) := by
      rw [gapEnded, if_pos (hkeptAsm.trans hasm), linkByte_lead (hkeptAsm.trans hasm) hlead]
    refine Happens.of_effect rfl ?_ ?_ <;> rw [heffect]
    · exact OnlyChanges.effect (OnlyChanges.of_onLink _)
    · obtain ⟨⟨-, -, hasmNow, -⟩, -⟩ := startTx_kept (assembled [c] (startTx s))
      refine ⟨?_, Boards.settled (by simp [assembled, onto]) (by simp [assembled]), Sends.settled ?_ ?_ ?_⟩
      · rw [settle_link, hasmNow]; rfl
      · rfl
      · rfl
      · rfl
  · have heffect : linkBytes f (startTx s) = assembled [] (linkBad (startTx s)) := by
      rw [linkBytes_bad_frame (hkeptAsm.trans hasm) hlo hhi hf hbad, assembled_linkBad]
    refine linkBad_happens rfl heffect fun t hdiag _ hkept hboards hhand hsends => ?_
    exact ⟨hdiag, hkept hasm.symm, hboards, hhand, hsends⟩

end Sys2Proof.Machine

/-! PROOFS. A refused request leaves no trace but its reply (R155, R156). -/

namespace Sys2Proof.Machine

/-- What a block hands back to LINK: an answer with DONE or ACCEPTED, or a refusal that leaves the state as it was. -/
inductive Answered (s : State) : Served → Prop
  | done (u : State) : Answered s (Machine.done u)
  | accepted (u : State) : Answered s (Machine.accepted u)
  | doneWith (data : ReplyData) (u : State) : Answered s (Machine.doneWith data u)
  | refuse (code : ReplyCode) : Answered s (Machine.refuse code s)

theorem Answered.ite {s : State} {c : Prop} [Decidable c] {a b : Served} (ha : Answered s a) (hb : Answered s b) :
    Answered s (if c then a else b) := by
  split
  · exact ha
  · exact hb

theorem serveCoachReduction_answered (bib k : Nat) (s : State) : Answered s (serveCoachReduction bib k s) := by
  refine .ite (.refuse _) <| .ite (.refuse _) <| .ite (.refuse _) <| .ite (.refuse _) <| .ite (.refuse _) <|
    .ite (.refuse _) ?_
  split
  · exact .refuse _
  · exact .ite (.refuse _) <| .ite (.refuse _) <| .ite (.ite (.done _) (.accepted _)) (.done _)

/-- Every block but STC at MARK LEAVE answers so: its checks come before its effects. -/
theorem serve_answered {i : Instr} (hi : ∀ tag, i ≠ .markLeave tag) (s : State) : Answered s (serve i s) := by
  cases i with
  | markLeave tag => exact absurd rfl (hi tag)
  | coachReduction tag bib k => exact serveCoachReduction_answered bib k s
  | _ =>
    simp only [serve, serveMoveGate, serveHomeGate, serveEnterMark, serveCloseMarks, serveSetDistance, serveSetWind,
    serveReadAttempt, serveVoidAttempt, serveArmNext, serveClear, serveHold, serveStop, serveStationStatus,
    serveDisableStation, serveEnableStation, serveLineTest, serveReadWind, serveSetHill, serveSetStation, serveSetSurvey,
    serveSetLines, serveStoreProfile, serveReadProfile, serveWriteLine, serveReadLines, serveOpenRound,
    serveConfirmRound, serveSuspendRound, serveResumeRound, serveCancelRound, serveAddEntries, serveWithdrawEntry,
    serveMoveEntry, serveBoardMessage, serveBoardRefresh, serveBoardStatus, serveSetCursor, serveReadAtCursor,
    serveSetClock, serveSetNotices, serveSetLink, serveSelectCounter, serveReadCounters, serveReadFault,
    serveUnknownKind, serveRestart]
    repeat' split
    all_goals constructor

/-- An answer other than DONE and ACCEPTED is a refusal. -/
theorem Answered.eq_refuse {s : State} {r : Served} (h : Answered s r) (hdone : r.code ≠ .done) (haccepted : r.code ≠ .accepted) :
    r = Machine.refuse r.code s := by
  cases h with
  | done u => exact absurd rfl hdone
  | accepted u => exact absurd rfl haccepted
  | doneWith data u => exact absurd rfl hdone
  | refuse code => rfl

/-- The reply of a request that LINK takes in hand at once is the one its block gave. -/
theorem served_of_answers {i : Instr} {kind tag : Byte} {ps : List Byte} {s t : State} {code : ReplyCode} {data : ReplyData}
    (hF : Free s) (hf : requestFrame i = some (kind, tag, ps)) (h : Answers i code data s t) :
    t = settle (waiting kind tag (serve i (taken kind tag s))) ∧ (serve i (taken kind tag s)).code = code
      ∧ (serve i (taken kind tag s)).data = data := by
  obtain ⟨hexec, f, hf', -, hreply⟩ := h
  obtain rfl : (kind, tag, ps) = f := Option.some.inj (hf.symm.trans hf')
  rw [exec_of_request (by rw [hf]; rfl), request_of_free hF hf] at hexec
  obtain rfl := Host.Outcome.next.inj hexec
  obtain ⟨-, -, htx, -⟩ := serve_handIs i (taken kind tag s)
  have hnone : ∀ r status, (serve i (taken kind tag s)).st.link.tx ≠ .reply r status := by
    rw [htx]
    exact (startTx_free s hF).2.2
  refine ⟨rfl, ?_⟩
  rw [settle_link] at hreply
  by_cases hidle : (serve i (taken kind tag s)).st.link.tx = .idle
  · rw [startTx_of_reply (s := waiting kind tag (serve i (taken kind tag s))) hidle rfl] at hreply
    simpa using hreply
  · rw [startTx_of_busy (waiting kind tag (serve i (taken kind tag s))) hidle] at hreply
    rcases hreply with hwaits | ⟨status, hsent⟩
    · simpa [waiting] using hwaits
    · exact absurd hsent (hnone _ _)

/-- Settles O11: a block that does not answer with DONE or ACCEPTED hands back the state it was given. -/
theorem aRefusedRequestChangesNothing : Obligations.ARefusedRequestChangesNothing := by
  intro i s t code data hF hi hanswers hdone haccepted
  obtain ⟨⟨kind, tag, ps⟩, hf, -⟩ := hanswers.2
  obtain ⟨rfl, rfl, rfl⟩ := served_of_answers hF hf hanswers
  have hrefuse := (serve_answered hi (taken kind tag s)).eq_refuse hdone haccepted
  generalize hr : serve i (taken kind tag s) = r at hrefuse
  rw [hrefuse]
  exact ⟨rfl, onlyChanges_of_link_update id s, Quiet.served rfl (taken_brd s kind tag)⟩

end Sys2Proof.Machine

/-! PROOFS. A statement about a command from the state that its block leaves: what the command ends with is said once. -/

namespace Sys2Proof

open Machine

/-- A command began in `s`, its block was given `v` and left `u`, and the command left `t`: the blocks of `u`, and of LINK and BRD
what the statements say. -/
structure After (s v u t : State) : Prop where
  prof : t.prof = u.prof
  fld : t.fld = u.fld
  cst : t.cst = u.cst
  stc : t.stc = u.stc
  gate : t.gate = u.gate
  wln : t.wln = u.wln
  meas : t.meas = u.meas
  scr : t.scr = u.scr
  diag : t.diag = u.diag
  subjects : t.brd.subjects = u.brd.subjects
  messages : t.brd.messages = u.brd.messages
  ready : t.brd.ready = u.brd.ready
  pacing : t.brd.pacing = u.brd.pacing
  stalled : t.brd.stalled = u.brd.stalled
  frame : (∀ i rest, u.brd.sender = none → u.brd.pacing = none → u.brd.ready = true → sendOrder u.brd.queue = i :: rest →
      t.brd.queue = u.brd.queue.erase i ∧ t.brd.sender = some { key := i.key, text := itemText u i })
    ∧ (u.brd.sender ≠ none ∨ u.brd.pacing ≠ none ∨ u.brd.ready = false ∨ u.brd.queue = [] →
      t.brd.queue = u.brd.queue ∧ t.brd.sender = u.brd.sender)
  frames : ∀ ks, u.brd.sender = s.brd.sender → u.brd.queue = onto ks s.brd.queue → Frames ks s t
  stall : u.brd.stallTimer = s.brd.stallTimer → StallFollows s t
  stallRule : StallFollows u t
  inHand : t.link.inHand = u.link.inHand
  settled : LinkKept u t
  kept : LinkKept v u → LinkKept s t
  boards : ∀ ks, u.brd.core = s.brd.core → u.brd.queue = onto ks s.brd.queue → Boards ks s t
  sends : ∀ ns, u.link = ns.foldl (fun l b => queueNotice b l) v.link → Sends ns s t
  silent : u.link.notices = v.link.notices → u.link.seq = v.link.seq → u.link.tx = v.link.tx → Sends [] s t

namespace After

variable {s u t : State} {kind tag : Byte}

theorem of_effect (s u : State) : After s (startTx s) u (settle u) where
  prof := by simp
  fld := by simp
  cst := by simp
  stc := by simp
  gate := by simp
  wln := by simp
  meas := by simp
  scr := by simp
  diag := by simp
  subjects := settle_subjects u
  messages := by rw [settle_brd]; simp
  ready := by rw [settle_brd]; simp
  pacing := by rw [settle_brd]; simp
  stalled := by rw [settle_brd]; simp
  frame := settle_frame u
  frames _ hsender hqueue := Frames.settled hqueue hsender
  stall h := StallFollows.settled h
  stallRule := StallFollows.settled rfl
  inHand := by rw [settle_link, (startTx_kept u).2.1]
  settled := (LinkKept.of_core rfl).settled
  kept h := ((startTx_kept s).1.trans h).settled
  boards _ hcore hqueue := Boards.settled hqueue hcore
  sends _ h := Sends.of_effect h
  silent hnotices hseq htx := Sends.settled hnotices hseq htx

theorem of_request (kind tag : Byte) (s : State) (r : Served) :
    After s (taken kind tag s) r.st (settle (waiting kind tag r)) where
  prof := by simp [waiting]
  fld := by simp [waiting]
  cst := by simp [waiting]
  stc := by simp [waiting]
  gate := by simp [waiting]
  wln := by simp [waiting]
  meas := by simp [waiting]
  scr := by simp [waiting]
  diag := by simp [waiting]
  subjects := settle_subjects (waiting kind tag r)
  messages := by rw [settle_brd]; simp [waiting]
  ready := by rw [settle_brd]; simp [waiting]
  pacing := by rw [settle_brd]; simp [waiting]
  stalled := by rw [settle_brd]; simp [waiting]
  frame := settle_frame (waiting kind tag r)
  frames _ hsender hqueue := Frames.settled (u := waiting kind tag r) hqueue hsender
  stall h := StallFollows.settled (u := waiting kind tag r) h
  stallRule := StallFollows.settled (s := r.st) (u := waiting kind tag r) rfl
  inHand := by rw [settle_link, (startTx_kept _).2.1]; rfl
  settled := (LinkKept.of_core rfl).waiting
  kept h := ((taken_kept kind tag s).trans h).waiting
  boards _ hcore hqueue := Boards.served hqueue hcore
  sends _ h := Sends.of_served h
  silent hnotices hseq htx := Sends.served hnotices hseq htx

/-- A block that leaves BRD and LINK alone makes a quiet command. -/
theorem quiet {v : State} (h : After s v u t) (hlink : u.link = v.link) (hbrd : u.brd = s.brd) : Quiet s t :=
  ⟨h.kept (LinkKept.of_core (by rw [hlink])), h.boards [] (by rw [hbrd]) (by rw [hbrd]; rfl), by rw [h.subjects, hbrd],
    h.sends [] hlink⟩

end After

section Commands

variable {i : Instr} {s u : State} {bs : List Block} {P : State → Prop}

/-- An event by what its effect leaves. -/
theorem Happens.of_block {f : State → State} (he : exec i s = command f s) (hf : f (startTx s) = u)
    (ho : OnlyChanges (.brd :: .link :: bs) (startTx s) u) (hP : ∀ t, After s (startTx s) u t → P t) : Happens i bs s P := by
  subst hf
  exact Happens.of_effect he ho.effect (hP _ (After.of_effect s _))

variable {kind tag : Byte} {ps : List Byte} {serve : State → Served} {code : ReplyCode} {data : ReplyData}

/-- A request by what its block leaves. -/
theorem Completes.of_block (hF : Free s) (hi : requestFrame i = some (kind, tag, ps)) (he : exec i s = request i serve s)
    (hr : serve (taken kind tag s) = { st := u, code, data }) (hcore : u.link.core = (taken kind tag s).link.core)
    (ho : OnlyChanges (.brd :: .link :: bs) (taken kind tag s) u) (hP : ∀ t, After s (taken kind tag s) u t → P t) :
    Completes i code data bs s P :=
  Completes.of_answer u hF hi he hr hcore ho.served (hP _ (After.of_request kind tag s { st := u, code, data }))

/-- A request that writes LINK's own settings. -/
theorem Completes.of_link_update {f : Link → Link} (hF : Free s) (hi : requestFrame i = some (kind, tag, ps))
    (he : exec i s = request i serve s) (hr : serve (taken kind tag s) = { st := (taken kind tag s).onLink f, code, data })
    (hhand : ∃ h, (f (taken kind tag s).link).inHand = some h ∧ h.kind = kind ∧ h.tag = tag)
    (hkeeps : ∀ l, (f l).notices = l.notices ∧ (f l).seq = l.seq ∧ (f l).tx = l.tx)
    (hP : ∀ t, After s (taken kind tag s) ((taken kind tag s).onLink f) t → Boards [] s t → Sends [] s t → P t) :
    Completes i code data [] s P := by
  have ht := After.of_request kind tag s { st := (taken kind tag s).onLink f, code, data }
  obtain ⟨hnotices, hseq, htx⟩ := hkeeps (taken kind tag s).link
  exact Completes.of_served _ hF hi he hr hhand rfl rfl (OnlyChanges.of_onLink _).served
    (hP _ ht (ht.boards [] (by simp) (by simp [onto])) (ht.silent hnotices hseq htx))

end Commands

namespace OnlyChanges

variable {bs : List Block} {s u v : State}

theorem refl (bs : List Block) (s : State) : OnlyChanges bs s s := ⟨fun b _ => by cases b <;> rfl, rfl, rfl⟩

theorem trans (h : OnlyChanges bs s u) (h' : OnlyChanges bs u v) : OnlyChanges bs s v := by
  obtain ⟨hblocks, hctr, hpending⟩ := h
  obtain ⟨hblocks', hctr', hpending'⟩ := h'
  refine ⟨fun b hb => ?_, hctr'.trans hctr, hpending'.trans hpending⟩
  have h1 := hblocks b hb
  have h2 := hblocks' b hb
  cases b <;> exact h2.trans h1

theorem mono {bs' : List Block} (h : OnlyChanges bs s u) (hsub : bs ⊆ bs') : OnlyChanges bs' s u :=
  ⟨fun b hb => h.1 b fun hmem => hb (hsub hmem), h.2.1, h.2.2⟩

end OnlyChanges

theorem Completes.mono {i : Instr} {code : ReplyCode} {data : ReplyData} {bs bs' : List Block} {s : State} {P : State → Prop}
    (h : Completes i code data bs s P) (hsub : bs ⊆ bs') : Completes i code data bs' s P := by
  obtain ⟨t, hanswers, honly, hP⟩ := h
  exact ⟨t, hanswers, honly.mono (List.cons_subset_cons _ (List.cons_subset_cons _ hsub)), hP⟩

theorem Happens.mono {i : Instr} {bs bs' : List Block} {s : State} {P : State → Prop} (h : Happens i bs s P) (hsub : bs ⊆ bs') :
    Happens i bs' s P := by
  obtain ⟨t, hexec, honly, hP⟩ := h
  exact ⟨t, hexec, honly.mono (List.cons_subset_cons _ (List.cons_subset_cons _ hsub)), hP⟩

end Sys2Proof

/-! PROOFS. The checks that come before a request's own: the edits of the profile and the requests about an attempt (R2, R36, R37,
R103, R119, R123, R124). -/

namespace Sys2Proof.Machine

section Checks

variable {i : Instr} {kind tag : Byte} {ps : List Byte} {serve : State → Served} {s : State} {code : ReplyCode}

/-- A request whose block refuses it, in the state that taking it in hand leaves. -/
theorem refuses_of_block (hF : Free s) (hi : requestFrame i = some (kind, tag, ps)) (he : exec i s = request i serve s)
    (hr : serve (taken kind tag s) = refuse code (taken kind tag s)) : Refuses i code s :=
  Completes.quiet hF hi he hr

end Checks

/-! ## The edits of the profile (R2) -/

theorem editBlocked_of_open {s : State} (h : hasOpenRound s = true) : editBlocked s = some .locked := if_pos h

theorem editBlocked_of_writing {s : State} (h : hasOpenRound s = false) (hw : s.prof.writing.isSome = true) :
    editBlocked s = some .busy := by simp [editBlocked, h, hw]

theorem editBlocked_of_free {s : State} (h : hasOpenRound s = false) (hw : s.prof.writing = none) : editBlocked s = none := by
  simp [editBlocked, h, hw]

/-- The edits of the profile and STORE PROFILE. -/
def IsEdit (i : Instr) : Prop :=
  (∃ tag h, i = .setHill tag h) ∨ (∃ tag a b c d e, i = .setStation tag a b c d e) ∨ (∃ tag p, i = .setSurvey tag p) ∨
    (∃ tag l, i = .setLines tag l ∧ l.length = 16) ∨ ∃ tag, i = .storeProfile tag

/-- An edit is refused as R2 says, before its own checks. -/
theorem edit_refused {i : Instr} {s : State} {code : ReplyCode} (hF : Free s) (hi : IsEdit i)
    (hb : editBlocked s = some code) : Refuses i code s := by
  rcases hi with ⟨tag, h, rfl⟩ | ⟨tag, a, b, c, d, e, rfl⟩ | ⟨tag, p, rfl⟩ | ⟨tag, l, rfl, hl⟩ | ⟨tag, rfl⟩
  · exact refuses_of_block hF rfl rfl (by simp [serveSetHill, hb])
  · exact refuses_of_block hF rfl rfl (by simp [serveSetStation, hb])
  · exact refuses_of_block hF rfl rfl (by simp [serveSetSurvey, hb])
  · exact refuses_of_block hF rfl rfl (by simp [serveSetLines, hb, hl])
  · exact refuses_of_block hF rfl rfl (by simp [serveStoreProfile, hb])

/-! ## The requests about an attempt -/

theorem attemptOk_eq_false {n : Nat} (h : n = 0 ∨ 400 < n) : attemptOk n = false := by
  simp [attemptOk, within]; omega

theorem attemptOk_eq_true {n : Nat} (hlo : 1 ≤ n) (hhi : n ≤ 400) : attemptOk n = true := by
  simp [attemptOk, within]; omega

theorem ofConfirmedRound_iff (s : State) (a : Attempt) :
    ofConfirmedRound s a = true ↔ a.round < s.cst.round ∨ (a.round = s.cst.round ∧ s.cst.rstate = .confirmed) := by
  simp [ofConfirmedRound]

/-- The requests that change an attempt, with their other operands in range. -/
def ChangesAttempt (i : Instr) (n : Nat) : Prop :=
  (∃ tag judge mark, i = .enterMark tag n judge mark ∧ 1 ≤ judge ∧ judge ≤ 5 ∧ mark ≤ 40) ∨ (∃ tag, i = .closeMarks tag n) ∨
    (∃ tag d, i = .setDistance tag n d ∧ d ≤ 1000) ∨ (∃ tag w, i = .setWind tag n w ∧ -6000 ≤ w ∧ w ≤ 6000) ∨
    (∃ tag, i = .voidAttempt tag n)

/-- The code with which a request about attempt `n` is refused before its own checks. -/
def attemptRefusal (n : Nat) (s : State) : Option ReplyCode :=
  if !attemptOk n then some .range
  else match attempt? s n with
    | none => some .notFound
    | some a => if ofConfirmedRound s a then some .locked else none

theorem attemptRefusal_eq_some {n : Nat} {s : State} {code : ReplyCode} (h : attemptRefusal n s = some code) :
    (attemptOk n = false ∧ code = .range) ∨ (attemptOk n = true ∧ attempt? s n = none ∧ code = .notFound) ∨
      (attemptOk n = true ∧ ∃ a, attempt? s n = some a ∧ ofConfirmedRound s a = true ∧ code = .locked) := by
  unfold attemptRefusal at h
  split at h
  next hok => exact .inl ⟨by simpa using hok, (Option.some.inj h).symm⟩
  next hok =>
    have hok : attemptOk n = true := by simpa using hok
    split at h
    next hnone => exact .inr (.inl ⟨hok, hnone, (Option.some.inj h).symm⟩)
    next a ha =>
      split at h
      next hlocked => exact .inr (.inr ⟨hok, a, ha, hlocked, (Option.some.inj h).symm⟩)
      next => cases h

/-- Each of these blocks begins with the three checks. -/
theorem serve_of_attemptRefusal {i : Instr} {n : Nat} {s : State} {code : ReplyCode} (hi : ChangesAttempt i n)
    (h : attemptRefusal n s = some code) : serve i s = refuse code s := by
  have hjudge : ∀ judge mark, 1 ≤ judge → judge ≤ 5 → mark ≤ 40 → within 1 5 judge = true ∧ ¬40 < mark := fun _ _ hlo hhi hm =>
    ⟨by simp [within]; omega, Nat.not_lt.mpr hm⟩
  rcases hi with ⟨tag, judge, mark, rfl, hlo, hhi, hm⟩ | ⟨tag, rfl⟩ | ⟨tag, d, rfl, hd⟩ | ⟨tag, w, rfl, hlo, hhi⟩ | ⟨tag, rfl⟩
  · obtain ⟨hj, hm⟩ := hjudge judge mark hlo hhi hm
    rcases attemptRefusal_eq_some h with ⟨hok, rfl⟩ | ⟨hok, ha, rfl⟩ | ⟨hok, a, ha, hlocked, rfl⟩ <;>
      simp [serve, serveEnterMark, *]
  · rcases attemptRefusal_eq_some h with ⟨hok, rfl⟩ | ⟨hok, ha, rfl⟩ | ⟨hok, a, ha, hlocked, rfl⟩ <;>
      simp [serve, serveCloseMarks, *]
  · have hd : within 0 1000 d = true := by simp [within, hd]
    rcases attemptRefusal_eq_some h with ⟨hok, rfl⟩ | ⟨hok, ha, rfl⟩ | ⟨hok, a, ha, hlocked, rfl⟩ <;>
      simp [serve, serveSetDistance, *]
  · have hw : ¬w < -6000 ∧ ¬6000 < w := by omega
    rcases attemptRefusal_eq_some h with ⟨hok, rfl⟩ | ⟨hok, ha, rfl⟩ | ⟨hok, a, ha, hlocked, rfl⟩ <;>
      simp [serve, serveSetWind, *]
  · rcases attemptRefusal_eq_some h with ⟨hok, rfl⟩ | ⟨hok, ha, rfl⟩ | ⟨hok, a, ha, hlocked, rfl⟩ <;>
      simp [serve, serveVoidAttempt, *]

theorem ChangesAttempt.isRequest {i : Instr} {n : Nat} (hi : ChangesAttempt i n) : (requestFrame i).isSome = true := by
  rcases hi with ⟨_, _, _, rfl, _⟩ | ⟨_, rfl⟩ | ⟨_, _, rfl, _⟩ | ⟨_, _, rfl, _⟩ | ⟨_, rfl⟩ <;> rfl

theorem attempt_request_refused {i : Instr} {n : Nat} {s : State} {code : ReplyCode} (hF : Free s) (hi : ChangesAttempt i n)
    (h : attemptRefusal n s = some code) : Refuses i code s := by
  obtain ⟨⟨kind, tag, ps⟩, hf⟩ := Option.isSome_iff_exists.mp hi.isRequest
  have htaken : attemptRefusal n (taken kind tag s) = some code := by simpa [attemptRefusal] using h
  exact refuses_of_block hF hf (exec_of_request hi.isRequest s) (serve_of_attemptRefusal hi htaken)

/-- Settles O18: the edits, the requests about an attempt, and the operands that are checked before the number. -/
theorem editsAreLockedAndAttemptsChecked : Obligations.EditsAreLockedAndAttemptsChecked := by
  refine ⟨fun i s hF hi => ⟨fun hopen => ?_, fun hclosed hw => ?_⟩, fun i n s hF hi => ⟨fun hout => ?_, fun hlo hhi hnone => ?_,
    fun a hlo hhi ha hconfirmed => ?_⟩, fun s tag n judge mark d w hF => ⟨fun hout => ?_, fun hout => ?_, fun hout => ?_⟩⟩
  · refine edit_refused hF hi (editBlocked_of_open ?_)
    rcases hopen with h | h | h <;> simp [hasOpenRound, h]
  · refine edit_refused hF hi (editBlocked_of_writing ?_ hw)
    rcases hclosed with h | h <;> simp [hasOpenRound, h]
  · exact attempt_request_refused hF hi (by simp [attemptRefusal, attemptOk_eq_false hout])
  · exact attempt_request_refused hF hi (by simp [attemptRefusal, attemptOk_eq_true hlo hhi, hnone])
  · have hlocked := (ofConfirmedRound_iff s a).mpr hconfirmed
    exact attempt_request_refused hF hi (by simp [attemptRefusal, attemptOk_eq_true hlo hhi, ha, hlocked])
  · refine refuses_of_block hF rfl rfl (if_pos ?_)
    simp [within]; omega
  · refine refuses_of_block hF rfl rfl (if_pos ?_)
    simp [within]; omega
  · refine refuses_of_block hF rfl rfl (if_pos ?_)
    simp; omega

end Sys2Proof.Machine

/-! PROOFS. The hill profile (01): SET HILL, SET SURVEY, the store write, and the reads. -/

namespace Sys2Proof.Machine

/-! ## SET HILL (R4) -/

theorem notAbove_iff (n : Nat) (g : Option Nat) : notAbove n g = true ↔ ∀ x, g = some x → x ≤ n := by
  cases g <;> simp [notAbove]

theorem hillAcceptable_iff (h : HillSection) (g : Gate) : hillAcceptable h g = true ↔
    hillOk h = true ∧ (∀ x, g.current = some x → x ≤ h.gates) ∧ ∀ x, g.jury = some x → x ≤ h.gates := by
  simp only [hillAcceptable, Bool.and_eq_true, notAbove_iff, and_assoc]

/-- The notice of console B's new setting (R110). -/
def consoleBNotices (inUse : Bool) (m : Meas) : List NoticeBody :=
  if inUse then if m.stateB = .disabled then [.console .b .disabled .silent] else []
  else if m.stateB = .disabled then [] else [.console .b m.stateB .disabled]

/-- MEAS as console B's setting leaves it (R110). -/
def consoleBSet (inUse : Bool) (m : Meas) : Meas :=
  if inUse then if m.stateB = .disabled then { m with stateB := .silent, silenceB := some 5000, asmB := [] } else m
  else if m.stateB = .disabled then m else { m with stateB := .disabled, silenceB := none, asmB := [] }

theorem followConsoleB_eq (inUse : Bool) (s : State) : followConsoleB inUse s =
    (s.onMeas (consoleBSet inUse)).onLink fun l => (consoleBNotices inUse s.meas).foldl (fun l b => queueNotice b l) l := by
  simp only [followConsoleB, consoleBSet, consoleBNotices, State.onMeas, State.onLink, notify]
  repeat' split
  all_goals rfl

/-- What SET HILL's block leaves, where it accepts. -/
theorem setHill_completes {s : State} (hF : Free s) (tag : Byte) {h : HillSection} (hblocked : editBlocked s = none)
    (hok : hillAcceptable h s.gate = true) :
    Completes (.setHill tag h) .done .none [.prof, .wln, .meas] s fun t =>
      t.prof = { s.prof with profile := { s.prof.profile with hill := h }, unsaved := true }
      ∧ LinkKept s t ∧ Boards [] s t ∧ t.brd.subjects = s.brd.subjects ∧ t.wln = followWindSettings h s.wln
      ∧ t.meas = consoleBSet h.consoleBInUse s.meas ∧ Sends (consoleBNotices h.consoleBInUse s.meas) s t := by
  have hserve : serveSetHill h (taken 0x10 tag s) = done (followConsoleB h.consoleBInUse
      ((edit (fun p => { p with hill := h }) (taken 0x10 tag s)).onWln (followWindSettings h))) := by
    simp [serveSetHill, hblocked, hok]
  rw [followConsoleB_eq] at hserve
  refine Completes.of_block hF rfl rfl hserve (foldl_queueNotice_core _ _) ⟨fun b hb => ?_, rfl, rfl⟩ fun t ht => ?_
  · cases b <;> simp [SameBlock, edit] at hb ⊢
  · refine ⟨?_, ht.kept (LinkKept.of_core (foldl_queueNotice_core _ _)), ht.boards [] ?_ ?_, ?_, ?_, ?_, ht.sends _ ?_⟩
    · rw [ht.prof]; simp [edit]
    · simp [edit]
    · simp [edit, onto]
    · rw [ht.subjects]; simp [edit]
    · rw [ht.wln]; simp [edit]
    · rw [ht.meas]; simp [edit]
    · simp [edit]

/-- Settles O19: the four cases of console B. -/
theorem setHillReplacesTheSection : Obligations.SetHillReplacesTheSection := by
  intro s tag h hF hopen hwriting
  have hblocked := editBlocked_of_free hopen hwriting
  refine ⟨fun hok hcurrent hjury => ?_, fun hbad => ?_⟩
  · obtain ⟨t, hanswers, honly, hprof, hkept, hboards, hsubjects, hwln, hmeas, hsends⟩ :=
      setHill_completes hF tag hblocked ((hillAcceptable_iff h s.gate).mpr ⟨hok, hcurrent, hjury⟩)
    refine ⟨t, hanswers, honly, hprof, hkept, hboards, hsubjects, ?_, ?_, ?_, fun hon hb => ?_, fun hon hb => ?_,
      fun hoff hb => ?_, fun hoff hb => ?_⟩
    · rw [hwln]; rfl
    · rw [hwln]; simp [followWindSettings, HillSection.autoSwapOn]
    · rw [hwln]; rfl
    all_goals
      rw [hmeas]
      simp only [consoleBNotices, consoleBSet, HillSection.consoleBInUse] at hsends ⊢
      simp_all
  · refine refuses_of_block hF rfl rfl ?_
    have hnot : hillAcceptable h s.gate = false := by
      rw [Bool.eq_false_iff, Ne, hillAcceptable_iff]
      rintro ⟨hok, hcurrent, hjury⟩
      rcases hbad with hbad | ⟨g, hg, hlt⟩ | ⟨g, hg, hlt⟩
      · rw [hok] at hbad; cases hbad
      · exact absurd (hcurrent g hg) (Nat.not_le.mpr hlt)
      · exact absurd (hjury g hg) (Nat.not_le.mpr hlt)
    simp [serveSetHill, hblocked, hnot]

/-! ## SET SURVEY and the store write (R6, R8, R9) -/

section Survey

variable {s : State} (hF : Free s) (tag : Byte)

include hF

theorem setSurvey_completes {points : List SurveyPoint} (hblocked : editBlocked s = none) (hok : surveyOk points = true) :
    Completes (.setSurvey tag points) .done .none [.prof] s fun t =>
      t.prof = { s.prof with profile := { s.prof.profile with survey := some points }, unsaved := true } ∧ Quiet s t := by
  have hserve : serveSetSurvey points (taken 0x12 tag s) =
      done (edit (fun p => { p with survey := some points }) (taken 0x12 tag s)) := by
    simp [serveSetSurvey, hblocked, hok]
  refine Completes.of_block hF rfl rfl hserve rfl ⟨fun b hb => ?_, rfl, rfl⟩ fun t ht => ⟨?_, ht.quiet rfl (by simp [edit])⟩
  · cases b <;> simp [SameBlock, edit] at hb ⊢
  · rw [ht.prof]; simp [edit]

theorem storeProfile_completes (hblocked : editBlocked s = none) (hok : crossChecks s.prof.profile = true) :
    Completes (.storeProfile tag) .accepted .none [.prof] s fun t =>
      t.prof.writing = some s.prof.profile ∧ t.prof.profile = s.prof.profile ∧ t.prof.valid = s.prof.valid
        ∧ t.prof.unsaved = s.prof.unsaved ∧ Quiet s t := by
  have hserve : serveStoreProfile (taken 0x14 tag s) = accepted ((taken 0x14 tag s).onProf fun p =>
      { p with writing := some p.profile, image := { p.image with crcMatches := false } }) := by
    simp [serveStoreProfile, hblocked, hok]
  refine Completes.of_block hF rfl rfl hserve rfl ⟨fun b hb => ?_, rfl, rfl⟩ fun t ht => ?_
  · cases b <;> simp [SameBlock] at hb ⊢
  · rw [ht.prof]
    exact ⟨by simp, by simp, by simp, by simp, ht.quiet rfl (by simp)⟩

end Survey

theorem storeWriteEnd_verified {s : State} {p : Profile} (hp : s.prof.writing = some p) :
    Happens (.storeWriteEnd true) [.prof] s fun t =>
      t.prof = { s.prof with image := { profile := p, crcMatches := true }, valid := true, unsaved := false, writing := none }
        ∧ LinkKept s t ∧ Boards [] s t ∧ Sends [.profileStored false] s t := by
  have heffect : writeEnded true (startTx s) = notify (.profileStored false) ((startTx s).onProf fun q =>
      { q with image := { profile := p, crcMatches := true }, valid := true, unsaved := false, writing := none }) := by
    simp [writeEnded, hp]
  refine Happens.of_block rfl heffect ⟨fun b hb => ?_, rfl, rfl⟩ fun t ht => ⟨?_, ?_, ?_, ?_⟩
  · cases b <;> simp [SameBlock] at hb ⊢
  · rw [ht.prof]; simp
  · exact ht.kept (LinkKept.of_core (by simp))
  · exact ht.boards [] (by simp) (by simp [onto])
  · exact ht.sends _ rfl

theorem storeWriteEnd_failed {s : State} {p : Profile} (hp : s.prof.writing = some p) :
    Happens (.storeWriteEnd false) [.prof, .diag] s fun t =>
      t.prof = { s.prof with image := { profile := p, crcMatches := false }, writing := none }
        ∧ t.diag = reported .storeWrite 0 s ∧ LinkKept s t ∧ Boards [] s t ∧ Sends [.profileStored true] s t := by
  have heffect : writeEnded false (startTx s) = notify (.profileStored true) (reportFault .storeWrite 0 ((startTx s).onProf fun q =>
      { q with image := { profile := p, crcMatches := false }, writing := none })) := by
    simp [writeEnded, hp]
  refine Happens.of_block rfl heffect ⟨fun b hb => ?_, ?_, ?_⟩ fun t ht => ⟨?_, ?_, ?_, ?_, ?_⟩
  · cases b <;> simp [SameBlock] at hb ⊢
  · simp
  · simp
  · rw [ht.prof]; simp
  · rw [ht.diag, notify_diag, reportFault_diag]; simp [reported]
  · exact ht.kept (LinkKept.of_core (by simp))
  · exact ht.boards [] (by simp) (by simp [onto])
  · exact ht.sends _ (by simp)

/-- An image whose CRC does not match fails the load check (R10). -/
theorem loadPasses_of_crc (p : Profile) : loadPasses { profile := p, crcMatches := false } = false := rfl

/-- Settles O21: the survey, the store request, and the two ends of the write. -/
theorem surveyStoreAndItsEnd : Obligations.SurveyStoreAndItsEnd := by
  refine ⟨fun s tag points hF hopen hwriting => ?_, fun s p hp => ⟨storeWriteEnd_verified hp, ?_⟩⟩
  · have hblocked := editBlocked_of_free hopen hwriting
    refine ⟨setSurvey_completes hF tag hblocked, fun hbad => ?_, storeProfile_completes hF tag hblocked, fun hbad => ?_⟩
    · exact refuses_of_block hF rfl rfl (by simp [serveSetSurvey, hblocked, hbad])
    · exact refuses_of_block hF rfl rfl (by simp [serveStoreProfile, hblocked, hbad])
  · obtain ⟨t, hexec, honly, hprof, hdiag, hkept, hboards, hsends⟩ := storeWriteEnd_failed hp
    refine ⟨t, hexec, honly, ?_, ?_, ?_, ?_, ?_, fun hnone => ?_, fun hsome => ?_, hkept, hboards, hsends⟩
    · rw [hprof]
    · rw [hprof]
    · rw [hprof]
    · rw [hprof]
    · rw [hprof]; exact loadPasses_of_crc p
    · rw [hdiag, reported, hnone]
    · obtain ⟨c, hc⟩ := Option.isSome_iff_exists.mp hsome
      rw [hdiag, reported, hc]

end Sys2Proof.Machine

/-! PROOFS. The reads (R11, R14, R36, R87, R93, R150, R161, R162, R163), and the ranks that READ AT CURSOR gives (R133, R134). -/

namespace Sys2Proof.Machine

/-! ## Reads that change nothing -/

section Plain

variable {s : State} (hF : Free s) (tag : Byte)

include hF

theorem readProfile_completes (k : Nat) :
    (Completes (.readProfile tag 0 k) .done (.hill s.prof.profile.hill) [] s (Quiet s))
    ∧ (k ≤ 7 → Completes (.readProfile tag 1 k) .done (.slot (slot? s k)) [] s (Quiet s))
    ∧ (Completes (.readProfile tag 2 k) .done (.survey s.prof.profile.survey) [] s (Quiet s))
    ∧ (Completes (.readProfile tag 3 k) .done (.lines s.prof.profile.lines) [] s (Quiet s))
    ∧ (Completes (.readProfile tag 4 k) .done
        (.profileState s.prof.valid s.prof.unsaved s.prof.writing.isSome s.prof.profile.survey.isSome) [] s (Quiet s)) := by
  refine ⟨Completes.quiet hF rfl rfl ?_, fun hk => Completes.quiet hF rfl rfl ?_, Completes.quiet hF rfl rfl ?_,
    Completes.quiet hF rfl rfl ?_, Completes.quiet hF rfl rfl ?_⟩
  · simp [serveReadProfile, doneWith]
  · simp [serveReadProfile, doneWith, Nat.not_lt.mpr hk]
  · simp [serveReadProfile, doneWith]
  · simp [serveReadProfile, doneWith]
  · simp [serveReadProfile, doneWith]

theorem readProfile_refused {selector k : Nat} (h : 4 < selector ∨ (selector = 1 ∧ 7 < k)) :
    Refuses (.readProfile tag selector k) .range s := by
  refine refuses_of_block hF rfl rfl ?_
  match selector, h with
  | 1, .inr ⟨_, hk⟩ => exact if_pos hk
  | n + 5, _ => rfl

theorem readAttempt_answers (n : Nat) :
    (∀ a, 1 ≤ n → n ≤ 400 → attempt? s n = some a → Completes (.readAttempt tag n) .done (.attempt a) [] s (Quiet s))
    ∧ (n = 0 ∨ 400 < n → Refuses (.readAttempt tag n) .range s)
    ∧ (1 ≤ n → n ≤ 400 → attempt? s n = none → Refuses (.readAttempt tag n) .notFound s) := by
  refine ⟨fun a hlo hhi ha => Completes.quiet hF rfl rfl ?_, fun hout => refuses_of_block hF rfl rfl ?_,
    fun hlo hhi hnone => refuses_of_block hF rfl rfl ?_⟩
  · simp [serveReadAttempt, attemptOk_eq_true hlo hhi, ha, doneWith]
  · simp [serveReadAttempt, attemptOk_eq_false hout]
  · simp [serveReadAttempt, attemptOk_eq_true hlo hhi, hnone]

theorem readLines_completes : Completes (.readLines tag) .done
    (.levels ((List.range 16).map (sensed s)) (reportedLevel .leave s) (reportedLevel .juryStop s)) [] s (Quiet s) := by
  refine Completes.quiet hF rfl rfl ?_
  have hlevel : ∀ l, reportedLevel l (taken 0x17 tag s) = reportedLevel l s := fun l => by simp [reportedLevel]
  have hsensed : sensed (taken 0x17 tag s) = sensed s := funext fun n => taken_sensed s _ _ n
  rw [serveReadLines, hlevel, hlevel, hsensed]
  rfl

/-! ## Reads that clear what they report -/

theorem stationStatus_completes {k : Nat} {x : StationSlot} (hk : k ≤ 7) (hx : slot? s k = some x) :
    Completes (.stationStatus tag k) .done
      (.station x.address (station s k) (((station s k).reading.map (readingFresh s)).getD false)) [.wln] s fun t =>
        Quiet s t ∧ t.wln = { s.wln with stations := s.wln.stations.modify k fun r => { r with latch := false } } := by
  have hserve : serveStationStatus k (taken 0x50 tag s) =
      doneWith (.station x.address (station s k) (((station s k).reading.map (readingFresh s)).getD false))
        (setStation k (fun r => { r with latch := false }) (taken 0x50 tag s)) := by
    simp [serveStationStatus, Nat.not_lt.mpr hk, hx]
  refine Completes.of_block hF rfl rfl hserve rfl ⟨fun b hb => ?_, rfl, rfl⟩ fun t ht => ⟨ht.quiet rfl (by simp), ?_⟩
  · cases b <;> simp [SameBlock, setStation] at hb ⊢
  · rw [ht.wln]; simp [setStation]

theorem readWind_completes : Completes (.readWind tag) .done (.wind (windReport s)) [.wln] s fun t =>
    Quiet s t ∧ t.wln = { s.wln with noise := 0 } := by
  have hserve : serveReadWind (taken 0x53 tag s) =
      doneWith (.wind (windReport s)) ((taken 0x53 tag s).onWln fun w => { w with noise := 0 }) := by
    simp [serveReadWind]
  refine Completes.of_block hF rfl rfl hserve rfl ⟨fun b hb => ?_, rfl, rfl⟩ fun t ht => ⟨ht.quiet rfl (by simp), ?_⟩
  · cases b <;> simp [SameBlock] at hb ⊢
  · rw [ht.wln]; simp

theorem readFault_completes : Completes (.readFault tag) .done (.fault s.diag.capture s.diag.seconds) [.diag] s fun t =>
    Quiet s t ∧ t.diag = { s.diag with capture := none, seconds := 0 } := by
  have hserve : serveReadFault (taken 0x7D tag s) = doneWith (.fault s.diag.capture s.diag.seconds)
      ((taken 0x7D tag s).onDiag fun d => { d with capture := none, seconds := 0 }) := by
    simp [serveReadFault]
  refine Completes.of_block hF rfl rfl hserve rfl ⟨fun b hb => ?_, rfl, rfl⟩ fun t ht => ⟨ht.quiet rfl (by simp), ?_⟩
  · cases b <;> simp [SameBlock] at hb ⊢
  · rw [ht.diag]; simp

end Plain

theorem freshGating_isSome (s : State) : (freshGating s).isSome =
    (s.wln.gating.value.isSome && decide (s.wln.gating.age ≤ s.prof.profile.hill.freshness)) := by
  unfold freshGating
  split
  next v hv => by_cases h : s.wln.gating.age ≤ s.prof.profile.hill.freshness <;> simp [hv, h]
  next hv => simp [hv]

/-- Settles O23: the plain reads, and the three that clear. -/
theorem readsReportAndSomeClear : Obligations.ReadsReportAndSomeClear := by
  refine ⟨fun s tag k n hF => ?_, fun s tag k hF => ?_⟩
  · obtain ⟨hhill, hslot, hsurvey, hlines, hstate⟩ := readProfile_completes hF tag k
    obtain ⟨hattempt, hrange, hunknown⟩ := readAttempt_answers hF tag n
    refine ⟨hhill, hslot, hsurvey, hlines, hstate, fun selector h => readProfile_refused hF tag h, readLines_completes hF tag,
      hattempt, ⟨hrange, hunknown⟩, Completes.quiet hF rfl rfl ?_, rfl, Completes.quiet hF rfl rfl ?_⟩
    · simp [serveBoardStatus, doneWith]
    · simp [serveReadCounters, doneWith]
  · refine ⟨fun x hk hx => stationStatus_completes hF tag hk hx, readWind_completes hF tag, ?_, readFault_completes hF tag,
      fun hk => refuses_of_block hF rfl rfl (if_pos hk), fun hk hnone => refuses_of_block hF rfl rfl ?_⟩
    · rw [windReport, freshGating_isSome]; rfl
    · simp [serveStationStatus, Nat.not_lt.mpr hk, hnone]

/-! ## READ AT CURSOR (R161) -/

@[simp] theorem taken_attemptCursor (kind tag : Byte) (s : State) :
    (taken kind tag s).link.attemptCursor = s.link.attemptCursor := by
  obtain ⟨-, -, -, -, -, -, -, hcursor, -⟩ := taken_kept kind tag s
  exact hcursor

@[simp] theorem taken_rankCursor (kind tag : Byte) (s : State) :
    (taken kind tag s).link.rankCursor = s.link.rankCursor := by
  obtain ⟨-, -, -, -, -, -, -, -, hcursor⟩ := taken_kept kind tag s
  exact hcursor

section Cursor

variable {s : State} (hF : Free s) (tag : Byte)

include hF

theorem readAtCursor_attempt {a : Attempt} (ha : attempt? s s.link.attemptCursor.position = some a) :
    Completes (.readAtCursor tag 0) .done (.cursorAttempt s.link.attemptCursor.position a) [] s fun t =>
      t.link.attemptCursor = s.link.attemptCursor.next ∧ t.link.rankCursor = s.link.rankCursor ∧ Boards [] s t
        ∧ Sends [] s t := by
  have hserve : serveReadAtCursor 0 (taken 0x71 tag s) = doneWith (.cursorAttempt s.link.attemptCursor.position a)
      ((taken 0x71 tag s).onLink fun l => { l with attemptCursor := l.attemptCursor.next }) := by
    simp [serveReadAtCursor, ha]
  refine Completes.of_link_update hF rfl rfl hserve ⟨_, rfl, rfl, rfl⟩ (fun _ => ⟨rfl, rfl, rfl⟩) fun t ht hboards hsends => ?_
  obtain ⟨-, -, -, -, -, -, -, hcursor, hrank⟩ := ht.settled
  refine ⟨?_, ?_, hboards, hsends⟩
  · rw [hcursor]; simp
  · rw [hrank]; simp

theorem readAtCursor_rank {r : RankRecord} (hr : rankRecord s s.link.rankCursor.position = some r) :
    Completes (.readAtCursor tag 1) .done (.cursorRank s.link.rankCursor.position r) [] s fun t =>
      t.link.rankCursor = s.link.rankCursor.next ∧ t.link.attemptCursor = s.link.attemptCursor ∧ Boards [] s t
        ∧ Sends [] s t := by
  have hserve : serveReadAtCursor 1 (taken 0x71 tag s) = doneWith (.cursorRank s.link.rankCursor.position r)
      ((taken 0x71 tag s).onLink fun l => { l with rankCursor := l.rankCursor.next }) := by
    simp [serveReadAtCursor, hr]
  refine Completes.of_link_update hF rfl rfl hserve ⟨_, rfl, rfl, rfl⟩ (fun _ => ⟨rfl, rfl, rfl⟩) fun t ht hboards hsends => ?_
  obtain ⟨-, -, -, -, -, -, -, hcursor, hrank⟩ := ht.settled
  refine ⟨?_, ?_, hboards, hsends⟩
  · rw [hrank]; simp
  · rw [hcursor]; simp

end Cursor

/-! ## Totals and ranks (R133, R134) -/

theorem rankingTotal_eq_sum (c : Competitor) : rankingTotal c = (c.totals.map fun v => v.getD 0).sum := by
  unfold rankingTotal
  induction c.totals with
  | nil => rfl
  | cons v vs ih => cases v <;> simpa using ih

/-- The entries of the ranking with a greater total than `total` that are not disqualified. -/
theorem greater_length_eq_countP (dir : List Competitor) (ranking : List Nat) (total : Nat) :
    ((rankedRecords dir ranking).filter fun o => decide (total < rankingTotal o)).length =
      ranking.countP fun b => (findBib dir b).any fun x => !x.disqualified && decide (total < rankingTotal x) := by
  unfold rankedRecords
  induction ranking with
  | nil => rfl
  | cons b r ih =>
    cases hb : findBib dir b with
    | none => simpa [List.countP_cons, hb] using ih
    | some x =>
      simp only [List.filter_filter] at ih
      cases hx : x.disqualified <;> by_cases hlt : total < rankingTotal x <;>
        simp [hb, hx, hlt, ih]

/-- A competitor with a greater total in the ranking stands before. -/
theorem greater_length_lt {dir : List Competitor} {ranking : List Nat} {c d : Competitor} {b : Nat} (hb : b ∈ ranking)
    (hd : findBib dir b = some d) (hdis : d.disqualified = false) (hlt : rankingTotal c < rankingTotal d) :
    ((rankedRecords dir ranking).filter fun o => decide (rankingTotal d < rankingTotal o)).length <
      ((rankedRecords dir ranking).filter fun o => decide (rankingTotal c < rankingTotal o)).length := by
  have hmem : d ∈ (rankedRecords dir ranking).filter fun o => decide (rankingTotal c < rankingTotal o) := by
    simp only [rankedRecords, List.mem_filter, List.mem_filterMap, hlt, decide_true, and_true]
    exact ⟨⟨b, hb, hd⟩, by simp [hdis]⟩
  have hsub : ((rankedRecords dir ranking).filter fun o => decide (rankingTotal d < rankingTotal o)) =
      ((rankedRecords dir ranking).filter fun o => decide (rankingTotal c < rankingTotal o)).filter
        fun o => decide (rankingTotal d < rankingTotal o) := by
    rw [List.filter_filter]
    refine List.filter_congr fun o _ => ?_
    by_cases ho : rankingTotal d < rankingTotal o
    · simp [ho, hlt.trans ho]
    · simp [ho]
  rw [hsub, List.length_filter_lt_length_iff_exists]
  exact ⟨d, hmem, by simp⟩

theorem rankOf_of_disqualified {dir : List Competitor} {ranking : List Nat} {c : Competitor} (h : c.disqualified = true) :
    rankOf dir ranking c = none := if_pos h

theorem rankOf_of_not {dir : List Competitor} {ranking : List Nat} {c : Competitor} (h : c.disqualified = false) :
    rankOf dir ranking c =
      some (1 + ((rankedRecords dir ranking).filter fun o => decide (rankingTotal c < rankingTotal o)).length) := by
  rw [rankOf, h]; rfl

/-- Settles O25: the two cursors, the record of a position, and the ranks. -/
theorem cursorsReadAndAdvance : Obligations.CursorsReadAndAdvance := by
  intro s tag hF
  refine ⟨fun a ha => readAtCursor_attempt hF tag ha, fun hnone => refuses_of_block hF rfl rfl ?_,
    fun r hr => readAtCursor_rank hF tag hr, fun hnone => refuses_of_block hF rfl rfl ?_,
    fun selector h => refuses_of_block hF rfl rfl ?_, fun p hp => ?_, fun p b c hb hc => ?_, rankingTotal_eq_sum,
    fun dir ranking c => ⟨rankOf_of_disqualified, fun hc => ?_, fun d hc hd => ⟨fun heq => ?_, fun b hb hfind hlt => ?_⟩⟩⟩
  · simp [serveReadAtCursor, hnone]
  · simp [serveReadAtCursor, hnone]
  · match selector, h with
    | n + 2, _ => rfl
  · simp [rankRecord, List.getElem?_eq_none hp]
  · simp [rankRecord, hb, hc]
  · rw [rankOf_of_not hc, greater_length_eq_countP]
  · rw [rankOf_of_not hc, rankOf_of_not hd, heq]
  · exact ⟨_, _, rankOf_of_not hd, rankOf_of_not hc, by have := greater_length_lt hb hfind hd hlt; omega⟩

end Sys2Proof.Machine

/-! PROOFS. LINK's and DIAG's settings (R153, R155, R158, R159, R162). -/

namespace Sys2Proof.Machine

section Requests

variable {s : State} (hF : Free s) (tag : Byte)

include hF

theorem setClock_completes {time : Nat} (h : time ≤ 86399999) : Completes (.setClock tag time) .done .none [] s fun t =>
    t.link.clock = time ∧ t.link.clockSet = true ∧ t.link.mask = s.link.mask ∧ Boards [] s t ∧ Sends [] s t := by
  have hserve : serveSetClock time (taken 0x78 tag s) =
      done ((taken 0x78 tag s).onLink fun l => { l with clock := time, clockSet := true }) := if_neg (Nat.not_lt.mpr h)
  refine Completes.of_link_update hF rfl rfl hserve ⟨_, rfl, rfl, rfl⟩ (fun _ => ⟨rfl, rfl, rfl⟩) fun t ht hboards hsends => ?_
  obtain ⟨-, -, -, -, hmask, hclock, hset, -⟩ := ht.settled
  exact ⟨hclock, hset, by simpa using hmask, hboards, hsends⟩

theorem setNotices_completes (mask : BitVec 16) : Completes (.setNotices tag mask) .done .none [] s fun t =>
    t.link.mask = mask ∧ t.link.clock = s.link.clock ∧ Boards [] s t ∧ outgoing t.link = outgoing (startTx s).link := by
  refine Completes.of_link_update hF rfl rfl (f := fun l => { l with mask }) rfl ⟨_, rfl, rfl, rfl⟩ (fun _ => ⟨rfl, rfl, rfl⟩)
    fun t ht hboards hsends => ?_
  obtain ⟨-, -, -, -, hmask, hclock, -⟩ := ht.settled
  exact ⟨hmask, by simpa using hclock, hboards, hsends.1⟩

theorem setLink_completes {rate setting : Nat} (hrate : rate ≤ 3) (hsetting : setting ≤ 1) :
    Completes (.setLink tag rate setting) .done .none [] s fun t => Quiet s t
      ∧ t.link.inHand = some { kind := 0x7A, tag, change := some (rate, setting == 1) } := by
  have hserve : serveSetLink rate setting (taken 0x7A tag s) =
      done ((taken 0x7A tag s).onLink fun l => { l with inHand := l.inHand.map (withChange rate (setting == 1)) }) :=
    if_neg (by omega)
  refine Completes.of_link_update hF rfl rfl hserve ⟨_, rfl, rfl, rfl⟩ (fun _ => ⟨rfl, rfl, rfl⟩) fun t ht hboards hsends => ?_
  have hkept := ht.kept ⟨rfl, rfl, rfl, rfl, rfl, rfl, rfl, rfl, rfl⟩
  exact ⟨⟨hkept, hboards, ht.subjects.trans (by simp), hsends⟩, ht.inHand⟩

theorem selectCounter_completes {n k q : Nat} {c : CounterKind} {d : Diag} (hq : q ≤ 1) (hk : counterKinds[k]? = some c)
    (hd : (n = 0 ∧ d = { s.diag with counter0 := { kind := c, openOnly := q == 1, value := 0 } })
      ∨ (n = 1 ∧ d = { s.diag with counter1 := { kind := c, openOnly := q == 1, value := 0 } })) :
    Completes (.selectCounter tag n k q) .done .none [.diag] s fun t => t.diag = d ∧ Quiet s t := by
  have hserve : serveSelectCounter n k q (taken 0x7B tag s) = done ((taken 0x7B tag s).onDiag fun _ => d) := by
    rcases hd with ⟨rfl, rfl⟩ | ⟨rfl, rfl⟩ <;> simp [serveSelectCounter, Nat.not_lt.mpr hq, hk, State.onDiag]
  refine Completes.of_block hF rfl rfl hserve rfl ⟨fun b hb => ?_, rfl, rfl⟩ fun t ht => ⟨ht.diag, ht.quiet rfl (by simp)⟩
  cases b <;> simp [SameBlock] at hb ⊢

theorem selectCounter_refused {n k q : Nat} (h : 1 < n ∨ 15 < k ∨ 1 < q) : Refuses (.selectCounter tag n k q) .range s := by
  refine refuses_of_block hF rfl rfl ?_
  unfold serveSelectCounter
  by_cases hq : 1 < q
  · exact if_pos hq
  · rw [if_neg hq]
    split
    next hk => exact absurd (List.getElem?_eq_some_iff.mp hk).1 (by simp [counterKinds]; omega)
    next hk => exact absurd (List.getElem?_eq_some_iff.mp hk).1 (by simp [counterKinds]; omega)
    · rfl

end Requests

/-! ## The settings take effect (R153) -/

/-- The end of a reply that carries new settings (R153, log 39). -/
def newSettings (rate : Nat) (brk : Bool) (s : State) : State :=
  let s' := s.onLink fun l => { l with rate, brk }
  if s.link.asm = [] ∨ (rate = s.link.rate ∧ brk = s.link.brk) then s' else linkBad s'

theorem applyChange_eq (rate : Nat) (brk : Bool) (s : State) : applyChange (some (rate, brk)) s = newSettings rate brk s := by
  have hsame : rate = s.link.rate ∧ brk = s.link.brk → (s.onLink fun l => { l with rate, brk }) = s := by
    rintro ⟨rfl, rfl⟩; rfl
  simp only [applyChange, newSettings]
  by_cases heq : s.link.rate = rate ∧ s.link.brk = brk
  · rw [if_pos heq, if_pos (.inr ⟨heq.1.symm, heq.2.symm⟩), hsame ⟨heq.1.symm, heq.2.symm⟩]
  · rw [if_neg heq]
    have hne : ¬(rate = s.link.rate ∧ brk = s.link.brk) := fun h => heq ⟨h.1.symm, h.2.symm⟩
    by_cases hasm : s.link.asm = [] <;> simp [hasm, hne]

theorem newSettings_link (rate : Nat) (brk : Bool) (s : State) :
    (newSettings rate brk s).link.rate = rate ∧ (newSettings rate brk s).link.brk = brk
      ∧ (newSettings rate brk s).link.buffer = s.link.buffer
      ∧ (newSettings rate brk s).link.asm =
        (if s.link.asm = [] ∨ (rate = s.link.rate ∧ brk = s.link.brk) then s.link.asm else []) := by
  unfold newSettings
  simp only
  split
  · exact ⟨rfl, rfl, rfl, rfl⟩
  · have hcore := count_link_core ((s.onLink fun l => { l with rate, brk }).onLink fun l => { l with asm := [] }) .linkBad
    simp only [Link.core, Link.mk.injEq] at hcore
    obtain ⟨hrate, hbrk, hasm, hbuffer, -⟩ := hcore
    exact ⟨hrate, hbrk, hbuffer, hasm⟩

theorem newSettings_onlyChanges (rate : Nat) (brk : Bool) (s : State) :
    OnlyChanges [.brd, .link, .diag] s (newSettings rate brk s) ∧ (newSettings rate brk s).brd = s.brd := by
  unfold newSettings
  simp only
  split
  · exact ⟨OnlyChanges.of_onLink _, rfl⟩
  · refine ⟨⟨fun b hb => ?_, ?_, ?_⟩, ?_⟩
    · cases b <;> simp [SameBlock, linkBad] at hb ⊢
    · simp [linkBad]
    · simp [linkBad]
    · simp [linkBad]

/-- SET LINK's settings take effect when the last byte of its reply has been sent. -/
theorem replySent_of_change {s : State} {r : Reply} {status : BitVec 8} {h : InHand} {rate : Nat} {brk : Bool}
    (htx : s.link.tx = .reply r status) (hhand : s.link.inHand = some h) (hchange : h.change = some (rate, brk))
    (hbuf : s.link.buffer = []) : Happens .replySent [.diag] s fun t =>
      t.link.rate = rate ∧ t.link.brk = brk ∧ t.link.inHand = none ∧ Boards [] s t
        ∧ (s.link.asm = [] ∨ (rate = s.link.rate ∧ brk = s.link.brk) → t.link.asm = s.link.asm ∧ t.diag = s.diag)
        ∧ (s.link.asm ≠ [] → rate ≠ s.link.rate ∨ brk ≠ s.link.brk →
            t.link.asm = [] ∧ t.diag = Sys2Proof.counted .linkBad s) := by
  obtain ⟨hrate, hbrk, hbuffer, hasm⟩ := newSettings_link rate brk s
  have heffect : replyEnded (startTx s) = (newSettings rate brk s).onLink fun l => { l with tx := .idle, inHand := none } := by
    rw [startTx_of_busy s (by simp [htx])]
    simp only [replyEnded, htx, hhand, Option.bind_some, hchange, applyChange_eq]
    exact takeNext_of_empty (hbuffer.trans hbuf)
  obtain ⟨honly, hbrd⟩ := newSettings_onlyChanges rate brk s
  refine Happens.of_block rfl heffect ?_ fun t ht => ?_
  · rw [startTx_of_busy s (by simp [htx])]
    exact honly.trans (OnlyChanges.of_onLink _)
  · obtain ⟨htrate, htbrk, htasm, -⟩ := ht.settled
    refine ⟨htrate.trans hrate, htbrk.trans hbrk, ht.inHand, ht.boards [] ?_ ?_, fun hkept => ?_, fun hne hnew => ?_⟩
    · rw [State.onLink_brd, hbrd]
    · rw [State.onLink_brd, hbrd]; rfl
    · refine ⟨htasm.trans (hasm.trans (if_pos hkept)), ht.diag.trans ?_⟩
      simp [newSettings, hkept]
    · have hbad : ¬(s.link.asm = [] ∨ (rate = s.link.rate ∧ brk = s.link.brk)) := by tauto
      refine ⟨htasm.trans (hasm.trans (if_neg hbad)), ht.diag.trans ?_⟩
      simp only [newSettings, if_neg hbad, linkBad, State.onLink_diag, count_diag]
      rfl

/-- Settles O59: the requests, and the end of SET LINK's reply. -/
theorem linkSettingsAreTaken : Obligations.LinkSettingsAreTaken := by
  refine ⟨fun s tag kind time mask hF => ?_, fun s tag rate setting hF => ⟨fun hrate hsetting => ?_, fun hbad => ?_⟩,
    fun s r status h rate brk htx hhand hchange hbuf => replySent_of_change htx hhand hchange hbuf⟩
  · refine ⟨setClock_completes hF tag, fun hlate => refuses_of_block hF rfl rfl (if_pos hlate), setNotices_completes hF tag mask,
      fun n k q h => selectCounter_refused hF tag h, fun n k q c hc hq => ⟨fun hn => ?_, fun hn => ?_, fun hn => ?_⟩,
      refuses_of_block hF rfl rfl rfl⟩
    · exact selectCounter_completes hF tag hq hc (.inl ⟨hn, rfl⟩)
    · exact selectCounter_completes hF tag hq hc (.inr ⟨hn, rfl⟩)
    · exact selectCounter_refused hF tag (.inl hn)
  · exact setLink_completes hF tag hrate hsetting
  · exact refuses_of_block hF rfl rfl (if_pos hbad)

end Sys2Proof.Machine

/-! PROOFS. The scoreboard link (09): messages, refreshes, the sending line, and the texts of the items. -/

namespace Sys2Proof.Machine

/-! ## Enqueues (R144) -/

theorem mem_enqueued (k : Key) (blank : Bool) (q : List BoardItem) : k ∈ (enqueued k blank q).1.map BoardItem.key := by
  by_cases hk : k ∈ q.map BoardItem.key
  · obtain ⟨i, hi, rfl⟩ := List.mem_map.mp hk
    rw [enqueued_of_mem blank hk]
    exact List.mem_map.mpr ⟨{ i with blank }, List.mem_map.mpr ⟨i, hi, if_pos rfl⟩, rfl⟩
  · by_cases hroom : q.length < 32
    · simp [enqueued_of_room blank hk hroom]
    · simp [enqueued_of_full blank hk (Nat.not_lt.mp hroom)]

/-- An enqueue beside the queue touches nothing but BRD while the queue has room. -/
theorem enqueueAll_brd (ks : List Key) (blank : Bool) (s : State) : (enqueueAll ks blank s).brd =
    { s.brd with queue := ks.foldl (fun q k => (enqueued k blank q).1) s.brd.queue } := by
  induction ks generalizing s with
  | nil => rfl
  | cons k r ih =>
    change (enqueueAll r blank (enqueueWith k blank s)).brd = _
    rw [ih, enqueueWith_brd]
    rfl

theorem enqueueAll_of_room {ks : List Key} {s : State} (blank : Bool) (h : s.brd.queue.length + ks.length ≤ 32) :
    (enqueueAll ks blank s).link = s.link ∧ (enqueueAll ks blank s).diag = s.diag := by
  induction ks generalizing s with
  | nil => exact ⟨rfl, rfl⟩
  | cons k r ih =>
    rw [List.length_cons] at h
    have hroom : s.brd.queue.length < 32 := by omega
    obtain ⟨hlink, hdiag⟩ := enqueueWith_of_room s k blank hroom
    have hlen : (enqueueWith k blank s).brd.queue.length ≤ s.brd.queue.length + 1 := by
      rw [enqueueWith_brd]
      exact (enqueued_room k blank _ hroom).2
    obtain ⟨hlink', hdiag'⟩ := ih (s := enqueueWith k blank s) (by omega)
    exact ⟨hlink'.trans hlink, hdiag'.trans hdiag⟩

/-! ## The send order (R145) -/

theorem mem_sendOrder {i : BoardItem} {q : List BoardItem} : i ∈ sendOrder q ↔ i ∈ q := by
  simp only [sendOrder, List.mem_append, List.mem_filter, beq_iff_eq]
  cases i.key.field.cls <;> simp

theorem sendOrder_ne_nil {q : List BoardItem} (h : q ≠ []) : ∃ i rest, sendOrder q = i :: rest := by
  obtain ⟨i, hi⟩ := List.exists_mem_of_ne_nil q h
  exact List.exists_cons_of_ne_nil (List.ne_nil_of_mem (mem_sendOrder.mpr hi))

/-- After an enqueue the key is on the line or in the queue. -/
theorem Frames.mem_of_enqueued {s t : State} {k : Key} (h : Frames [k] s t) :
    t.brd.sender.map BoardFrame.key = some k ∨ k ∈ t.brd.queue.map BoardItem.key := by
  have hmem : k ∈ (onto [k] s.brd.queue).map BoardItem.key := mem_enqueued k false _
  obtain ⟨hbegins, hstands⟩ := h
  by_cases hfree : s.brd.sender = none ∧ t.brd.pacing = none ∧ t.brd.ready = true
  · obtain ⟨hsender, hpacing, hready⟩ := hfree
    obtain ⟨i, rest, hi⟩ := sendOrder_ne_nil (q := onto [k] s.brd.queue) (by rintro h; simp [h] at hmem)
    obtain ⟨hqueue, hframe⟩ := hbegins i rest hsender hpacing hready hi
    by_cases hk : i.key = k
    · exact .inl (by rw [hframe, ← hk]; rfl)
    · obtain ⟨j, hj, rfl⟩ := List.mem_map.mp hmem
      have hne : j ≠ i := fun h => hk (h ▸ rfl)
      exact .inr (List.mem_map.mpr ⟨j, hqueue ▸ (List.mem_erase_of_ne hne).mpr hj, rfl⟩)
  · have hheld : s.brd.sender ≠ none ∨ t.brd.pacing ≠ none ∨ t.brd.ready = false ∨ onto [k] s.brd.queue = [] := by
      rw [← Bool.not_eq_true]; tauto
    obtain ⟨hqueue, -⟩ := hstands hheld
    exact .inr (hqueue ▸ hmem)

/-! ## BOARD MESSAGE and BOARD REFRESH (R148, R149) -/

/-- The text of a line that a BOARD MESSAGE may write. -/
def messageOk (line : Nat) (text : Text) : Bool := within 1 16 line && text.all printable

theorem messageOk_iff (line : Nat) (text : Text) :
    messageOk line text = true ↔ 1 ≤ line ∧ line ≤ 16 ∧ ∀ b ∈ text, 0x20 ≤ b.toNat ∧ b.toNat ≤ 0x7E := by
  simp [messageOk, within, printable, List.all_eq_true, and_assoc]

theorem serveBoardMessage_eq (line : Nat) (text : Text) (s : State) : serveBoardMessage line text s =
    if messageOk line text then
      done (enqueue { field := .message, line }
        (s.onBrd fun b => { b with messages := b.messages.set (line - 1) (text.take 32) }))
    else refuse .range s := by
  have hnot : (!within 1 16 line || !text.all printable) = !messageOk line text := (Bool.not_and _ _).symm
  rw [serveBoardMessage, hnot]
  by_cases hok : messageOk line text = true <;> simp [hok]

/-- The text of a message item is its line. -/
theorem itemText_message (s : State) (line : Nat) :
    itemText s { key := { field := .message, line }, blank := false } = (s.brd.messages.getD (line - 1) []).take 32 := rfl

theorem boardMessage_completes {s : State} (hF : Free s) (tag : Byte) {line : Nat} {text : Text}
    (hok : messageOk line text = true) :
    Completes (.boardMessage tag line text) .done .none [.diag] s fun t =>
      t.brd.messages = s.brd.messages.set (line - 1) (text.take 32) ∧ t.brd.subjects = s.brd.subjects
        ∧ t.brd.pacing = s.brd.pacing ∧ t.brd.ready = s.brd.ready ∧ t.brd.stalled = s.brd.stalled
        ∧ Frames [{ field := .message, line }] s t ∧ StallFollows s t ∧ LinkKept s t
        ∧ (Room 1 s → t.diag = s.diag ∧ Sends [] s t) := by
  have hserve : serveBoardMessage line text (taken 0x60 tag s) = done (enqueue { field := .message, line }
      ((taken 0x60 tag s).onBrd fun b => { b with messages := b.messages.set (line - 1) (text.take 32) })) := by
    rw [serveBoardMessage_eq, if_pos hok]
  refine Completes.of_block hF rfl rfl hserve (by simp) ⟨fun b hb => ?_, by simp, by simp⟩ fun t ht => ?_
  · cases b <;> simp [SameBlock] at hb ⊢
  · refine ⟨?_, ?_, ?_, ?_, ?_, ht.frames _ ?_ ?_, ht.stall ?_, ht.kept (LinkKept.of_core (by simp)), fun hroom => ?_⟩
    · rw [ht.messages]; simp [enqueue_brd]
    · rw [ht.subjects]; simp [enqueue_brd]
    · rw [ht.pacing]; simp [enqueue_brd]
    · rw [ht.ready]; simp [enqueue_brd]
    · rw [ht.stalled]; simp [enqueue_brd]
    · simp [enqueue_brd]
    · simp [enqueue_brd, onto]
    · simp [enqueue_brd]
    · have hlen : s.brd.queue.length < 32 := by unfold Room at hroom; omega
      have hfree := enqueue_of_room ((taken 0x60 tag s).onBrd fun b =>
        { b with messages := b.messages.set (line - 1) (text.take 32) }) { field := .message, line } (by simpa using hlen)
      exact ⟨by rw [ht.diag, hfree.2]; simp, ht.sends [] hfree.1⟩

theorem boardRefresh_completes {s : State} (hF : Free s) (tag : Byte) :
    Completes (.boardRefresh tag) .done .none [.diag] s fun t =>
      t.brd.subjects = s.brd.subjects ∧ LinkKept s t ∧ Boards (refreshKeys s.brd.messages) s t
        ∧ (Room (refreshKeys s.brd.messages).length s → t.diag = s.diag ∧ Sends [] s t) := by
  have hserve : serveBoardRefresh (taken 0x61 tag s) =
      done (enqueueAll (refreshKeys s.brd.messages) false (taken 0x61 tag s)) := by simp [serveBoardRefresh]
  refine Completes.of_block hF rfl rfl hserve (by simp) ⟨fun b hb => ?_, by simp, by simp⟩ fun t ht => ?_
  · cases b <;> simp [SameBlock] at hb ⊢
  · refine ⟨?_, ht.kept (LinkKept.of_core (by simp)), ht.boards _ ?_ ?_, fun hroom => ?_⟩
    · rw [ht.subjects, enqueueAll_brd]; simp
    · simp
    · rw [enqueueAll_brd]; simp [onto]
    · have hfree := enqueueAll_of_room (s := taken 0x61 tag s) false (by simpa [Room] using hroom)
      exact ⟨by rw [ht.diag, hfree.2]; simp, ht.sends [] hfree.1⟩

/-- The message lines that hold text, by their indices. -/
theorem messageKeys_eq (ms : List Text) : messageKeys ms =
    ((List.range ms.length).filter fun n => ms[n]? ≠ some []).map fun n => { field := .message, line := n + 1 } := by
  have hfrom : ∀ k, ((ms.zipIdx (k + 1)).filterMap fun x : Text × Nat =>
      if x.1 = [] then none else some ({ field := .message, line := x.2 } : Key)) =
      ((List.range ms.length).filter fun n => ms[n]? ≠ some []).map fun n => { field := .message, line := n + (k + 1) } := by
    induction ms with
    | nil => intro k; rfl
    | cons m ms ih =>
      intro k
      rw [List.zipIdx_cons, List.filterMap_cons, ih (k + 1), List.length_cons, List.range_succ_eq_map, List.filter_cons,
        List.filter_map]
      have hrest : (fun n => decide ((m :: ms)[n]? ≠ some [])) ∘ Nat.succ = fun n => decide (ms[n]? ≠ some []) := by
        funext n; simp
      rw [hrest]
      by_cases hm : m = [] <;> simp [hm, Function.comp_def, Nat.add_assoc, Nat.add_comm 1]
  exact hfrom 0

/-- Settles O57: the two requests, and the keys of a refresh. -/
theorem messagesAndRefreshesAreEnqueued : Obligations.MessagesAndRefreshesAreEnqueued := by
  intro s tag line text hF
  refine ⟨fun hlo hhi htext => ?_, fun hbad => refuses_of_block hF rfl rfl ?_, boardRefresh_completes hF tag, fun hlines => ?_⟩
  · obtain ⟨t, hanswers, honly, hmessages, hsubjects, hpacing, hready, hstalled, hframes, hstall, hkept, hroom⟩ :=
      boardMessage_completes hF tag ((messageOk_iff line text).mpr ⟨hlo, hhi, htext⟩)
    refine ⟨t, hanswers, honly, hmessages, hsubjects, Frames.mem_of_enqueued hframes, hpacing, hready, hstalled, hframes, hstall,
      fun hnot hline hnormal => ?_, fun hok hempty hsender hpace hlevel => ?_, hkept, hroom⟩
    · have hmem : onto [{ field := .message, line }] s.brd.queue ≠ [] := by
        intro h
        have hkey := mem_enqueued { field := .message, line } false s.brd.queue
        rw [show (enqueued { field := .message, line } false s.brd.queue).1 = [] from h] at hkey
        cases hkey
      obtain ⟨hqueue, -⟩ := hframes.2 (.inr (.inr (.inl (hready.trans hnot))))
      have hprof : t.prof = s.prof := honly.1 .prof (by simp)
      have hruns : t.brd.ready = false ∧ t.brd.queue ≠ [] ∧ (lineOf t .boardReady).isSome = true :=
        ⟨hready.trans hnot, hqueue ▸ hmem, by simpa [lineOf, hprof] using hline⟩
      unfold StallFollows at hstall
      rw [if_pos hruns, hstalled] at hstall
      exact ⟨fun _ hnone => by rw [hstall, if_pos ⟨hnone, hnormal⟩], fun n hn => by rw [hstall, hn]; simp⟩
    · have honto : onto [{ field := .message, line }] s.brd.queue =
          [{ key := { field := .message, line }, blank := false }] := by rw [hempty]; rfl
      have hbegins := hframes.1 { key := { field := .message, line }, blank := false } [] hsender (hpacing.trans hpace)
        (hready.trans hlevel) (by rw [honto]; rfl)
      rw [honto, itemText_message, hmessages] at hbegins
      have hlen : line - 1 < s.brd.messages.length := by rw [hok]; omega
      simpa [List.getD_eq_getElem?_getD, hlen, List.take_take] using hbegins
  · have hnot : messageOk line text ≠ true := by
      rw [Ne, messageOk_iff]
      rintro ⟨hlo, hhi, htext⟩
      rcases hbad with h | h | ⟨b, hb, h⟩
      · omega
      · omega
      · have := htext b hb; omega
    rw [serveBoardMessage_eq, if_neg hnot]
  · rw [refreshKeys, messageKeys_eq, hlines]; rfl

end Sys2Proof.Machine

/-! PROOFS. The texts of the board's items (R143), and the line that sends them (R145, R146, R147). -/

namespace Sys2Proof.Machine

/-! ## The texts (R143) -/

/-- More fuel than digits changes nothing. -/
theorem digits_succ {fuel n : Nat} (h : n < 10 ^ (fuel + 1)) : digits (fuel + 1) n = digits fuel n := by
  induction fuel generalizing n with
  | zero =>
    have hn : n < 10 := h
    simp [digits, hn, Nat.mod_eq_of_lt hn]
  | succ fuel ih =>
    have hrest : n / 10 < 10 ^ (fuel + 1) := by rwa [Nat.div_lt_iff_lt_mul (by decide), ← pow_succ]
    change (if n < 10 then _ else digits (fuel + 1) (n / 10) ++ _) = if n < 10 then _ else digits fuel (n / 10) ++ _
    rw [ih hrest]

theorem decimalsOk : DecimalsOk := by
  refine ⟨fun n hn => ?_, fun n hlo hhi => ?_⟩
  · simp [decimal, digits, hn]
  · have hfuel : digits 11 (n / 10) = decimal (n / 10) := (digits_succ (by omega)).symm
    rw [decimal, digits, if_neg (by omega), hfuel]

theorem gateText_eq (g : Option Nat) : gateText g = (g.map decimal).getD (ascii ['-', '-']) := by cases g <;> rfl

theorem rankText_eq (dir : List Competitor) (ranking : List Nat) (c : Competitor) :
    rankText dir ranking c = ((rankOf dir ranking c).map decimal).getD (ascii ['D', 'S', 'Q']) := by
  unfold rankText
  cases rankOf dir ranking c <;> rfl

theorem marksText_eq (a : Attempt) : marksText a = spaced ((a.marks.zipIdx 1).map fun (m, i) =>
    (m.map fun v => tenths (v * 5) ++ if a.style ≠ .opened ∧ isDropped a.marks i then ascii ['*'] else []).getD
      (ascii ['-', '-'])) := by
  unfold marksText
  congr 1
  refine List.map_congr_left fun ⟨m, i⟩ _ => ?_
  cases m <;> rfl

/-- The text of every board key. -/
theorem itemTexts (s : State) : ItemTexts s := by
  refine ⟨decimalsOk, fun h => ?_, fun h => ?_, fun h => ?_, fun h => ?_, fun h => ?_, fun h => ?_, fun n h => ?_,
    fun h => ?_, fun n a c hn ha hc => ?_, ?_, fun h => ?_, fun v h => ?_, fun h => ?_, fun h => ?_, fun h => ?_, fun h => ?_,
    fun h => ?_, fun n a hn ha => ?_, fun n a hn ha => ?_, fun n a hn ha => ?_, fun n a hn ha => ?_,
    fun b c hb hc => ⟨fun hout => ?_, fun hin => ?_⟩, fun n => ?_, fun n hn => ?_, fun n b c hb hc => ?_⟩
  · simp [keyText, key, h, lightName]
  · simp [keyText, key, h, lightName]
  · simp [keyText, key, h, lightName]
  · simp [keyText, key, h, lightName]
  · simp [keyText, key, h, lightName]
  · simp [keyText, key, h]
  · simp [keyText, key, h]
  · simp [keyText, key, h]
  · simp [keyText, key, hn, ha, hc, spaced]
  · simp only [keyText, key, shownGate, gateText_eq]
    cases (onHill? s).bind Attempt.attemptGate <;> rfl
  · simp [keyText, key, h]
  · simp [keyText, key, h, windText, signText]
  · simp [keyText, key, h]
  · simp [keyText, key, h]
  · simp [keyText, key, h]
  · simp [keyText, key, h]
  · simp [keyText, key, h]
  · cases hs : a.speed <;> simp [keyText, key, hn, ha, hs, tenths]
  · cases hd : a.distance <;> simp [keyText, key, hn, ha, hd, tenths]
  · simp [keyText, key, hn, ha, marksText_eq, tenths]
  · cases hp : a.points <;> simp [keyText, key, hn, ha, hp, spaced, tenths, signedTenths, signText]
  · simp [keyText, key, hb, hc, hout]
  · simp [keyText, key, hb, hc, hin, spaced, rankText_eq, tenths]
  · simp [keyText]
  · simp [keyText, List.getElem?_eq_none hn]
  · simp [keyText, hb, hc, spaced, rankText_eq, tenths]

/-! ## The send order by field (R145) -/

theorem sendOrder_by_field (q : List BoardItem) :
    sendOrder q = q.filter (fun i => i.key.field == .light || i.key.field == .countdown)
      ++ q.filter (fun i => !(i.key.field == .light || i.key.field == .countdown) && !(i.key.field == .top))
      ++ q.filter fun i => i.key.field == .top := by
  have hurgent : ∀ f : BoardField, (f.cls == .urgent) = (f == .light || f == .countdown) := by intro f; cases f <;> rfl
  have hbackground : ∀ f : BoardField, (f.cls == .background) = (f == .top) := by intro f; cases f <;> rfl
  have hnormal : ∀ f : BoardField, (f.cls == .normal) = (!(f == .light || f == .countdown) && !(f == .top)) := by
    intro f; cases f <;> rfl
  simp only [sendOrder, hurgent, hbackground, hnormal]

/-! ## The line (R145, R146, R147) -/

section Line

variable {s : State}

theorem boardFrameEnd_happens {f : BoardFrame} (hf : s.brd.sender = some f) : Happens .boardFrameEnd [.diag] s fun t =>
    t.brd.sender = none ∧ t.brd.pacing = some s.prof.profile.hill.pacing ∧ t.brd.queue = s.brd.queue
      ∧ t.brd.ready = s.brd.ready ∧ t.brd.stalled = s.brd.stalled ∧ t.brd.messages = s.brd.messages
      ∧ t.brd.subjects = s.brd.subjects ∧ StallFollows s t ∧ t.diag = Sys2Proof.counted .boardFrame s ∧ LinkKept s t
      ∧ Sends (overflows .boardFrame s) s t := by
  have heffect : frameEnded (startTx s) = count .boardFrame ((startTx s).onBrd fun b =>
      { b with sender := none, pacing := some s.prof.profile.hill.pacing }) := by
    simp [frameEnded, hf]
  refine Happens.of_block rfl heffect ⟨fun b hb => ?_, by simp, by simp⟩ fun t ht => ?_
  · cases b <;> simp [SameBlock] at hb ⊢
  · obtain ⟨hqueue, hsender⟩ := ht.frame.2 (.inr (.inl (by simp)))
    refine ⟨?_, ?_, ?_, ?_, ?_, ?_, ?_, ht.stall ?_, ?_, ht.kept (LinkKept.of_core (by simp)), ht.sends _ ?_⟩
    · rw [hsender]; simp
    · rw [ht.pacing]; simp
    · rw [hqueue]; simp
    · rw [ht.ready]; simp
    · rw [ht.stalled]; simp
    · rw [ht.messages]; simp
    · rw [ht.subjects]; simp
    · simp
    · rw [ht.diag, count_diag]; simp [Sys2Proof.counted]
    · rw [count_link]; simp [overflows]

/-- What the end of a gap leaves, before a frame may begin. -/
theorem pacingExpiry_happens {P : State → Prop}
    (hP : ∀ t, After s (startTx s) ((startTx s).onBrd fun b => { b with pacing := none }) t → LinkKept s t → Sends [] s t → P t) :
    Happens .pacingExpiry [] s P := by
  refine Happens.of_block rfl rfl ⟨fun b hb => ?_, rfl, rfl⟩ fun t ht =>
    hP t ht (ht.kept (LinkKept.of_core rfl)) (ht.sends [] rfl)
  cases b <;> simp [SameBlock, pacingExpired] at hb ⊢

/-- The state after a change of the ready level. -/
def readied (level : Bool) (s : State) : State := setReady level (setOutside (lineOf s .boardReady) level s)

theorem readied_brd (level : Bool) (s : State) : (readied level s).brd =
    { s.brd with ready := level, stalled := if level = true then false else s.brd.stalled } := by
  unfold readied setReady
  cases level <;> cases hs : s.brd.stalled <;> simp [hs]

theorem readied_link (level : Bool) (s : State) : (readied level s).link =
    (if level = true ∧ s.brd.stalled = true then [NoticeBody.boardResumed s.brd.queue.length] else []).foldl
      (fun l b => queueNotice b l) s.link := by
  unfold readied setReady
  cases level <;> cases hs : s.brd.stalled <;> simp [hs]

theorem boardReadyChange_happens {n : Nat} {level : Bool} (hn : lineOf s .boardReady = some n) {P : State → Prop}
    (hP : ∀ t, After s (startTx s) (readied level (startTx s)) t → LinkKept s t →
      Sends (if level = true ∧ s.brd.stalled = true then [.boardResumed s.brd.queue.length] else []) s t → P t) :
    Happens (.boardReadyChange level) [.fld] s P := by
  have heffect : readyChanged level (startTx s) = readied level (startTx s) := by
    simp [readyChanged, hasLine, hn, readied]
  refine Happens.of_block rfl heffect ⟨fun b hb => ?_, by simp [readied], by simp [readied]⟩ fun t ht => ?_
  · cases b <;> simp [SameBlock, readied] at hb ⊢
  · have hlink := readied_link level (startTx s)
    rw [startTx_brd] at hlink
    exact hP t ht (ht.kept (LinkKept.of_core (by rw [hlink]; exact foldl_queueNotice_core _ _))) (ht.sends _ hlink)

theorem stallTimerExpiry_happens {k : Nat} (hk : s.brd.stallTimer = some k) (hready : s.brd.ready = false) :
    Happens .stallTimerExpiry [.diag] s fun t =>
      t.brd.stalled = true ∧ t.brd.stallTimer = none ∧ t.brd.queue = s.brd.queue
        ∧ t.diag = reported .boardStall s.brd.queue.length s ∧ LinkKept s t
        ∧ Sends [.boardStall s.brd.queue.length] s t := by
  have heffect : stallExpired (startTx s) = notify (.boardStall s.brd.queue.length) (reportFault .boardStall s.brd.queue.length
      ((startTx s).onBrd fun b => { b with stallTimer := none, stalled := true })) := by
    simp [stallExpired, hk]
  refine Happens.of_block rfl heffect ⟨fun b hb => ?_, by simp, by simp⟩ fun t ht => ?_
  · cases b <;> simp [SameBlock] at hb ⊢
  · have hstall := ht.stallRule
    unfold StallFollows at hstall
    obtain ⟨hqueue, -⟩ := ht.frame.2 (.inr (.inr (.inl (by simpa using hready))))
    refine ⟨?_, ?_, ?_, ?_, ht.kept (LinkKept.of_core (by simp)), ht.sends _ (by simp)⟩
    · rw [ht.stalled]; simp
    · rw [hstall, ht.stalled]; simp
    · rw [hqueue]; simp
    · rw [ht.diag, notify_diag, reportFault_diag]; simp [reported]

end Line

/-- Settles O58: the events of the line, the texts, and the send order. -/
theorem theBoardLineIsPacedAndWatched : Obligations.TheBoardLineIsPacedAndWatched := by
  intro s k
  refine ⟨fun f hf => boardFrameEnd_happens hf, pacingExpiry_happens fun t ht hkept hsends => ?_,
    fun f hf => pacingExpiry_happens fun t ht hkept hsends => ?_,
    fun i rest hsender hready hi => pacingExpiry_happens fun t ht hkept hsends => ?_,
    fun n hn => boardReadyChange_happens hn fun t ht hkept hsends => ?_,
    fun n hn => boardReadyChange_happens hn fun t ht hkept hsends => ?_,
    fun hk hready => stallTimerExpiry_happens hk hready, fun key => ⟨rfl, rfl⟩, itemTexts s, sendOrder_by_field⟩
  · refine ⟨ht.pacing, ?_, ?_, ?_, ?_, ht.frames [] ?_ ?_, ht.stall ?_, hkept, hsends⟩
    · rw [ht.ready]; simp
    · rw [ht.stalled]; simp
    · rw [ht.messages]; simp
    · rw [ht.subjects]; simp
    · simp
    · simp [onto]
    · simp
  · obtain ⟨hqueue, hsender⟩ := ht.frame.2 (.inl (by simp [hf]))
    exact ⟨ht.pacing, hsender.trans (by simpa using hf), hqueue.trans (by simp), hkept, hsends⟩
  · obtain ⟨hqueue, hframe⟩ := ht.frame.1 i rest (by simpa using hsender) rfl (by simpa using hready) (by simpa using hi)
    refine ⟨ht.pacing, hqueue.trans (by simp), ?_, hkept, hsends⟩
    rw [hframe, itemText_congr i (s := s)] <;> simp
  · have hstall := ht.stallRule
    have hready : t.brd.ready = true := by rw [ht.ready, readied_brd]
    unfold StallFollows at hstall
    rw [if_neg (by simp [hready])] at hstall
    refine ⟨hready, ?_, hstall, ?_, ?_, ?_, ht.frames [] ?_ ?_, hkept, by simpa using hsends⟩
    · rw [ht.stalled, readied_brd]; simp
    · rw [ht.pacing, readied_brd]; simp
    · rw [ht.messages, readied_brd]; simp
    · rw [ht.subjects, readied_brd]; simp
    · rw [readied_brd]; simp
    · rw [readied_brd]; simp [onto]
  · have hready : t.brd.ready = false := by rw [ht.ready, readied_brd]
    obtain ⟨hqueue, hsender⟩ := ht.frame.2 (.inr (.inr (.inl (by rw [readied_brd]))))
    have hstall : StallFollows s t := ht.stall (by rw [readied_brd]; simp)
    have hstalled : t.brd.stalled = s.brd.stalled := by rw [ht.stalled, readied_brd]; simp
    have hqueue : t.brd.queue = s.brd.queue := by rw [hqueue, readied_brd]; simp
    have hline : (lineOf t .boardReady).isSome = true := by
      have hprof : t.prof = s.prof := by rw [ht.prof]; simp [readied]
      have hsame : lineOf t .boardReady = lineOf s .boardReady := by rw [lineOf, hprof]; rfl
      rw [hsame, hn]; rfl
    refine ⟨hready, hstalled, hqueue, ?_, fun hne hnone hnormal => ?_, fun hempty => ?_, hstall, ?_, ?_, ?_, hkept, by simpa using hsends⟩
    · rw [hsender, readied_brd]; simp
    · unfold StallFollows at hstall
      rw [hstall, if_pos ⟨hready, hqueue ▸ hne, hline⟩, if_pos ⟨hnone, hstalled.trans hnormal⟩]
    · unfold StallFollows at hstall
      rw [hstall, if_neg (by simp [hqueue, hempty])]
    · rw [ht.pacing, readied_brd]; simp
    · rw [ht.messages, readied_brd]; simp
    · rw [ht.subjects, readied_brd]; simp

end Sys2Proof.Machine

/-! PROOFS. The arithmetic of the wind (06), of the take-off speed (R107) and of the survey (R113). -/

namespace Sys2Proof.Machine

/-! ## Rounding to nearest -/

theorem roundNearest_of_nonneg {n : Int} {d : Nat} (hd : 0 < d) (hn : 0 ≤ n) : roundNearest n d = (2 * n + d) / (2 * d) := by
  obtain ⟨m, rfl⟩ := Int.eq_ofNat_of_zero_le hn
  rcases Nat.eq_zero_or_pos m with rfl | hm
  · have hzero : (d : Int) / (2 * d) = 0 := Int.ediv_eq_zero_of_lt (by omega) (by omega)
    simp [roundNearest, hzero]
  · simp [roundNearest, Int.sign_natCast_of_ne_zero hm.ne']

theorem roundNearest_of_neg {n : Int} {d : Nat} (hn : n < 0) : roundNearest n d = -((2 * -n + d) / (2 * d)) := by
  have habs : (n.natAbs : Int) = -n := by omega
  simp [roundNearest, Int.sign_eq_neg_one_of_neg hn, habs]

/-- A quotient between two bounds is rounded to a value between them. -/
theorem roundNearest_bounds {n lo hi : Int} {d : Nat} (hd : 0 < d) (hlo : lo * d ≤ n) (hhi : n ≤ hi * d) :
    lo ≤ roundNearest n d ∧ roundNearest n d ≤ hi := by
  have hd2 : (0 : Int) < 2 * d := by omega
  rcases le_or_gt 0 n with hn | hn
  · rw [roundNearest_of_nonneg hd hn]
    refine ⟨(Int.le_ediv_iff_mul_le hd2).mpr ?_, Int.lt_add_one_iff.mp ((Int.ediv_lt_iff_lt_mul hd2).mpr ?_)⟩ <;> linarith
  · rw [roundNearest_of_neg hn]
    constructor
    · rw [le_neg, ← Int.lt_add_one_iff, Int.ediv_lt_iff_lt_mul hd2]; linarith
    · rw [neg_le, Int.le_ediv_iff_mul_le hd2]; linarith

/-! ## The cosine table and the tangential component (R94, R95) -/

theorem cosTable_symmetries : (∀ x, x < 360 → 1 ≤ x → cosTable (360 - x) = cosTable x)
    ∧ (∀ x, x < 181 → cosTable (180 - x) = -cosTable x) := by decide +kernel

theorem cosTable_range (x : Nat) : -10000 ≤ cosTable x ∧ cosTable x ≤ 10000 := by
  have hentry : ∀ n, cosQuarter.getD n 0 ≤ 10000 := fun n => by
    have hall : ∀ v ∈ cosQuarter, v ≤ 10000 := by decide
    rw [List.getD_eq_getElem?_getD]
    cases hn : cosQuarter[n]? with
    | none => simp
    | some v => exact hall v (List.mem_of_getElem? hn)
  unfold cosTable
  simp only
  split <;> split <;> have := hentry <;> grind

theorem tangential_eq (speed direction bearing : Nat) :
    tangential speed direction bearing = roundNearest (speed * cosTable ((direction + 360 - bearing) % 360)) 10000 := rfl

theorem tangential_bounds {speed : Nat} (h : speed ≤ 6000) (direction bearing : Nat) :
    -6000 ≤ tangential speed direction bearing ∧ tangential speed direction bearing ≤ 6000 := by
  obtain ⟨hlo, hhi⟩ := cosTable_range ((direction + 360 - bearing) % 360)
  have hs : (0 : Int) ≤ speed ∧ (speed : Int) ≤ 6000 := by omega
  refine roundNearest_bounds (by decide) ?_ ?_ <;> push_cast <;> nlinarith

/-! ## Means and the wind figure (R96, R102) -/

theorem sum_bounds {xs : List Int} {lo hi : Int} (h : ∀ x ∈ xs, lo ≤ x ∧ x ≤ hi) :
    lo * xs.length ≤ xs.sum ∧ xs.sum ≤ hi * xs.length := by
  induction xs with
  | nil => simp
  | cons x xs ih =>
    obtain ⟨⟨hlo, hhi⟩, hrest⟩ := List.forall_mem_cons.mp h
    obtain ⟨ihlo, ihhi⟩ := ih hrest
    simp only [List.length_cons, List.sum_cons, Nat.cast_add, Nat.cast_one, mul_add, mul_one]
    constructor <;> linarith

theorem windFigure_of_ne_nil {xs : List Int} (h : xs ≠ []) : windFigure xs = some (roundNearest xs.sum xs.length) := if_neg h

theorem truncatedMean_of_ne_nil {xs : List Int} (h : xs ≠ []) : truncatedMean xs = some (xs.sum.tdiv xs.length) := if_neg h

/-! ## The wind points (R104) -/

theorem windPoints_of_headwind (h : HillSection) {w : Int} (hw : 0 ≤ w) : windPoints h w = -((h.hf * w + 50) / 100) := by
  have hn : 0 ≤ (h.hf : Int) * w := by positivity
  rw [windPoints, if_pos hw, roundNearest_of_nonneg (by decide) hn]
  omega

theorem windPoints_of_tailwind (h : HillSection) {w : Int} (hw : w < 0) : windPoints h w = (h.tf * -w + 50) / 100 := by
  have hn : 0 ≤ (h.tf : Int) * -w := mul_nonneg (by positivity) (by omega)
  rw [windPoints, if_neg (by omega), roundNearest_of_nonneg (by decide) hn]
  omega

theorem windPoints_bounds {h : HillSection} {w : Int} (hhf : h.hf ≤ 500) (htf : h.tf ≤ 500) (hlo : -6000 ≤ w) (hhi : w ≤ 6000) :
    -30000 ≤ windPoints h w ∧ windPoints h w ≤ 30000 := by
  have hf : (0 : Int) ≤ h.hf ∧ (h.hf : Int) ≤ 500 := by omega
  have tf : (0 : Int) ≤ h.tf ∧ (h.tf : Int) ≤ 500 := by omega
  rcases le_or_gt 0 w with hw | hw
  · have hn : (h.hf : Int) * w ≤ 500 * 6000 := by nlinarith
    have hpos : 0 ≤ (h.hf : Int) * w := by positivity
    rw [windPoints_of_headwind h hw]; omega
  · have hn : (h.tf : Int) * -w ≤ 500 * 6000 := by nlinarith
    have hpos : 0 ≤ (h.tf : Int) * -w := mul_nonneg (by omega) (by omega)
    rw [windPoints_of_tailwind h hw]; omega

/-- Settles O51: the table, the component, the means and the points. -/
theorem windArithmeticStaysInRange : Obligations.WindArithmeticStaysInRange := by
  refine ⟨⟨fun x hlo hhi => cosTable_symmetries.1 x (by omega) hlo, fun x hx => cosTable_symmetries.2 x (by omega),
    fun x _ => cosTable_range x, by decide, fun speed direction bearing _ _ _ => ⟨fun hn => ?_, fun hn => ?_⟩,
    fun speed direction bearing hs _ _ => ?_⟩, fun xs lo hi hne hrange => ?_, fun xs n hn => ⟨fun hnil => ?_, fun hne hsum => ?_,
    fun hne hsum => ?_⟩, fun h w => ⟨windPoints_of_headwind h, windPoints_of_tailwind h, windPoints_bounds⟩⟩
  · rw [tangential_eq, roundNearest_of_nonneg (by decide) hn]; omega
  · rw [tangential_eq, roundNearest_of_neg hn]; omega
  · obtain ⟨hlo, hhi⟩ := tangential_bounds hs direction bearing
    exact ⟨hlo, hhi, by simp [tangential_eq, roundNearest]⟩
  · obtain ⟨hlo, hhi⟩ := sum_bounds hrange
    obtain ⟨hlo', hhi'⟩ := roundNearest_bounds (List.length_pos_iff.mpr hne) hlo hhi
    exact ⟨_, windFigure_of_ne_nil hne, hlo', hhi'⟩
  · exact ⟨if_pos hnil, if_pos hnil⟩
  · subst hn
    rw [windFigure_of_ne_nil hne, truncatedMean_of_ne_nil hne, roundNearest_of_nonneg (List.length_pos_iff.mpr hne) hsum,
      Int.tdiv_eq_ediv_of_nonneg hsum]
    exact ⟨rfl, rfl⟩
  · subst hn
    have hpos : 0 ≤ -xs.sum := by omega
    have hquotient : xs.sum.tdiv xs.length = -(-xs.sum / xs.length) := by
      rw [← Int.tdiv_eq_ediv_of_nonneg hpos, Int.neg_tdiv, neg_neg]
    rw [windFigure_of_ne_nil hne, truncatedMean_of_ne_nil hne, roundNearest_of_neg hsum, hquotient]
    exact ⟨rfl, rfl⟩

/-! ## The take-off speed (R107) -/

theorem validSpeed_eq_some (baseline interval v : Nat) : validSpeed baseline interval = some v ↔
    1000 ≤ interval ∧ interval ≤ 200000 ∧ v = (baseline * 3600 + interval / 2) / interval ∧ v ≤ 3600 := by
  have hiff : (within 1000 200000 interval = true ∧ trapSpeed baseline interval ≤ 3600) ↔
      1000 ≤ interval ∧ interval ≤ 200000 ∧ trapSpeed baseline interval ≤ 3600 := by simp [within, and_assoc]
  change _ ↔ _ ∧ _ ∧ v = trapSpeed baseline interval ∧ _
  unfold validSpeed
  by_cases h : within 1000 200000 interval = true ∧ trapSpeed baseline interval ≤ 3600
  · obtain ⟨hlo, hhi, hv⟩ := hiff.mp h
    rw [if_pos h, Option.some.injEq]
    exact ⟨fun hvi => ⟨hlo, hhi, hvi.symm, hvi ▸ hv⟩, fun ⟨_, _, hvi, _⟩ => hvi.symm⟩
  · rw [if_neg h]
    refine ⟨fun hnone => (nomatch hnone), fun ⟨hlo, hhi, hvi, hv⟩ => absurd (hiff.mpr ⟨hlo, hhi, hvi ▸ hv⟩) h⟩

/-! ## The survey (R113) -/

/-- The table's points in order: each stands before every later one. -/
theorem pairwise_of_pointsAscend {ps : List SurveyPoint} (h : pointsAscend ps = true) :
    ps.Pairwise fun p q => p.raw < q.raw ∧ p.mm ≤ q.mm := by
  induction ps with
  | nil => exact .nil
  | cons p ps ih =>
    cases ps with
    | nil => exact List.pairwise_singleton _ _
    | cons q r =>
      simp only [pointsAscend, Bool.and_eq_true, decide_eq_true_eq] at h
      obtain ⟨⟨hraw, hmm⟩, hrest⟩ := h
      have hlater := ih hrest
      refine List.pairwise_cons.mpr ⟨fun x hx => ?_, hlater⟩
      rcases List.mem_cons.mp hx with rfl | hx
      · exact ⟨hraw, hmm⟩
      · obtain ⟨hx', hx''⟩ := (List.pairwise_cons.mp hlater).1 x hx
        exact ⟨hraw.trans hx', hmm.trans hx''⟩

/-- The position between two neighbouring points (R113). -/
def interpolated (p q : SurveyPoint) (r : Nat) : Nat := p.mm + (r - p.raw) * (q.mm - p.mm) / (q.raw - p.raw)

theorem interpolated_left (p q : SurveyPoint) : interpolated p q p.raw = p.mm := by simp [interpolated]

theorem interpolated_right {p q : SurveyPoint} (h : p.raw < q.raw ∧ p.mm ≤ q.mm) : interpolated p q q.raw = q.mm := by
  obtain ⟨hraw, hmm⟩ := h
  rw [interpolated, Nat.mul_div_cancel_left _ (by omega)]
  omega

/-- A coordinate between two neighbours has their interpolated position, whichever pair around it comes first. -/
theorem surveyPosition_between {before after : List SurveyPoint} {p q : SurveyPoint} {r : Nat}
    (hsorted : (before ++ p :: q :: after).Pairwise fun p q => p.raw < q.raw ∧ p.mm ≤ q.mm) (hlo : p.raw ≤ r) (hhi : r ≤ q.raw) :
    surveyPosition r (before ++ p :: q :: after) = some (interpolated p q r) := by
  induction before with
  | nil => exact if_pos ⟨hlo, hhi⟩
  | cons o before ih =>
    obtain ⟨hfirst, hrest⟩ := List.pairwise_cons.mp hsorted
    cases before with
    | nil =>
      change (if o.raw ≤ r ∧ r ≤ p.raw then some (interpolated o p r) else surveyPosition r (p :: q :: after)) = _
      split
      next h =>
        obtain rfl : r = p.raw := le_antisymm h.2 hlo
        rw [interpolated_left, interpolated_right (hfirst p (by simp))]
      · exact ih hrest
    | cons x before =>
      have hx : x.raw < p.raw := ((List.pairwise_cons.mp hrest).1 p (by simp)).1
      exact (if_neg (by omega)).trans (ih hrest)

/-- A surveyed point has its own position. -/
theorem surveyPosition_of_mem {ps : List SurveyPoint} {p : SurveyPoint} (hlen : 2 ≤ ps.length)
    (hsorted : ps.Pairwise fun p q => p.raw < q.raw ∧ p.mm ≤ q.mm) (hp : p ∈ ps) : surveyPosition p.raw ps = some p.mm := by
  obtain ⟨before, after, rfl⟩ := List.append_of_mem hp
  cases after with
  | cons q after =>
    have hpq := (List.pairwise_cons.mp (List.pairwise_append.mp hsorted).2.1).1 q (by simp)
    rw [surveyPosition_between hsorted le_rfl (by omega), interpolated_left]
  | nil =>
    rcases List.eq_nil_or_concat before with rfl | ⟨before, o, rfl⟩
    · simp at hlen
    · rw [List.concat_eq_append, List.append_assoc] at hsorted ⊢
      have hop := (List.pairwise_cons.mp (List.pairwise_append.mp hsorted).2.1).1 p (by simp)
      rw [List.singleton_append, surveyPosition_between hsorted (by omega) le_rfl, interpolated_right hop]

/-- Outside the table there is no position. -/
theorem surveyPosition_outside {ps : List SurveyPoint} {r : Nat} (h : (∀ p ∈ ps, r < p.raw) ∨ ∀ p ∈ ps, p.raw < r) :
    surveyPosition r ps = none := by
  induction ps with
  | nil => rfl
  | cons p ps ih =>
    cases ps with
    | nil => rfl
    | cons q rest =>
      have hnot : ¬(p.raw ≤ r ∧ r ≤ q.raw) := by
        rcases h with h | h
        · have := h p (by simp); omega
        · have := h q (by simp); omega
      refine (if_neg hnot).trans (ih ?_)
      exact h.imp (fun h x hx => h x (List.mem_cons_of_mem _ hx)) fun h x hx => h x (List.mem_cons_of_mem _ hx)

theorem convertMark_inside {ps : List SurveyPoint} {r pos : Nat} (h : surveyPosition r ps = some pos) :
    convertMark ps r = (min 1000 (pos / 500), decide (1000 < pos / 500)) := by
  simp only [convertMark, h]
  split
  next hfar => rw [min_eq_left hfar.le, decide_eq_true hfar]
  next hnear => rw [min_eq_right (Nat.not_lt.mp hnear), decide_eq_false hnear]

theorem convertMark_outside {ps : List SurveyPoint} {r : Nat} {first last p : SurveyPoint} (h : surveyPosition r ps = none)
    (hfirst : ps.head? = some first) (hlast : ps.getLast? = some last) (hp : p = if r < first.raw then first else last) :
    convertMark ps r = (min 1000 (p.mm / 500), true) := by
  subst hp
  have hpos : (if r < first.raw then first.mm else last.mm) = (if r < first.raw then first else last).mm :=
    (apply_ite SurveyPoint.mm _ _ _).symm
  simp only [convertMark, h, hfirst, hlast, hpos]
  generalize (if r < first.raw then first else last).mm / 500 = d
  by_cases hfar : 1000 < d <;> simp [hfar]
  all_goals omega

theorem surveyOk_sorted {ps : List SurveyPoint} (h : surveyOk ps = true) :
    2 ≤ ps.length ∧ ps.Pairwise fun p q => p.raw < q.raw ∧ p.mm ≤ q.mm := by
  simp only [surveyOk, within, Bool.and_eq_true, decide_eq_true_eq] at h
  exact ⟨h.1.1.1, pairwise_of_pointsAscend h.2⟩

/-- Settles O42: the speed, the points of the table, and the coordinates between and outside them. -/
theorem speedAndDistanceFollowTheirRules : Obligations.SpeedAndDistanceFollowTheirRules := by
  refine ⟨validSpeed_eq_some, fun ps p hok hp => ?_, fun ps before after p q r hok hps hlo hhi => ?_,
    fun ps p r hok => ⟨fun hfirst hr => ?_, fun hlast hr => ?_⟩⟩
  · obtain ⟨hlen, hsorted⟩ := surveyOk_sorted hok
    exact convertMark_inside (surveyPosition_of_mem hlen hsorted hp)
  · subst hps
    exact convertMark_inside (surveyPosition_between (surveyOk_sorted hok).2 hlo hhi)
  · obtain ⟨-, hsorted⟩ := surveyOk_sorted hok
    obtain ⟨rest, rfl⟩ := List.head?_eq_some_iff.mp hfirst
    have hbelow : ∀ x ∈ p :: rest, r < x.raw := fun x hx => by
      rcases List.mem_cons.mp hx with rfl | hx
      · exact hr
      · exact hr.trans ((List.pairwise_cons.mp hsorted).1 x hx).1
    exact convertMark_outside (surveyPosition_outside (.inl hbelow)) hfirst (List.getLast?_eq_some_getLast (by simp)) (if_pos hr).symm
  · obtain ⟨-, hsorted⟩ := surveyOk_sorted hok
    obtain ⟨front, rfl⟩ := List.getLast?_eq_some_iff.mp hlast
    have habove : ∀ x ∈ front ++ [p], x.raw < r := fun x hx => by
      rcases List.mem_append.mp hx with hx | hx
      · exact ((List.pairwise_append.mp hsorted).2.2 x hx p (by simp)).1.trans hr
      · rwa [List.mem_singleton.mp hx]
    obtain ⟨first, hfirst⟩ : ∃ first, (front ++ [p]).head? = some first := by cases front <;> exact ⟨_, rfl⟩
    have hin : first ∈ front ++ [p] := List.mem_of_mem_head? hfirst
    exact convertMark_outside (surveyPosition_outside (.inr habove)) hfirst hlast
      (if_neg (Nat.not_lt.mpr (habove first hin).le)).symm

end Sys2Proof.Machine

/-! PROOFS. What the shared operations of CST, STC and GATE leave of the block that they write, each said once. -/

namespace Sys2Proof.Machine

variable (s : State)

/-! ## The light, the start window and the held arm -/

theorem setLight_stc (l : Light) : (setLight l s).stc = if l = s.stc.light then s.stc else lit l s.stc := by
  unfold setLight
  split
  · rfl
  · simp

theorem updateLight_stc : (updateLight s).stc = if lightFor s = s.stc.light then s.stc else lit (lightFor s) s.stc :=
  setLight_stc s _

@[simp] theorem dropClear_stc : (dropClear s).stc = { s.stc with clearPending := false, windWaitSent := false } := rfl

theorem stopWindow_stc : (stopWindow s).stc =
    if s.stc.window.isSome then { s.stc with window := none, countdown := none } else s.stc := by
  unfold stopWindow
  split
  · simp
  · rfl

@[simp] theorem dropHeldArm_stc (cause : DropCause) : (dropHeldArm cause s).stc = { s.stc with heldArm := false } := by
  unfold dropHeldArm
  split
  · rfl
  next h =>
    have hheld : s.stc.heldArm = false := by simpa using h
    rw [← hheld]

/-- The light with nobody on the hill (R40). -/
def restLight : RoundState → Light
  | .none | .confirmed => .dark
  | .opened | .suspended | .ended => .red

theorem lightFor_of_none {s : State} (h : onHill? s = none) : lightFor s = restLight s.cst.rstate := by
  unfold lightFor restLight
  cases s.cst.rstate <;> simp [h]

/-! ## The gate -/

/-- GATE after a return to the jury gate has been asked for (R69). -/
def returned (h : HillSection) (g : Gate) : Gate :=
  match g.state with
  | .idle =>
    match g.current, g.jury with
    | some c, some j =>
      if c = j then g
      else { g with state := (travel c j).1, target := some j, kind := some .ret, lastDir := some (travel c j).2,
                    corrected := false, stepTimer := some h.gateStep }
    | _, _ => g
  | .manual =>
    match g.current, g.jury with
    | some c, some j => if c = j then g else { g with current := some j }
    | _, _ => g
  | .movingUp | .movingDown | .settling => { g with returnWaiting := true }
  | .unknown | .fault | .homing => g

theorem requestReturn_gate : (requestReturn s).gate = returned s.prof.profile.hill s.gate := by
  unfold requestReturn returnInIdle returned
  repeat' split
  all_goals simp_all [startMove, manualMove]

/-! ## CST's records -/

@[simp] theorem setAttempt_cst (n : Nat) (f : Attempt → Attempt) : (setAttempt n f s).cst = changed n f s.cst := rfl

/-- The round state after an end check (R18). -/
def endChecked (c : Cst) : RoundState :=
  if c.rstate = .opened ∧ c.startList = [] ∧
      c.attempts.all (fun a => !(a.round == c.round && (a.state.onHill || a.state == .scoring))) then .ended
  else c.rstate

theorem endCheck_eq : endCheck s = s.onCst fun c => { c with rstate := endChecked c } := by
  unfold endCheck endChecked
  split
  next h => simp only [State.onCst, if_pos h]
  next h => simp only [State.onCst, if_neg h]

theorem endChecked_of_not_open {c : Cst} (h : c.rstate ≠ .opened) : endChecked c = c.rstate := if_neg fun hc => h hc.1

theorem endChecked_of_list {c : Cst} (h : c.startList ≠ []) : endChecked c = c.rstate := if_neg fun hc => h hc.2.1

theorem endChecked_of_clear {c : Cst} (hopen : c.rstate = .opened) (hlist : c.startList = [])
    (h : ∀ a ∈ c.attempts, a.round = c.round → a.state.onHill = false ∧ a.state ≠ .scoring) : endChecked c = .ended := by
  refine if_pos ⟨hopen, hlist, List.all_eq_true.mpr fun a ha => ?_⟩
  by_cases hr : a.round = c.round
  · obtain ⟨hhill, hscoring⟩ := h a ha hr
    simp [hhill, hscoring]
  · simp [hr]

theorem endChecked_of_busy {c : Cst} {a : Attempt} (ha : a ∈ c.attempts) (hr : a.round = c.round)
    (h : a.state.onHill = true ∨ a.state = .scoring) : endChecked c = c.rstate := by
  refine if_neg fun hc => ?_
  have := List.all_eq_true.mp hc.2.2 a ha
  rcases h with h | h <;> simp [hr, h] at this

@[simp] theorem endCheck_cst : (endCheck s).cst = { s.cst with rstate := endChecked s.cst } := by
  rw [endCheck_eq]; rfl

end Sys2Proof.Machine

/-! PROOFS. What a chain of operations tells the board and LINK: the keys it enqueues and the notices it sends, one rule for each
operation, so that a statement about a command reads them off the chain. -/

namespace Sys2Proof.Machine

/-- The queue has room for these keys, if there are any, so that none drops an item. -/
def Fits (ks : List Key) (s : State) : Prop := ks = [] ∨ s.brd.queue.length + ks.length ≤ 32

/-- From `v` to `u` these keys were enqueued and these notices sent; the subjects are now `sub`, and DIAG is `d` where no item was
dropped. -/
structure Tells (v : State) (ks : List Key) (ns : List NoticeBody) (d : Diag) (sub : Subjects) (u : State) : Prop where
  queue : u.brd.queue = onto ks v.brd.queue
  board : u.brd.core = v.brd.core
  subjects : u.brd.subjects = sub
  core : u.link.core = v.link.core
  said : Fits ks v → u.link = ns.foldl (fun l b => queueNotice b l) v.link ∧ u.diag = d

theorem onto_append (ks ks' : List Key) (q : List BoardItem) : onto (ks ++ ks') q = onto ks' (onto ks q) := List.foldl_append

theorem onto_length_le {ks : List Key} {q : List BoardItem} (h : q.length + ks.length ≤ 32) :
    (onto ks q).length ≤ q.length + ks.length := by
  induction ks generalizing q with
  | nil => exact le_rfl
  | cons k r ih =>
    rw [List.length_cons] at h
    have hlen : (enqueued k false q).1.length ≤ q.length + 1 := (enqueued_room k false q (by omega)).2
    have hrest := ih (q := (enqueued k false q).1) (by omega)
    change (onto r (enqueued k false q).1).length ≤ _
    rw [List.length_cons]
    omega

theorem Fits.left {ks ks' : List Key} {s : State} (h : Fits (ks ++ ks') s) : Fits ks s := by
  rcases h with h | h
  · exact .inl (List.append_eq_nil_iff.mp h).1
  · exact .inr (by rw [List.length_append] at h; omega)

/-- Where the keys of a longer chain fit, there is room for each of them. -/
theorem Fits.room {ks : List Key} {k : Key} {v u : State} (h : Fits (ks ++ [k]) v) (hu : u.brd.queue = onto ks v.brd.queue) :
    u.brd.queue.length < 32 := by
  rcases h with h | h
  · simp at h
  · rw [List.length_append, List.length_singleton] at h
    have := onto_length_le (ks := ks) (q := v.brd.queue) (by omega)
    rw [hu]
    omega

theorem Room.fits {n : Nat} {ks : List Key} {s v : State} (h : Room n s) (hn : ks.length ≤ n) (hv : v.brd = s.brd) :
    Fits ks v := .inr (by unfold Room at h; rw [hv]; omega)

namespace Tells

variable {v w u : State} {ks : List Key} {ns : List NoticeBody} {d : Diag} {sub : Subjects}

theorem refl (v : State) : Tells v [] [] v.diag v.brd.subjects v := ⟨rfl, rfl, rfl, rfl, fun _ => ⟨rfl, rfl⟩⟩

/-- One chain after another, where the second leaves DIAG. -/
theorem trans {ks' : List Key} {ns' : List NoticeBody} {sub' : Subjects} (h : Tells v ks ns d sub w)
    (h' : Tells w ks' ns' w.diag sub' u) : Tells v (ks ++ ks') (ns ++ ns') d sub' u where
  queue := by rw [h'.queue, h.queue, onto_append]
  board := h'.board.trans h.board
  subjects := h'.subjects
  core := h'.core.trans h.core
  said hfits := by
    obtain ⟨hlink, hdiag⟩ := h.said hfits.left
    have hrest : Fits ks' w := by
      rcases hfits with hnil | hlen
      · exact .inl (List.append_eq_nil_iff.mp hnil).2
      · rw [List.length_append] at hlen
        have := onto_length_le (ks := ks) (q := v.brd.queue) (by omega)
        exact .inr (by rw [h.queue]; omega)
    obtain ⟨hlink', hdiag'⟩ := h'.said hrest
    exact ⟨by rw [hlink', hlink, List.foldl_append], hdiag'.trans hdiag⟩

/-- Operations beside BRD, LINK and DIAG tell nothing. -/
theorem frame (h : Tells v ks ns d sub w) (hbrd : u.brd = w.brd) (hlink : u.link = w.link) (hdiag : u.diag = w.diag) :
    Tells v ks ns d sub u where
  queue := by rw [hbrd]; exact h.queue
  board := by rw [hbrd]; exact h.board
  subjects := by rw [hbrd]; exact h.subjects
  core := by rw [hlink]; exact h.core
  said hfits := by rw [hlink, hdiag]; exact h.said hfits

theorem onProf (h : Tells v ks ns d sub w) (f : Prof → Prof) : Tells v ks ns d sub (w.onProf f) := h.frame rfl rfl rfl
theorem onFld (h : Tells v ks ns d sub w) (f : Fld → Fld) : Tells v ks ns d sub (w.onFld f) := h.frame rfl rfl rfl
theorem onCst (h : Tells v ks ns d sub w) (f : Cst → Cst) : Tells v ks ns d sub (w.onCst f) := h.frame rfl rfl rfl
theorem onStc (h : Tells v ks ns d sub w) (f : Stc → Stc) : Tells v ks ns d sub (w.onStc f) := h.frame rfl rfl rfl
theorem onGate (h : Tells v ks ns d sub w) (f : Gate → Gate) : Tells v ks ns d sub (w.onGate f) := h.frame rfl rfl rfl
theorem onWln (h : Tells v ks ns d sub w) (f : Wln → Wln) : Tells v ks ns d sub (w.onWln f) := h.frame rfl rfl rfl
theorem onMeas (h : Tells v ks ns d sub w) (f : Meas → Meas) : Tells v ks ns d sub (w.onMeas f) := h.frame rfl rfl rfl
theorem onScr (h : Tells v ks ns d sub w) (f : Scr → Scr) : Tells v ks ns d sub (w.onScr f) := h.frame rfl rfl rfl

theorem notify (h : Tells v ks ns d sub w) (b : NoticeBody) : Tells v ks (ns ++ [b]) d sub (notify b w) where
  queue := h.queue
  board := h.board
  subjects := h.subjects
  core := (queueNotice_core b w.link).trans h.core
  said hfits := by
    obtain ⟨hlink, hdiag⟩ := h.said hfits
    exact ⟨by rw [notify_link, hlink, List.foldl_append]; rfl, hdiag⟩

theorem notifyState (h : Tells v ks ns d sub w) (n round bib : Nat) (old : Option AttemptState) (new : AttemptState) :
    Tells v ks (ns ++ [.stateChange n round bib old new]) d sub (notifyState n round bib old new w) := h.notify _

/-- A counted event (R162); `s` names the counters as they were. -/
theorem count {s : State} (h : Tells v ks ns s.diag sub w) (hopen : w.cst.rstate = s.cst.rstate) (k : CounterKind) :
    Tells v ks (ns ++ overflows k s) (Sys2Proof.counted k s) sub (count k w) where
  queue := by rw [count_brd]; exact h.queue
  board := by rw [count_brd]; exact h.board
  subjects := by rw [count_brd]; exact h.subjects
  core := (count_link_core w k).trans h.core
  said hfits := by
    obtain ⟨hlink, hdiag⟩ := h.said hfits
    have hnotices : overflows k w = overflows k s := by simp only [overflows, hdiag, hopen]
    have hcounters : Sys2Proof.counted k w = Sys2Proof.counted k s := by simp only [Sys2Proof.counted, hdiag, hopen]
    rw [count_link, count_diag, hnotices, hcounters, hlink, List.foldl_append]
    exact ⟨rfl, rfl⟩

theorem enqueue (h : Tells v ks ns d sub w) (k : Key) : Tells v (ks ++ [k]) ns d sub (enqueue k w) where
  queue := by rw [enqueue_brd, onto_append, ← h.queue]; rfl
  board := (enqueue_brd_core w k).trans h.board
  subjects := by rw [enqueue_brd]; exact h.subjects
  core := (enqueue_link_core w k).trans h.core
  said hfits := by
    obtain ⟨hlink, hdiag⟩ := enqueue_of_room w k (hfits.room h.queue)
    rw [hlink, hdiag]
    exact h.said hfits.left

theorem enqueueSubject (h : Tells v ks ns d sub w) (f : BoardField) (n : Nat) :
    Tells v (ks ++ [key f]) ns d (subjectsWith f n sub) (enqueueSubject f n w) where
  queue := by rw [enqueueSubject_brd, onto_append, ← h.queue]; rfl
  board := (enqueueSubject_brd_core w f n).trans h.board
  subjects := by rw [enqueueSubject_brd, h.subjects]
  core := (enqueueSubject_link_core w f n).trans h.core
  said hfits := by
    obtain ⟨hlink, hdiag⟩ := enqueueSubject_of_room w f n (hfits.room h.queue)
    rw [hlink, hdiag]
    exact h.said hfits.left

/-- A change of the light (R40). -/
theorem setLight_change (h : Tells v ks ns d sub w) {l : Light} (hl : w.stc.light ≠ l) :
    Tells v (ks ++ [key .light]) (ns ++ [.light w.stc.light l ((onHill? w).map Attempt.number)]) d sub (setLight l w) := by
  rw [setLight_of_ne w l hl]
  exact ((h.onStc (lit l)).notify _).enqueue _

theorem setLight_same (h : Tells v ks ns d sub w) {l : Light} (hl : w.stc.light = l) : Tells v ks ns d sub (setLight l w) := by
  rw [setLight, if_pos hl.symm]
  exact h

/-- The start window stops (R50). -/
theorem stopWindow (h : Tells v ks ns d sub w) :
    Tells v (ks ++ if w.stc.window.isSome then [key .countdown] else []) ns d sub (stopWindow w) := by
  unfold Machine.stopWindow
  split
  · exact (h.onStc _).enqueue _
  · rw [List.append_nil]; exact h

theorem dropClear (h : Tells v ks ns d sub w) : Tells v ks ns d sub (dropClear w) := h.onStc _

/-- A held arm is discarded (R44). -/
theorem dropHeldArm (h : Tells v ks ns d sub w) (cause : DropCause) :
    Tells v ks (ns ++ if w.stc.heldArm then [.armDropped cause] else []) d sub (dropHeldArm cause w) := by
  unfold Machine.dropHeldArm
  split
  · exact (h.onStc _).notify _
  · rw [List.append_nil]; exact h

/-- A move by the drive begins (R62). -/
theorem startMove (h : Tells v ks ns d sub w) (kind : MoveKind) (current target : Nat) :
    Tells v ks (ns ++ [.gateBegun kind (some current) (some target) w.gate.jury]) d sub (startMove kind current target w) :=
  (h.onGate _).notify _

/-- The current gate changes in MANUAL (R68). -/
theorem manualMove (h : Tells v ks ns d sub w) (kind : MoveKind) (target : Nat) :
    Tells v (ks ++ [key .gate]) (ns ++ [.gateDone kind (some target) w.gate.jury]) d sub (manualMove kind target w) :=
  ((h.onGate _).notify _).enqueue _

/-- A return to the jury gate is asked for (R69). -/
theorem requestReturn (h : Tells v ks ns d sub w) :
    Tells v (ks ++ returnKeys w.gate) (ns ++ returnNotices w.gate) d sub (requestReturn w) := by
  have hnone : Tells v (ks ++ []) (ns ++ []) d sub w := by rw [List.append_nil, List.append_nil]; exact h
  unfold Machine.requestReturn returnInIdle returnKeys returnNotices
  cases hstate : w.gate.state with
  | idle =>
    cases hc : w.gate.current with
    | none => exact hnone
    | some c =>
      cases hj : w.gate.jury with
      | none => exact hnone
      | some j =>
        by_cases hcj : c = j
        · simpa [hcj] using h
        · simpa [hcj, hj] using h.startMove .ret c j
  | manual =>
    cases hc : w.gate.current with
    | none => exact hnone
    | some c =>
      cases hj : w.gate.jury with
      | none => exact hnone
      | some j =>
        by_cases hcj : c = j
        · simpa [hcj] using h
        · simpa [hcj, hj] using h.manualMove .ret j
  | movingUp | movingDown | settling => exact hnone.onGate _
  | unknown | fault | homing => exact hnone

end Tells

/-! ## From the chain to the command -/

/-- Where the chain that a block goes through ends, the command has told the board and LINK this. -/
theorem told {s v u t : State} {ks : List Key} {ns : List NoticeBody} {d : Diag} {sub : Subjects} (ht : After s v u t)
    (h : Tells v ks ns d sub u) (hv : v.brd = s.brd) :
    LinkKept s t ∧ t.brd.subjects = sub ∧ Boards ks s t ∧ (Fits ks v → t.diag = d ∧ Sends ns s t) :=
  ⟨ht.kept (LinkKept.of_core h.core), ht.subjects.trans h.subjects, ht.boards ks (h.board.trans (by rw [hv])) (hv ▸ h.queue),
    fun hfits => ⟨ht.diag.trans (h.said hfits).2, ht.sends ns (h.said hfits).1⟩⟩

end Sys2Proof.Machine

/-! PROOFS. The requests of the start list: what a change of its head does to a pending coach reduction is said once for all of them
(R25 to R28, R57). -/

namespace Sys2Proof.Machine

/-! ## A request that changes the start list (R25, R57) -/

theorem returnKeys_length_le (g : Gate) : (returnKeys g).length ≤ 1 := by
  unfold returnKeys
  repeat' split
  all_goals simp

theorem coachOff_congr {s u : State} (h : u.stc.coach = s.stc.coach) (list : List Nat) : coachOff u list = coachOff s list := by
  simp only [coachOff, h]

section Lists

variable {i : Instr} {kind tag : Byte} {ps : List Byte} {serve : State → Served} {s : State} {f g : Cst → Cst} {list : List Nat}
  {P : State → Prop}

/-- A request whose block writes CST, looks after the head of the list and may write CST again. -/
theorem changesList_of_block (hF : Free s) (hi : requestFrame i = some (kind, tag, ps)) (he : exec i s = request i serve s)
    (hr : serve (taken kind tag s) = done ((afterHeadChange ((taken kind tag s).onCst f)).onCst g))
    (hf : (f s.cst).startList = list) (hg : (g (f s.cst)).startList = list) (hP : ∀ t, t.cst = g (f s.cst) → P t) :
    ChangesList i list s P := by
  have hcoach : coachOff ((taken kind tag s).onCst f) ((taken kind tag s).onCst f).cst.startList = coachOff s list := by
    simp only [State.onCst_cst, taken_cst, hf]
    exact coachOff_congr (by simp) list
  refine ⟨fun hoff => ?_, fun hoff => ?_⟩
  · rw [afterHeadChange_of_kept _ (hcoach.trans hoff)] at hr
    refine Completes.of_block hF hi he hr (by simp) ⟨fun b hb => by cases b <;> simp [SameBlock] at hb ⊢, by simp, by simp⟩
      fun t ht => ?_
    have hcst : t.cst = g (f s.cst) := by rw [ht.cst]; simp
    exact ⟨hP t hcst, by rw [hcst, hg], ht.quiet (by simp) (by simp)⟩
  · rw [afterHeadChange_of_off _ (hcoach.trans hoff)] at hr
    have hchain := ((((Tells.refl (taken kind tag s)).onCst f).onStc fun c => { c with coach := none }).requestReturn).onCst g
    refine Completes.of_block hF hi he hr hchain.core
      ⟨fun b hb => by cases b <;> simp [SameBlock] at hb ⊢, by simp, by simp⟩ fun t ht => ?_
    obtain ⟨hlink, hsub, hboards, hsaid⟩ := told ht hchain (by simp)
    have hcst : t.cst = g (f s.cst) := by rw [ht.cst]; simp
    refine ⟨hP t hcst, by rw [hcst, hg], ⟨by rw [ht.stc]; simp, ?_⟩, hlink, by simpa using hsub, by simpa using hboards,
      fun hroom => ?_⟩
    · rw [ht.gate, State.onCst_gate, requestReturn_gate, requestReturn_gate]; simp
    · have hfits := Room.fits hroom (v := taken kind tag s) (returnKeys_length_le s.gate) (by simp)
      simpa using hsaid (by simpa using hfits)

end Lists

/-! ## ADD ENTRIES (R26) -/

/-- The directory's record of an entry's bib, after the entry. -/
def entered (e : Entry) (old : Option Competitor) : Competitor :=
  match old with
  | some c => { c with name := e.name, nation := e.nation }
  | none => { bib := e.bib, name := e.name, nation := e.nation, disqualified := false, totals := List.replicate 4 none }

theorem findBib_enterCompetitor (dir : List Competitor) (e : Entry) (b : Nat) :
    findBib (enterCompetitor dir e) b = if b = e.bib then some (entered e (findBib dir b)) else findBib dir b := by
  unfold enterCompetitor
  split
  next hany =>
    obtain ⟨d, hd, hdbib⟩ := List.any_eq_true.mp hany
    rw [findBib_map (fun c => by split <;> rfl)]
    cases hfind : findBib dir b with
    | none =>
      have hb : b ≠ e.bib := fun hb => by
        have := List.find?_eq_none.mp hfind d hd
        rw [hb] at this
        exact this hdbib
      simp [hb]
    | some c =>
      obtain ⟨-, rfl⟩ := findBib_mem hfind
      split <;> simp [*, entered]
  next hany =>
    have hnone : findBib dir e.bib = none := List.find?_eq_none.mpr fun c hc hbib => hany (List.any_eq_true.mpr ⟨c, hc, hbib⟩)
    rw [findBib, List.find?_append]
    by_cases hb : b = e.bib
    · subst hb
      rw [if_pos rfl, hnone]
      unfold findBib at hnone
      rw [hnone]
      simp [entered]
    · have hne : e.bib ≠ b := Ne.symm hb
      simp [hb, hne, findBib]

theorem findBib_enterAll_of_notMem {es : List Entry} {b : Nat} (h : b ∉ es.map Entry.bib) (dir : List Competitor) :
    findBib (es.foldl enterCompetitor dir) b = findBib dir b := by
  induction es generalizing dir with
  | nil => rfl
  | cons e r ih =>
    rw [List.map_cons, List.mem_cons, not_or] at h
    obtain ⟨he, hr⟩ := h
    rw [List.foldl_cons, ih hr, findBib_enterCompetitor, if_neg he]

theorem findBib_enterAll_of_mem {es : List Entry} (hes : (es.map Entry.bib).Nodup) {e : Entry} (he : e ∈ es)
    (dir : List Competitor) : findBib (es.foldl enterCompetitor dir) e.bib = some (entered e (findBib dir e.bib)) := by
  induction es generalizing dir with
  | nil => cases he
  | cons x r ih =>
    obtain ⟨hx, hr⟩ := List.nodup_cons.mp hes
    rw [List.foldl_cons]
    rcases List.mem_cons.mp he with rfl | he
    · rw [findBib_enterAll_of_notMem hx, findBib_enterCompetitor, if_pos rfl]
    · have hne : e.bib ≠ x.bib := fun h => hx (h ▸ List.mem_map_of_mem he)
      rw [ih hr he, findBib_enterCompetitor, if_neg hne]

theorem entryOk_iff (e : Entry) : entryOk e = true ↔ 1 ≤ e.bib ∧ e.bib ≤ 999 ∧ e.name.length ≤ 20 ∧
    (∀ x ∈ e.name, 0x20 ≤ x.toNat ∧ x.toNat ≤ 0x7E) ∧ e.nation.length = 3 ∧
      ∀ x ∈ e.nation, 0x41 ≤ x.toNat ∧ x.toNat ≤ 0x5A := by
  simp [entryOk, bibOk, within, nationOk, printable, and_assoc]

theorem duplicateBib_iff (s : State) (b : Nat) : duplicateBib s b = true ↔ b ∈ s.cst.startList ∨
    ∃ a ∈ s.cst.attempts, a.bib = b ∧ a.round = s.cst.round ∧ a.state ≠ .voided ∧ a.state ≠ .cancelled := by
  simp [duplicateBib, cancelled, and_assoc]

/-- What the checks of ADD ENTRIES say of the directory (R26, order 4). -/
theorem anyDisqualified_iff (s : State) (es : List Entry) :
    (es.any fun e => ((competitor? s e.bib).map Competitor.disqualified).getD false) = true ↔
      ∃ e ∈ es, (competitor? s e.bib).map Competitor.disqualified = some true := by
  rw [List.any_eq_true]
  refine exists_congr fun e => and_congr_right fun _ => ?_
  cases (competitor? s e.bib).map Competitor.disqualified <;> simp

theorem addEntries_completes {s : State} {tag : Byte} {es : List Entry} (hF : Free s) (hlo : 1 ≤ es.length) (hhi : es.length ≤ 4)
    (hopen : hasOpenRound s = true) (hok : ∀ e ∈ es, entryOk e = true)
    (hqual : ∀ e ∈ es, ∀ c, competitor? s e.bib = some c → c.disqualified = false) (honce : (es.map Entry.bib).Nodup)
    (hnew : ∀ e ∈ es, duplicateBib s e.bib = false) (hplaces : placesHeld s + es.length ≤ 80)
    (hdir : s.cst.directory.length + newBibs s es ≤ 120) (hcoach : CoachOk s) {P : State → Prop}
    (hP : ∀ t, t.cst = addToList es s.cst → Quiet s t → P t) : Completes (.addEntries tag es) .done .none [.cst] s P := by
  have hqualified : (es.any fun e => ((competitor? s e.bib).map Competitor.disqualified).getD false) = false := by
    refine Bool.eq_false_iff.mpr fun h => ?_
    obtain ⟨e, he, hdis⟩ := (anyDisqualified_iff s es).mp h
    obtain ⟨c, hc, hcdis⟩ := Option.map_eq_some_iff.mp hdis
    simp [hqual e he c hc] at hcdis
  have hduplicate : (es.any fun e => duplicateBib s e.bib) = false := by simpa using hnew
  have hfull : ¬(80 < placesHeld s + es.length ∨ 120 < s.cst.directory.length + newBibs s es) := by omega
  have hhead : coachOff ((taken 0x21 tag s).onCst (addToList es)) ((taken 0x21 tag s).onCst (addToList es)).cst.startList = false := by
    unfold coachOff
    simp only [State.onCst_stc, taken_stc, State.onCst_cst, taken_cst]
    cases hc : s.stc.coach with
    | none => rfl
    | some p => simp [addToList, (hcoach p.1 p.2 hc).1]
  refine Completes.of_block (kind := 0x21) (tag := tag) (u := (taken 0x21 tag s).onCst (addToList es)) hF rfl rfl ?_ (by simp)
    ⟨fun b hb => by cases b <;> simp [SameBlock] at hb ⊢, by simp, by simp⟩
    fun t ht => hP t (by rw [ht.cst]; simp) (ht.quiet (by simp) (by simp))
  have hlength : within 1 4 es.length = true := by simp [within]; omega
  have hall : es.all entryOk = true := List.all_eq_true.mpr hok
  rw [← afterHeadChange_of_kept _ hhead]
  simp only [serveAddEntries, hlength, taken_hasOpenRound, hopen, hall, taken_competitor, hqualified, taken_duplicateBib, hduplicate,
    honce, taken_placesHeld, taken_cst, taken_newBibs, if_neg hfull]
  simp [done]

/-! ## WITHDRAW ENTRY and MOVE ENTRY (R27, R28) -/

theorem bibOk_eq_true {b : Nat} (hlo : 1 ≤ b) (hhi : b ≤ 999) : bibOk b = true := by
  simp [bibOk, within]; omega

theorem bibOk_eq_false {b : Nat} (h : b = 0 ∨ 999 < b) : bibOk b = false := by
  simp [bibOk, within]; omega

theorem insertBefore_eq {bib target : Nat} {before after : List Nat} (h : target ∉ before) :
    insertBefore bib target (before ++ target :: after) = before ++ bib :: target :: after := by
  induction before with
  | nil => simp [insertBefore]
  | cons b r ih =>
    obtain ⟨hb, hr⟩ := not_or.mp (mt List.mem_cons.mpr h)
    simp [insertBefore, Ne.symm hb, ih hr]

section Requests

variable {s : State} {bib : Nat} (hF : Free s) (tag : Byte) (hlo : 1 ≤ bib) (hhi : bib ≤ 999)

include hF hlo hhi

theorem withdrawEntry_changes (hopen : hasOpenRound s = true) (hmem : bib ∈ s.cst.startList) {P : State → Prop}
    (hP : ∀ t, t.cst = { s.cst with startList := s.cst.startList.erase bib,
                                    rstate := endChecked { s.cst with startList := s.cst.startList.erase bib } } → P t) :
    ChangesList (.withdrawEntry tag bib) (s.cst.startList.erase bib) s P := by
  refine changesList_of_block hF rfl rfl (f := fun c => { c with startList := c.startList.erase bib })
    (g := fun c => { c with rstate := endChecked c }) ?_ rfl rfl hP
  simp [serveWithdrawEntry, bibOk_eq_true hlo hhi, hopen, hmem, endCheck_eq]

theorem moveEntry_changes {target : Nat} (hopen : hasOpenRound s = true) (hmem : bib ∈ s.cst.startList) (ht : target ≤ 999)
    (htarget : target = 0 ∨ target ∈ s.cst.startList) {list : List Nat} (hlist : moved bib target s.cst.startList = list)
    {P : State → Prop} (hP : ∀ t, t.cst = { s.cst with startList := list } → P t) :
    ChangesList (.moveEntry tag bib target) list s P := by
  subst hlist
  refine changesList_of_block hF rfl rfl (f := fun c => { c with startList := moved bib target c.startList }) (g := id)
    ?_ rfl rfl hP
  rcases htarget with h | h
  · simp [serveMoveEntry, bibOk_eq_true hlo hhi, hopen, hmem, h]
    rfl
  · simp [serveMoveEntry, bibOk_eq_true hlo hhi, hopen, hmem, not_lt.mpr ht, h]
    rfl

end Requests

/-- Settles O30: the directory after the entries, and the checks in their order. -/
theorem addEntriesAppendsInOrder : Obligations.AddEntriesAppendsInOrder := by
  refine ⟨fun s tag es hF hlo hhi hopen hok hqual honce hnew hplaces hdir hcoach => ?_, fun s tag es hF hlo hhi => ?_,
    fun s e b => ⟨entryOk_iff e, duplicateBib_iff s b⟩⟩
  · refine addEntries_completes hF hlo hhi hopen hok hqual honce hnew hplaces hdir hcoach fun t ht hquiet => ?_
    have hcomp : ∀ b, competitor? t b = findBib (es.foldl enterCompetitor s.cst.directory) b := fun b => by
      simp only [competitor?, ht]; rfl
    rw [ht]
    refine ⟨rfl, rfl, rfl, rfl, rfl, fun e he hnone => ?_, fun e he c hc => ?_, fun b c hb hc => ?_, hquiet⟩
    · rw [hcomp, findBib_enterAll_of_mem honce he, show findBib s.cst.directory e.bib = none from hnone]; rfl
    · rw [hcomp, findBib_enterAll_of_mem honce he, show findBib s.cst.directory e.bib = some c from hc]; rfl
    · rw [hcomp, findBib_enterAll_of_notMem hb]; exact hc
  · have hlength : within 1 4 es.length = true := by simp [within]; omega
    refine ⟨fun hopen => ?_, fun hopen hbad => ?_, fun hopen hok => ?_⟩
    · exact refuses_of_block hF rfl rfl (by simp [serveAddEntries, hlength, hopen])
    · have hall : es.all entryOk = false := by simpa using hbad
      exact refuses_of_block hF rfl rfl (by simp only [serveAddEntries, hlength, taken_hasOpenRound, hopen, hall]; simp)
    · have hall : es.all entryOk = true := List.all_eq_true.mpr hok
      have hqual := anyDisqualified_iff s es
      refine ⟨fun hdis => ?_, fun hdis htwice => ?_, fun hdis htwice hfull => ?_⟩
      · have := hqual.mpr hdis
        exact refuses_of_block hF rfl rfl
          (by simp only [serveAddEntries, hlength, taken_hasOpenRound, hopen, hall, taken_competitor, this]; simp)
      · have hany := Bool.eq_false_iff.mpr (mt hqual.mp hdis)
        have htwice : ¬(es.map Entry.bib).Nodup ∨ (es.any fun e => duplicateBib s e.bib) = true := by
          rwa [List.any_eq_true]
        exact refuses_of_block hF rfl rfl
          (by simp only [serveAddEntries, hlength, taken_hasOpenRound, hopen, hall, taken_competitor, hany, taken_duplicateBib,
                if_pos htwice]; simp)
      · have hany := Bool.eq_false_iff.mpr (mt hqual.mp hdis)
        have htwice : ¬(¬(es.map Entry.bib).Nodup ∨ (es.any fun e => duplicateBib s e.bib) = true) := by
          rwa [List.any_eq_true]
        exact refuses_of_block hF rfl rfl
          (by simp only [serveAddEntries, hlength, taken_hasOpenRound, hopen, hall, taken_competitor, hany, taken_duplicateBib,
                if_neg htwice, taken_placesHeld, taken_cst, taken_newBibs, if_pos hfull]; simp)

/-- Settles O31: the list, the end of the round, and the refusals. -/
theorem entriesAreWithdrawnAndMoved : Obligations.EntriesAreWithdrawnAndMoved := by
  refine ⟨fun s tag bib hF hopen hlo hhi hmem => ⟨?_, ?_, ?_, fun target before after hne h0 hle hnot hsplit htarget => ?_,
    fun target h0 hle hnot => ?_⟩, fun s tag bib target hF => ⟨fun h => ?_, fun h => ?_, fun hlo hhi hopen => ?_,
    fun hlo hhi hle hopen => ?_, fun hlo hhi hopen hnot => ?_, fun hlo hhi hle hopen hnot => ?_⟩⟩
  · refine withdrawEntry_changes hF tag hlo hhi hopen hmem fun t ht => ?_
    rw [ht]
    refine ⟨rfl, fun hlist => endChecked_of_list hlist, fun hstate => endChecked_of_not_open hstate,
      fun hstate hlist => ⟨fun hclear => endChecked_of_clear hstate hlist hclear, fun ⟨a, ha, hround, hbusy⟩ => ?_⟩⟩
    exact (endChecked_of_busy (c := { s.cst with startList := s.cst.startList.erase bib }) ha hround hbusy).trans hstate
  · exact moveEntry_changes hF tag hlo hhi hopen hmem (by omega) (.inl rfl) (by simp [moved, show bib ≠ 0 by omega])
      fun t ht => by rw [ht]
  · exact moveEntry_changes hF tag hlo hhi hopen hmem hhi (.inr hmem) (by simp [moved]) fun t ht => by rw [ht]
  · refine moveEntry_changes hF tag hlo hhi hopen hmem hle (.inr htarget) ?_ fun t ht => by rw [ht]
    simp [moved, Ne.symm hne, h0, hsplit, insertBefore_eq hnot]
  · exact refuses_of_block hF rfl rfl
      (by simp [serveMoveEntry, bibOk_eq_true hlo hhi, hopen, h0, hnot, not_lt.mpr hle])
  · exact refuses_of_block hF rfl rfl (by simp [serveWithdrawEntry, bibOk_eq_false h])
  · refine refuses_of_block hF rfl rfl ?_
    rcases or_assoc.mpr h with h | h
    · simp [serveMoveEntry, bibOk_eq_false h]
    · simp [serveMoveEntry, h]
  · exact refuses_of_block hF rfl rfl (by simp [serveWithdrawEntry, bibOk_eq_true hlo hhi, hopen])
  · exact refuses_of_block hF rfl rfl (by simp [serveMoveEntry, bibOk_eq_true hlo hhi, hopen, not_lt.mpr hle])
  · exact refuses_of_block hF rfl rfl (by simp [serveWithdrawEntry, bibOk_eq_true hlo hhi, hopen, hnot])
  · exact refuses_of_block hF rfl rfl (by simp [serveMoveEntry, bibOk_eq_true hlo hhi, hopen, hnot, not_lt.mpr hle])

end Sys2Proof.Machine

/-! PROOFS. The attempt on the hill: there is one at most, and what becomes of it when its record changes; then the void of an
attempt at the bar, whose effects several commands have (R38). -/

namespace Sys2Proof

open Machine

variable {s v u t : State} {a b : Attempt} {n : Nat} {f : Attempt → Attempt}

/-! ## Records by number, and the one on the hill (R32, R34) -/

theorem HillOk.number_inj (h : HillOk s) (ha : a ∈ s.cst.attempts) (hb : b ∈ s.cst.attempts) (hn : a.number = b.number) :
    a = b := by
  obtain ⟨hnumbers, -⟩ := h
  exact List.inj_on_of_nodup_map (hnumbers ▸ List.nodup_range' (step := 1)) ha hb hn

theorem HillOk.attempt (h : HillOk s) (ha : a ∈ s.cst.attempts) : attempt? s a.number = some a := by
  cases hfind : attempt? s a.number with
  | none => simpa using List.find?_eq_none.mp hfind a ha
  | some b =>
    have hb := List.mem_of_find?_eq_some hfind
    have hnumber : b.number = a.number := by simpa using List.find?_some hfind
    rw [h.number_inj hb ha hnumber]

theorem HillOk.onHill_unique (h : HillOk s) (ha : onHill? s = some a) (hb : b ∈ s.cst.attempts) (hon : b.state.onHill = true) :
    b = a := by
  obtain ⟨-, hone, -⟩ := h
  obtain ⟨hmem, haon⟩ := onHill_mem ha
  have hbin : b ∈ s.cst.attempts.filter fun x => x.state.onHill := List.mem_filter.mpr ⟨hb, hon⟩
  have hain : a ∈ s.cst.attempts.filter fun x => x.state.onHill := List.mem_filter.mpr ⟨hmem, haon⟩
  obtain ⟨x, hx⟩ := List.length_eq_one_iff.mp (le_antisymm hone (List.length_pos_of_mem hain))
  rw [hx, List.mem_singleton] at hbin hain
  exact hbin.trans hain.symm

theorem onHill_congr (h : u.cst.attempts = s.cst.attempts) : onHill? u = onHill? s := by
  unfold onHill?; rw [h]

/-- The attempt on the hill has left it. -/
theorem HillOk.none_of_changed (h : HillOk s) (ha : onHill? s = some a) (hf : (f a).state.onHill = false)
    (hu : u.cst.attempts = (changed a.number f s.cst).attempts) : onHill? u = none := by
  refine HillClear.none fun r hr => ?_
  rw [hu] at hr
  obtain ⟨x, hx, rfl⟩ := List.mem_map.mp hr
  by_cases hn : x.number = a.number
  · rw [if_pos hn, h.number_inj hx (onHill_mem ha).1 hn]
    exact hf
  · rw [if_neg hn]
    exact Bool.eq_false_iff.mpr fun hon => hn (by rw [h.onHill_unique ha hx hon])

/-- The attempt on the hill stays there. -/
theorem HillOk.some_of_changed (h : HillOk s) (ha : onHill? s = some a) (hf : (f a).state.onHill = true)
    (hu : u.cst.attempts = (changed a.number f s.cst).attempts) : onHill? u = some (f a) := by
  have hin : f a ∈ u.cst.attempts := by
    rw [hu]
    exact List.mem_map.mpr ⟨a, (onHill_mem ha).1, if_pos rfl⟩
  cases hfind : onHill? u with
  | none => exact absurd hf (Bool.eq_false_iff.mp (HillClear.of_none hfind _ hin))
  | some r =>
    obtain ⟨hr, hon⟩ := onHill_mem hfind
    rw [hu] at hr
    obtain ⟨x, hx, rfl⟩ := List.mem_map.mp hr
    by_cases hn : x.number = a.number
    · rw [if_pos hn, h.number_inj hx (onHill_mem ha).1 hn]
    · rw [if_neg hn] at hon
      exact absurd (by rw [h.onHill_unique ha hx hon]) hn

theorem CoachOk.none_of_onHill (h : CoachOk s) (ha : onHill? s = some a) : s.stc.coach = none := by
  cases hc : s.stc.coach with
  | none => rfl
  | some p =>
    obtain ⟨-, hclear⟩ := h p.1 p.2 hc
    rw [hclear.none] at ha
    cases ha

theorem HillOk.heldArm_of_onHill (h : HillOk s) (ha : onHill? s = some a) : s.stc.heldArm = false := by
  obtain ⟨-, -, -, hheld⟩ := h
  refine Bool.eq_false_iff.mpr fun harm => ?_
  rw [(hheld harm).none] at ha
  cases ha

theorem HillOk.round_of_onHill (h : HillOk s) (ha : onHill? s = some a) : a.round = s.cst.round ∧ s.cst.rstate = .opened := by
  obtain ⟨hmem, hon⟩ := onHill_mem ha
  obtain ⟨-, -, hround, -⟩ := h
  exact hround a hmem hon

/-! ## The return of the gate after an attempt (R58) -/

theorem freedKeys_length_le (a : Attempt) (s : State) : (freedKeys a s).length ≤ 1 := by
  unfold freedKeys
  split
  · exact returnKeys_length_le s.gate
  · simp

theorem coachReturn_of_onHill (h : a.state.onHill = true) :
    coachReturn a s = if a.coach.isSome then requestReturn s else s := by
  simp [coachReturn, h]

theorem coachReturn_gate (h : a.state.onHill = true) :
    (coachReturn a s).gate = if a.coach.isSome then returned s.prof.profile.hill s.gate else s.gate := by
  rw [coachReturn_of_onHill h]
  split
  · exact requestReturn_gate s
  · rfl

theorem Machine.Tells.coachReturn {ks : List Key} {ns : List NoticeBody} {d : Diag} {sub : Subjects} (h : Tells v ks ns d sub u)
    (ha : a.state.onHill = true) :
    Tells v (ks ++ freedKeys a u) (ns ++ freedNotices a u) d sub (coachReturn a u) := by
  rw [coachReturn_of_onHill ha]
  unfold freedKeys freedNotices
  split
  · exact h.requestReturn
  · simpa using h

theorem GateFreed.of_gate (h : t.gate = if a.coach.isSome then returned s.prof.profile.hill s.gate else s.gate) :
    GateFreed a s t := by
  refine ⟨fun hnone => by simpa [hnone] using h, fun hsome => ?_⟩
  rw [requestReturn_gate]
  simpa [hsome] using h

/-! ## The laws of the hill in another state -/

theorem HillLaws.congr (h : HillLaws s) (hcst : u.cst = s.cst) (hstc : u.stc = s.stc) (hgate : u.gate = s.gate) : HillLaws u := by
  unfold HillLaws HillOk CoachOk GateOk HillClear at h ⊢
  rw [hcst, hstc, hgate]
  exact h

theorem LightOk.congr (h : LightOk s) (hcst : u.cst = s.cst) (hstc : u.stc = s.stc) : LightOk u := by
  unfold LightOk at h ⊢
  rw [onHill_congr (show u.cst.attempts = s.cst.attempts by rw [hcst]), hcst, hstc]
  exact h

/-- At the bar the light is not red (R40). -/
theorem LightOk.not_red (h : LightOk s) (hill : HillOk s) (ha : onHill? s = some a) (hbar : a.state = .waiting ∨ a.state = .cleared) :
    s.stc.light ≠ .red := by
  unfold LightOk at h
  rw [(hill.round_of_onHill ha).2, ha, Option.map_some] at h
  rcases hbar with hstate | hstate
  · rw [hstate] at h
    rw [show s.stc.light = .amber from h]
    decide
  · rw [hstate] at h
    rcases (show s.stc.light = .green ∨ s.stc.light = .greenWarn from h) with hl | hl <;> rw [hl] <;> decide

/-! ## The void of an attempt at the bar (R38, R55, R58) -/

/-- STC after the void of an attempt at the bar. -/
def barLeft (c : Stc) : Stc :=
  { lit .red c with window := none, clearPending := false, windWaitSent := false,
                    countdown := if c.window.isSome then none else c.countdown }

/-- A chain from `v` to `u` has voided the attempt at the bar, and left the round in state `r`. -/
structure BarVoided (a : Attempt) (r : RoundState) (v u : State) : Prop where
  cst : u.cst = { changed a.number (fun x => { x with state := .voided }) v.cst with
                  startList := a.bib :: v.cst.startList, rstate := r }
  stc : u.stc = barLeft v.stc
  gate : u.gate = if a.coach.isSome then returned v.prof.profile.hill v.gate else v.gate
  only : OnlyChanges [.brd, .link, .cst, .stc, .gate, .diag] v u
  tells : Tells v ((if v.stc.window.isSome then [key .countdown] else []) ++ key .light :: freedKeys a v)
    ([.light v.stc.light .red none, .stateChange a.number a.round a.bib (some a.state) .voided] ++ freedNotices a v)
    v.diag v.brd.subjects u

/-- STC's part of the void: the clear, the start window and the light. -/
theorem takeBack_atBar (hbar : a.state = .waiting ∨ a.state = .cleared) : takeBack a s = updateLight (stopWindow (dropClear s)) := by
  rcases hbar with h | h <;> simp [takeBack, h]

theorem stopWindow_stc_of_dropClear (s : State) : (stopWindow (dropClear s)).stc =
    { s.stc with window := none, clearPending := false, windWaitSent := false,
                 countdown := if s.stc.window.isSome then none else s.stc.countdown } := by
  rw [stopWindow_stc, dropClear_stc]
  cases h : s.stc.window <;> simp [h]

theorem coachOff_of_none (h : s.stc.coach = none) (list : List Nat) : coachOff s list = false := by
  simp only [coachOff, h]

/-- The records and the start window after the void of an attempt at the bar. -/
def offBar (a : Attempt) (s : State) : State :=
  stopWindow (dropClear (returnToHead a.bib (setAttempt a.number (fun r => { r with state := .voided }) s)))

theorem offBar_cst (hopen : s.cst.rstate = .opened) : (offBar a s).cst =
    { changed a.number (fun r => { r with state := .voided }) s.cst with startList := a.bib :: s.cst.startList, rstate := .opened } := by
  simp [offBar, returnToHead, changed, hopen]

theorem offBar_stc (a : Attempt) (s : State) : (offBar a s).stc =
    { s.stc with window := none, clearPending := false, windWaitSent := false,
                 countdown := if s.stc.window.isSome then none else s.stc.countdown } := stopWindow_stc_of_dropClear _

theorem offBar_gate (a : Attempt) (s : State) : (offBar a s).gate = s.gate := by simp [offBar]

theorem offBar_only (a : Attempt) (s : State) : OnlyChanges [.brd, .link, .cst, .stc, .diag] s (offBar a s) :=
  ⟨fun b hb => by cases b <;> simp [SameBlock, offBar] at hb ⊢, by simp [offBar], by simp [offBar]⟩

theorem offBar_tells (a : Attempt) (s : State) :
    Tells s (if s.stc.window.isSome then [key .countdown] else []) [] s.diag s.brd.subjects (offBar a s) :=
  ((Tells.refl s).frame (u := returnToHead a.bib (setAttempt a.number (fun r => { r with state := .voided }) s))
    rfl rfl rfl).dropClear.stopWindow

theorem onHill_offBar (hok : HillOk s) (ha : onHill? s = some a) : onHill? (offBar a s) = none :=
  hok.none_of_changed (f := fun r => { r with state := .voided }) ha rfl
    (by rw [offBar_cst (hok.round_of_onHill ha).2])

theorem voidAttempt_eq (hill : HillLaws s) (ha : onHill? s = some a)
    (hbar : a.state = .waiting ∨ a.state = .cleared) : voidAttempt a s =
      coachReturn a (notifyState a.number a.round a.bib (some a.state) .voided (setLight .red (offBar a s))) := by
  obtain ⟨hok, hcoach, -⟩ := hill
  have hred : lightFor (offBar a s) = .red := by
    rw [lightFor_of_none (onHill_offBar hok ha), offBar_cst (hok.round_of_onHill ha).2]; rfl
  have hlit : updateLight (offBar a s) = setLight .red (offBar a s) := by rw [updateLight, hred]
  rw [← hlit]
  simp only [voidAttempt, takeBack_atBar hbar]
  refine afterHeadChange_of_kept _ ?_
  have hnone : (offBar a s).stc.coach = none := by rw [offBar_stc]; exact hcoach.none_of_onHill ha
  have hcoach : (updateLight (offBar a s)).stc.coach = none := by
    rw [updateLight_stc]
    split
    · exact hnone
    · exact hnone
  exact coachOff_of_none (by rw [coachReturn_stc, notifyState_stc]; exact hcoach) _

theorem voidAttempt_atBar (hill : HillLaws v) (hlight : LightOk v) (ha : onHill? v = some a)
    (hbar : a.state = .waiting ∨ a.state = .cleared) : BarVoided a .opened v (voidAttempt a v) := by
  have hok := hill.1
  have hon := (onHill_mem ha).2
  have hopen := (hok.round_of_onHill ha).2
  have hne : (offBar a v).stc.light ≠ .red := by rw [offBar_stc]; exact hlight.not_red hok ha hbar
  rw [voidAttempt_eq hill ha hbar]
  refine ⟨?_, ?_, ?_, ⟨fun b hb => ?_, by simp [offBar], by simp [offBar]⟩, ?_⟩
  · rw [coachReturn_cst, notifyState_cst, setLight_cst, offBar_cst hopen]
  · rw [coachReturn_stc, notifyState_stc, setLight_stc, if_neg (Ne.symm hne), offBar_stc]
    rfl
  · rw [coachReturn_gate hon, notifyState_gate, setLight_gate, offBar_gate]
    simp [offBar]
  · cases b <;> simp [SameBlock, offBar] at hb ⊢
  · have h := ((offBar_tells a v).setLight_change hne).notifyState a.number a.round a.bib (some a.state) .voided |>.coachReturn hon
    rw [onHill_offBar hok ha, offBar_stc] at h
    simpa [freedKeys, freedNotices, offBar_gate] using h

/-- The state that a block was given agrees with the one that its command began in, beside LINK. -/
structure Given (s v : State) : Prop where
  prof : v.prof = s.prof
  cst : v.cst = s.cst
  stc : v.stc = s.stc
  gate : v.gate = s.gate
  wln : v.wln = s.wln
  meas : v.meas = s.meas
  scr : v.scr = s.scr
  brd : v.brd = s.brd
  diag : v.diag = s.diag
  clock : v.link.clock = s.link.clock

theorem Given.startTx (s : State) : Given s (startTx s) :=
  ⟨by simp, by simp, by simp, by simp, by simp, by simp, by simp, by simp, by simp, by simp⟩

theorem Given.taken (kind tag : Byte) (s : State) : Given s (taken kind tag s) :=
  ⟨by simp, by simp, by simp, by simp, by simp, by simp, by simp, by simp, by simp, by simp⟩

theorem Given.onFld (h : Given s v) (g : Fld → Fld) : Given s (v.onFld g) :=
  ⟨h.prof, h.cst, h.stc, h.gate, h.wln, h.meas, h.scr, h.brd, h.diag, h.clock⟩

theorem Given.overflows (h : Given s v) (k : CounterKind) : overflows k v = overflows k s := by
  unfold Sys2Proof.overflows; rw [h.diag, h.cst]

theorem Given.counted (h : Given s v) (k : CounterKind) : counted k v = counted k s := by
  unfold Sys2Proof.counted; rw [h.diag, h.cst]

theorem Given.laws (h : Given s v) (hill : HillLaws s) : HillLaws v := hill.congr h.cst h.stc h.gate

theorem Given.onHill (h : Given s v) : onHill? v = onHill? s := onHill_congr (by rw [h.cst])

theorem After.of_link {w : State} (h : After s v u t) (hlink : w.link = v.link) : After s w u t where
  __ := h
  kept hk := h.kept (LinkKept.trans (LinkKept.of_core (by rw [hlink])) hk)
  sends ns hu := h.sends ns (by rw [← hlink]; exact hu)
  silent := by rw [hlink]; exact h.silent

theorem VoidedAtBar.of_barVoided {r : RoundState} (ht : After s v u t) (hv : Given s v) (h : BarVoided a r v u)
    (hill : HillLaws s) (ha : onHill? s = some a) : VoidedAtBar a r s t := by
  obtain ⟨hcst, hstc, hgate, -, htells⟩ := h
  obtain ⟨hlink, hsub, hboards, hsaid⟩ := told ht htells hv.brd
  have htstc : t.stc = barLeft s.stc := by rw [ht.stc, hstc, hv.stc]
  have hkeys : freedKeys a v = freedKeys a s := by simp only [freedKeys, hv.gate]
  have hnotices : freedNotices a v = freedNotices a s := by simp only [freedNotices, hv.gate]
  rw [hv.stc, hkeys] at hboards hsaid
  rw [hnotices, hv.diag] at hsaid
  have hfreed := freedKeys_length_le a s
  have hlength : ((if s.stc.window.isSome then [key .countdown] else []) ++ key .light :: freedKeys a s).length ≤ 3 := by
    rw [List.length_append, List.length_cons]
    split
    · rw [List.length_singleton]; omega
    · rw [List.length_nil]; omega
  refine ⟨?_, by rw [htstc]; rfl, by rw [htstc]; rfl, by rw [htstc]; rfl, by rw [htstc]; rfl, fun hw => ?_, ?_, ?_,
    by rw [htstc]; rfl, by rw [htstc]; rfl, .of_gate ?_, hlink, hsub.trans (by rw [hv.brd]), hboards,
    fun hroom => hsaid (Room.fits hroom hlength hv.brd)⟩
  · rw [ht.cst, hcst, hv.cst]
  · rw [htstc]; exact if_pos hw
  · rw [htstc]; exact hill.1.heldArm_of_onHill ha
  · rw [htstc]; exact hill.2.1.none_of_onHill ha
  · rw [ht.gate, hgate, hv.prof, hv.gate]

end Sys2Proof

/-! PROOFS. What an announcement of the ranking tells the board (R135, R136). -/

namespace Sys2Proof.Machine

variable {s v u w : State}

/-- What the first ten positions show depends on the ranking and on the directory. -/
theorem topTen_congr (hdir : u.cst.directory = s.cst.directory) (hrank : u.scr.ranking = s.scr.ranking) : topTen u = topTen s := by
  unfold topTen positionShown
  rw [hdir, hrank]

theorem changedLines_length_le (s : State) (after : List (Option (Nat × Option Nat × Nat))) :
    (changedLines (topTen s) after).length ≤ 10 := by
  unfold changedLines
  rw [List.length_map]
  refine (List.length_filter_le _ _).trans ?_
  rw [List.length_zipIdx, List.length_zip]
  exact min_le_left _ _

namespace Tells

variable {ks : List Key} {ns : List NoticeBody} {d : Diag} {sub : Subjects}

theorem enqueueAll (h : Tells v ks ns d sub w) (ks' : List Key) : Tells v (ks ++ ks') ns d sub (enqueueAll ks' false w) where
  queue := by rw [enqueueAll_brd, onto_append, ← h.queue]; rfl
  board := (enqueueAll_brd_core w ks' false).trans h.board
  subjects := by rw [enqueueAll_brd]; exact h.subjects
  core := (enqueueAll_link_core w ks' false).trans h.core
  said hfits := by
    have hroom : ks' = [] ∨ w.brd.queue.length + ks'.length ≤ 32 := by
      rcases hfits with hnil | hlen
      · exact .inl (List.append_eq_nil_iff.mp hnil).2
      · rw [List.length_append] at hlen
        have := onto_length_le (ks := ks) (q := v.brd.queue) (by omega)
        rw [h.queue]
        exact .inr (by omega)
    have hkept : (Machine.enqueueAll ks' false w).link = w.link ∧ (Machine.enqueueAll ks' false w).diag = w.diag := by
      rcases hroom with rfl | hlen
      · exact ⟨rfl, rfl⟩
      · exact enqueueAll_of_room false hlen
    rw [hkept.1, hkept.2]
    exact h.said hfits.left

theorem announceRanking_none (h : Tells v ks ns d sub w) (before : List (Option (Nat × Option Nat × Nat))) :
    Tells v (ks ++ key .rank :: changedLines before (topTen w)) ns d sub (announceRanking before none w) := by
  have htop : topTen (Machine.enqueue (key .rank) w) = topTen w := topTen_congr (by simp) (by simp)
  have hall := (h.enqueue (key .rank)).enqueueAll (changedLines before (topTen (Machine.enqueue (key .rank) w)))
  rw [htop, List.append_assoc] at hall
  have heq : announceRanking before none w =
      Machine.enqueueAll (changedLines before (topTen w)) false (Machine.enqueue (key .rank) w) := by
    rw [← htop]; rfl
  rw [heq]
  exact hall

theorem announceRanking_some (h : Tells v ks ns d sub w) (before : List (Option (Nat × Option Nat × Nat))) (b : Nat) :
    Tells v (ks ++ key .rank :: changedLines before (topTen w)) ns d { sub with rank := some b }
      (announceRanking before (some b) w) := by
  have htop : topTen (Machine.enqueueSubject .rank b w) = topTen w := topTen_congr (by simp) (by simp)
  have hall := (h.enqueueSubject .rank b).enqueueAll (changedLines before (topTen (Machine.enqueueSubject .rank b w)))
  rw [htop, List.append_assoc] at hall
  have heq : announceRanking before (some b) w =
      Machine.enqueueAll (changedLines before (topTen w)) false (Machine.enqueueSubject .rank b w) := by
    rw [← htop]; rfl
  rw [heq]
  exact hall

end Tells

/-! ## A re-ranking that is announced (R136, R137, R139) -/

/-- The records once the record of a bib has changed. -/
def directoryWith (bib : Nat) (f : Competitor → Competitor) (c : Cst) : Cst :=
  { c with directory := c.directory.map fun r => if r.bib = bib then f r else r }

theorem setCompetitor_cst (bib : Nat) (f : Competitor → Competitor) (s : State) :
    (setCompetitor bib f s).cst = directoryWith bib f s.cst := rfl

/-- The ranking follows a change of a competitor's record. -/
def reRankedAs (bib : Nat) (f : Competitor → Competitor) (s : State) : State := reRank bib (setCompetitor bib f s)

theorem reRankAfter_eq (bib : Nat) (f : Competitor → Competitor) (s : State) :
    reRankAfter bib (setCompetitor bib f) s = announceRanking (topTen s) (some bib) (reRankedAs bib f s) := rfl

section

variable (bib : Nat) (f : Competitor → Competitor) (s : State)

theorem reRankAfter_cst : (reRankAfter bib (setCompetitor bib f) s).cst = directoryWith bib f s.cst := by
  rw [reRankAfter_eq, announceRanking_cst]; rfl

theorem reRankAfter_scr : (reRankAfter bib (setCompetitor bib f) s).scr =
    { s.scr with ranking := reRanked (directoryWith bib f s.cst).directory bib s.scr.ranking } := by
  rw [reRankAfter_eq, announceRanking_scr]; rfl

theorem reRankAfter_only (bs : List Block) (hbs : [.brd, .link, .cst, .scr, .diag] ⊆ bs) :
    OnlyChanges bs s (reRankAfter bib (setCompetitor bib f) s) := by
  rw [reRankAfter_eq]
  refine OnlyChanges.mono (bs := [.brd, .link, .cst, .scr, .diag]) ⟨fun b hb => ?_, ?_, ?_⟩ hbs
  · cases b <;> simp [SameBlock, reRankedAs] at hb ⊢
  · simp [reRankedAs]
  · simp [reRankedAs]

theorem reRankAfter_stc : (reRankAfter bib (setCompetitor bib f) s).stc = s.stc := by
  rw [reRankAfter_eq, announceRanking_stc]; simp [reRankedAs]

theorem reRankAfter_gate : (reRankAfter bib (setCompetitor bib f) s).gate = s.gate := by
  rw [reRankAfter_eq, announceRanking_gate]; simp [reRankedAs]

theorem reRankAfter_topTen : topTen (reRankAfter bib (setCompetitor bib f) s) = topTen (reRankedAs bib f s) :=
  topTen_congr (by rw [reRankAfter_cst]; rfl) (by rw [reRankAfter_scr]; rfl)

end

/-- A change of a competitor's record that is shown on the board. -/
theorem Tells.reRankAfter {ks : List Key} {ns : List NoticeBody} {d : Diag} {sub : Subjects} (h : Tells v ks ns d sub w)
    (bib : Nat) (f : Competitor → Competitor) :
    Tells v (ks ++ key .rank :: changedLines (topTen w) (topTen (Machine.reRankAfter bib (setCompetitor bib f) w))) ns d
      { sub with rank := some bib } (Machine.reRankAfter bib (setCompetitor bib f) w) := by
  rw [reRankAfter_topTen, reRankAfter_eq]
  exact (h.frame (u := reRankedAs bib f w) rfl rfl rfl).announceRanking_some (topTen w) bib

end Sys2Proof.Machine

/-! PROOFS. The requests of the rounds (R19 to R24). -/

namespace Sys2Proof

open Machine

variable {s v u t : State} {a : Attempt}

/-! ## The light, the held arm and the attempt at the bar -/

theorem HillOk.clear_of_not_open (h : HillOk s) (hr : s.cst.rstate ≠ .opened) : HillClear s := by
  obtain ⟨-, -, hround, -⟩ := h
  exact fun a ha => Bool.eq_false_iff.mpr fun hon => hr (hround a ha hon).2

theorem updateLight_of_shown (h : lightFor s = s.stc.light) : updateLight s = s := by
  rw [updateLight, setLight, if_pos h]

theorem dropHeldArm_of_empty (h : s.stc.heldArm = false) (cause : DropCause) : dropHeldArm cause s = s := by
  rw [dropHeldArm, h, if_neg (by decide)]

theorem dropHeldArm_of_held (h : s.stc.heldArm = true) (cause : DropCause) :
    dropHeldArm cause s = notify (.armDropped cause) (s.onStc fun c => { c with heldArm := false }) := if_pos h

theorem atBar_of_onHill (ha : onHill? s = some a) (hbar : a.state = .waiting ∨ a.state = .cleared) : atBar? s = some a := by
  rcases hbar with h | h <;> simp [atBar?, ha, h]

theorem atBar_of_clear (h : HillClear s) : atBar? s = none := by simp [atBar?, h.none]

theorem HillClear.congr (h : HillClear s) (hu : u.cst.attempts = s.cst.attempts) : HillClear u := by
  unfold HillClear; rw [hu]; exact h

theorem Machine.Tells.setRoundState {ks : List Key} {ns : List NoticeBody} {d : Diag} {sub : Subjects} (h : Tells v ks ns d sub u)
    (r : RoundState) : Tells v ks ns d sub (setRoundState r u) := h.onCst _

theorem setRoundState_cst (r : RoundState) (s : State) : (setRoundState r s).cst = { s.cst with rstate := r } := rfl

/-- What SUSPEND ROUND does, where no attempt is in motion and what it does to the bar and to the arm leaves the light red. -/
theorem suspendRound_serves (tag : Byte) (hopen : s.cst.rstate = .opened)
    (hstill : ∀ a, onHill? s = some a → a.state ≠ .inRun ∧ a.state ≠ .flight)
    (hu : dropHeldArm .suspend (voidAtBar (taken 0x26 tag s)) = u) (hnone : onHill? u = none) (hred : u.stc.light = .red) :
    serveSuspendRound (taken 0x26 tag s) = done (setRoundState .suspended u) := by
  have hany : (onHill? s).any (fun a => a.state == .inRun || a.state == .flight) = false := by
    cases ha : onHill? s with
    | none => rfl
    | some a => simpa using hstill a ha
  have hfor : lightFor (setRoundState .suspended u) = .red := by
    rw [lightFor_of_none (show onHill? (setRoundState .suspended u) = none from hnone)]; rfl
  have hshown : updateLight (setRoundState .suspended u) = setRoundState .suspended u :=
    updateLight_of_shown (hfor.trans hred.symm)
  simp only [serveSuspendRound, taken_cst, taken_onHill, hopen, hany, hu, hshown]
  rfl

theorem voidAtBar_of_clear (h : HillClear s) : voidAtBar s = s := by rw [voidAtBar, atBar_of_clear h]

theorem voidAtBar_of_onHill (ha : onHill? s = some a) (hbar : a.state = .waiting ∨ a.state = .cleared) :
    voidAtBar s = voidAttempt a s := by rw [voidAtBar, atBar_of_onHill ha hbar]

theorem BarVoided.onHill {r : RoundState} (h : BarVoided a r v u) (hok : HillOk v) (ha : onHill? v = some a) : onHill? u = none :=
  hok.none_of_changed (f := fun x => { x with state := .voided }) ha rfl (by rw [h.cst])

theorem BarVoided.setRoundState {r : RoundState} (h : BarVoided a r v u) (r' : RoundState) :
    BarVoided a r' v (setRoundState r' u) where
  cst := by rw [setRoundState_cst, h.cst]
  stc := h.stc
  gate := h.gate
  only := h.only.trans ⟨fun b hb => by cases b <;> simp [SameBlock, Machine.setRoundState] at hb ⊢, rfl, rfl⟩
  tells := h.tells.setRoundState r'

/-! ## CONFIRM ROUND, RESUME ROUND and SUSPEND ROUND (R20 to R22) -/

section

variable (hF : Free s) (tag : Byte)

include hF

theorem confirmRound_completes (hill : HillLaws s) (hended : s.cst.rstate = .ended) (hred : s.stc.light = .red) :
    Completes (.confirmRound tag) .done .none [.cst, .stc, .diag] s fun t =>
      t.cst = { s.cst with rstate := .confirmed } ∧ t.stc = { s.stc with light := .dark, flashOn := false, flashTimer := none }
        ∧ Boards [key .light] s t ∧ (Room 1 s → t.diag = s.diag ∧ Sends [.light .red .dark none] s t) := by
  have hclear : HillClear s := hill.1.clear_of_not_open (by rw [hended]; decide)
  have hlight : (setRoundState .confirmed (taken 0x24 tag s)).stc.light = .red := by simp [setRoundState, hred]
  have hne : (setRoundState .confirmed (taken 0x24 tag s)).stc.light ≠ .dark := by rw [hlight]; decide
  have hnone : onHill? (setRoundState .confirmed (taken 0x24 tag s)) = none :=
    (hclear.congr (by simp [setRoundState])).none
  have hchain := ((Tells.refl (taken 0x24 tag s)).setRoundState .confirmed).setLight_change hne
  rw [hlight, hnone] at hchain
  refine Completes.of_block hF rfl rfl (by simp only [serveConfirmRound, taken_cst, hended]; rfl) hchain.core
    ⟨fun b hb => by cases b <;> simp [SameBlock, setRoundState] at hb ⊢, by simp [setRoundState], by simp [setRoundState]⟩
    fun t ht => ?_
  obtain ⟨-, -, hboards, hsaid⟩ := told ht hchain (by simp)
  refine ⟨by rw [ht.cst]; simp [setRoundState], ?_, hboards, fun hroom => ?_⟩
  · rw [ht.stc, setLight_stc, if_neg (Ne.symm hne)]
    simp [setRoundState, lit]
  · simpa using hsaid (Room.fits hroom (by simp) (by simp))

theorem resumeRound_completes (hsuspended : s.cst.rstate = .suspended) {P : State → Prop}
    (hP : ∀ t, t.cst = { s.cst with rstate := endChecked { s.cst with rstate := .opened } } → Quiet s t → P t) :
    Completes (.resumeRound tag) .done .none [.cst] s P := by
  refine Completes.of_block hF rfl rfl (u := endCheck (setRoundState .opened (taken 0x27 tag s)))
    (by simp only [serveResumeRound, taken_cst, hsuspended]; rfl) (by simp [setRoundState])
    ⟨fun b hb => by cases b <;> simp [SameBlock, setRoundState] at hb ⊢, by simp [setRoundState], by simp [setRoundState]⟩
    fun t ht => hP t ?_ (ht.quiet (by simp [endCheck_eq, setRoundState]) (by simp [setRoundState]))
  rw [ht.cst, endCheck_cst, setRoundState_cst, taken_cst]

theorem suspendRound_clear (hopen : s.cst.rstate = .opened) (hclear : HillClear s) (hheld : s.stc.heldArm = false)
    (hred : s.stc.light = .red) : Completes (.suspendRound tag) .done .none [.cst] s fun t =>
      t.cst = { s.cst with rstate := .suspended } ∧ Quiet s t := by
  have hserve := suspendRound_serves tag hopen (fun a ha => by rw [hclear.none] at ha; cases ha)
    (by rw [voidAtBar_of_clear (hclear.congr (by simp)), dropHeldArm_of_empty (by simpa using hheld)])
    (by simpa using hclear.none) (by simpa using hred)
  refine Completes.of_block hF rfl rfl hserve (by simp [setRoundState])
    ⟨fun b hb => by cases b <;> simp [SameBlock, setRoundState] at hb ⊢, by simp [setRoundState], by simp [setRoundState]⟩
    fun t ht => ⟨by rw [ht.cst]; simp [setRoundState], ht.quiet (by simp [setRoundState]) (by simp [setRoundState])⟩

theorem suspendRound_held (hill : HillLaws s) (hopen : s.cst.rstate = .opened) (hheld : s.stc.heldArm = true)
    (hred : s.stc.light = .red) : Completes (.suspendRound tag) .done .none [.cst, .stc] s fun t =>
      t.cst = { s.cst with rstate := .suspended } ∧ t.stc = { s.stc with heldArm := false }
        ∧ Boards [] s t ∧ Sends [.armDropped .suspend] s t := by
  have hclear : HillClear s := hill.1.2.2.2 hheld
  have hserve := suspendRound_serves (u := dropHeldArm .suspend (taken 0x26 tag s)) tag hopen
    (fun a ha => by rw [hclear.none] at ha; cases ha) (by rw [voidAtBar_of_clear (hclear.congr (by simp))])
    (by rw [onHill_congr (s := s) (by simp)]; exact hclear.none) (by simpa using hred)
  have hchain := (((Tells.refl (taken 0x26 tag s)).dropHeldArm .suspend).setRoundState .suspended)
  refine Completes.of_block hF rfl rfl hserve hchain.core
    ⟨fun b hb => by cases b <;> simp [SameBlock, setRoundState] at hb ⊢, by simp [setRoundState], by simp [setRoundState]⟩
    fun t ht => ?_
  obtain ⟨-, -, hboards, hsaid⟩ := told ht hchain (by simp)
  refine ⟨by rw [ht.cst]; simp [setRoundState], by rw [ht.stc]; simp [setRoundState], hboards, ?_⟩
  simpa [hheld] using (hsaid (.inl rfl)).2

theorem suspendRound_atBar (hill : HillLaws s) (hlight : LightOk s) (hopen : s.cst.rstate = .opened) (ha : onHill? s = some a)
    (hbar : a.state = .waiting ∨ a.state = .cleared) :
    Completes (.suspendRound tag) .done .none [.cst, .stc, .gate, .diag] s (VoidedAtBar a .suspended s) := by
  have hstill : ∀ b, onHill? s = some b → b.state ≠ .inRun ∧ b.state ≠ .flight := fun b hb => by
    obtain rfl := Option.some.inj (ha.symm.trans hb)
    rcases hbar with h | h <;> simp [h]
  have hv : HillLaws (taken 0x26 tag s) := hill.congr (by simp) (by simp) (by simp)
  have hav : onHill? (taken 0x26 tag s) = some a := by simpa using ha
  have hvoid := voidAttempt_atBar hv (hlight.congr (by simp) (by simp)) hav hbar
  have hserve := suspendRound_serves tag hopen hstill
    (by rw [voidAtBar_of_onHill hav hbar, dropHeldArm_of_empty (by rw [hvoid.stc]; exact hv.1.heldArm_of_onHill hav)])
    (hvoid.onHill hv.1 hav) (by rw [hvoid.stc]; rfl)
  have hdone := hvoid.setRoundState .suspended
  exact Completes.of_block hF rfl rfl hserve hdone.tells.core hdone.only
    fun t ht => .of_barVoided ht (.taken _ _ _) hdone hill ha

end

/-- Settles O28: the three requests, and their refusals. -/
theorem roundsAreConfirmedResumedAndSuspended : Obligations.RoundsAreConfirmedResumedAndSuspended := by
  intro s tag hF hill
  refine ⟨confirmRound_completes hF tag hill, fun h => ?_, fun hsuspended => ?_, fun h => ?_, suspendRound_clear hF tag,
    suspendRound_held hF tag hill, fun a hlight => suspendRound_atBar hF tag hill hlight, fun a hopen ha hmoving => ?_, fun h => ?_⟩
  · exact refuses_of_block hF rfl rfl (by simp [serveConfirmRound, h])
  · have hclear := hill.1.clear_of_not_open (by rw [hsuspended]; decide)
    refine resumeRound_completes hF tag hsuspended fun t hcst hquiet => ?_
    rw [hcst]
    exact ⟨rfl, hquiet, fun hlist hdone => endChecked_of_clear rfl hlist fun a ha hr => ⟨hclear a ha, hdone a ha hr⟩, fun h => by
      rcases h with hlist | ⟨a, ha, hr, hscoring⟩
      · exact endChecked_of_list hlist
      · exact endChecked_of_busy (c := { s.cst with rstate := .opened }) ha hr (.inr hscoring)⟩
  · exact refuses_of_block hF rfl rfl (by simp [serveResumeRound, h])
  · refine refuses_of_block hF rfl rfl ?_
    rcases hmoving with h | h <;> simp [serveSuspendRound, hopen, ha, h]
  · exact refuses_of_block hF rfl rfl (by simp [serveSuspendRound, h])

/-! ## OPEN ROUND (R19, R138) -/

section

variable {dir : List Competitor} {ranking : List Nat}

theorem mem_rankedRecords {c : Competitor} (hc : c ∈ rankedRecords dir ranking) :
    findBib dir c.bib = some c ∧ c.bib ∈ ranking ∧ c.disqualified = false := by
  obtain ⟨hmem, hq⟩ := List.mem_filter.mp hc
  obtain ⟨b, hb, hfind⟩ := List.mem_filterMap.mp hmem
  obtain rfl := (findBib_mem hfind).2
  exact ⟨hfind, hb, by simpa using hq⟩

/-- The bibs of the entries that are not disqualified. -/
theorem rankedRecords_bibs (dir : List Competitor) (ranking : List Nat) : (rankedRecords dir ranking).map Competitor.bib =
    ranking.filter fun b => (findBib dir b).any fun c => !c.disqualified := by
  induction ranking with
  | nil => rfl
  | cons b r ih =>
    unfold rankedRecords at ih ⊢
    rw [List.filter_cons, ← ih]
    cases hb : findBib dir b with
    | none => simp [hb]
    | some c =>
      obtain rfl := (findBib_mem hb).2
      cases hd : c.disqualified <;> simp [hb, hd]

/-- The entries that are not disqualified stand by their totals (R134). -/
theorem rankedRecords_sorted (h : ranking.Pairwise (InOrder dir)) :
    (rankedRecords dir ranking).Pairwise fun x y => rankingTotal y ≤ rankingTotal x := by
  unfold rankedRecords
  rw [List.pairwise_filter, List.pairwise_filterMap]
  refine h.imp fun {a b} hab x hx y hy hxd hyd => ?_
  have hbefore := hab x y hx hy
  simp only [Bool.not_eq_true'] at hxd hyd
  simp only [ranksBefore, hxd, hyd, Bool.false_eq_true, if_false, Bool.false_or, Bool.or_eq_true, decide_eq_true_eq,
    Bool.and_eq_true, beq_iff_eq] at hbefore
  omega

/-- In a list by totals those with the greatest total stand in front. -/
theorem tied_in_front {rs : List Competitor} {x : Nat} (hs : rs.Pairwise fun a b => rankingTotal b ≤ rankingTotal a)
    (hle : ∀ c ∈ rs, rankingTotal c ≤ x) :
    rs.filter (fun c => rankingTotal c == x) = rs.take (rs.filter fun c => rankingTotal c == x).length
      ∧ ∀ m c, rs[m]? = some c → (m < (rs.filter fun c => rankingTotal c == x).length ↔ rankingTotal c = x) := by
  induction rs with
  | nil => simp
  | cons a r ih =>
    obtain ⟨ha, hr⟩ := List.pairwise_cons.mp hs
    by_cases hax : rankingTotal a = x
    · obtain ⟨htake, hlt⟩ := ih hr fun c hc => hle c (List.mem_cons_of_mem _ hc)
      rw [List.filter_cons_of_pos (by simp [hax])]
      refine ⟨by rw [List.length_cons, List.take_succ_cons, ← htake], fun m c hc => ?_⟩
      cases m with
      | zero =>
        obtain rfl : a = c := by simpa using hc
        simp [hax]
      | succ m => simpa using hlt m c (by simpa using hc)
    · have hbelow : ∀ c ∈ a :: r, rankingTotal c ≠ x := fun c hc => by
        have := hle a List.mem_cons_self
        obtain rfl | hc := List.mem_cons.mp hc
        · exact hax
        · have := ha c hc
          omega
      have hnil : (a :: r).filter (fun c => rankingTotal c == x) = [] :=
        List.filter_eq_nil_iff.mpr fun c hc => by simpa using hbelow c hc
      rw [hnil]
      exact ⟨rfl, fun m c hc => ⟨fun h => absurd h (by simp), fun h => absurd h (hbelow c (List.mem_of_getElem? hc))⟩⟩

/-- The first `n` entries, where all of them are taken. -/
theorem fromRanking_of_few {q : Nat} (h : (rankedRecords dir ranking).length ≤ q) :
    fromRanking dir ranking q = ((rankedRecords dir ranking).map Competitor.bib).reverse := by
  simp only [fromRanking, List.take_of_length_le h, List.drop_of_length_le h, List.map_reverse]
  split <;> simp

theorem fromRanking_of_many {q : Nat} (hsorted : ranking.Pairwise (InOrder dir)) (hq : 1 ≤ q)
    (hle : q ≤ (rankedRecords dir ranking).length) : ∃ n last, q ≤ n ∧ n ≤ (rankedRecords dir ranking).length
      ∧ (rankedRecords dir ranking)[q - 1]? = some last
      ∧ fromRanking dir ranking q = (((rankedRecords dir ranking).take n).map Competitor.bib).reverse
      ∧ ∀ m c, q ≤ m → (rankedRecords dir ranking)[m]? = some c → (m < n ↔ rankingTotal c = rankingTotal last) := by
  have hs := rankedRecords_sorted hsorted
  unfold fromRanking
  generalize rankedRecords dir ranking = rs at hs hle ⊢
  obtain ⟨last, hlast⟩ : ∃ last, rs[q - 1]? = some last := ⟨_, List.getElem?_eq_getElem (by omega)⟩
  have hget : (rs.take q).getLast? = some last := by
    rw [List.getLast?_take, if_neg (by omega), hlast]; rfl
  have hbelow : ∀ c ∈ rs.drop q, rankingTotal c ≤ rankingTotal last := fun c hc => by
    rw [← List.take_append_drop q rs] at hs
    exact (List.pairwise_append.mp hs).2.2 last (List.mem_of_getLast? hget) c hc
  obtain ⟨htake, hlt⟩ := tied_in_front (hs.sublist (List.drop_sublist q rs)) hbelow
  refine ⟨q + ((rs.drop q).filter fun c => rankingTotal c == rankingTotal last).length, last, by omega, ?_, hlast, ?_,
    fun m c hm hc => ?_⟩
  · have := List.length_filter_le (fun c => rankingTotal c == rankingTotal last) (rs.drop q)
    rw [List.length_drop] at this
    omega
  · simp only [hget]
    rw [List.take_add, ← htake, List.map_reverse]
  · rw [← hlt (m - q) c (by rw [List.getElem?_drop]; rwa [Nat.add_sub_cancel' hm])]
    omega

end

/-- The records and the gates of a new round. -/
def opened (list : List Nat) (s : State) : State :=
  (s.onCst fun c => { c with round := c.round + 1, rstate := .opened, startList := list }).onGate fun g => { g with reference := none }

/-- Nothing stands in the way of a new round (R17, R40, R57): no coach reduction is pending, the hill is clear, the light is dark. -/
theorem openWith_eq (list : List Nat) (hcoach : s.stc.coach = none) (hclear : HillClear s) :
    openWith list s = setLight .red (opened list s) ∧ onHill? (opened list s) = none := by
  have hnone : onHill? (opened list s) = none := (hclear.congr rfl).none
  have hkept : afterHeadChange (opened list s) = opened list s := afterHeadChange_of_kept _ (coachOff_of_none hcoach _)
  refine ⟨?_, hnone⟩
  change updateLight (afterHeadChange (opened list s)) = _
  rw [hkept, updateLight, lightFor_of_none hnone]
  rfl

section

variable (hF : Free s) (tag : Byte)

include hF

theorem openRound_completes {source : Nat} {q : Option Nat} {list : List Nat} (hcoach : s.stc.coach = none) (hclear : HillClear s)
    (hdark : s.stc.light = .dark)
    (hserve : serveOpenRound source q (taken 0x20 tag s) = done (openWith list (taken 0x20 tag s))) :
    Completes (.openRound tag source q) .done .none [.cst, .stc, .gate, .diag] s fun t =>
      t.cst = { s.cst with round := s.cst.round + 1, rstate := .opened, startList := list }
        ∧ t.gate = { s.gate with reference := none } ∧ t.stc = { s.stc with light := .red, flashOn := false, flashTimer := none }
        ∧ LinkKept s t ∧ t.brd.subjects = s.brd.subjects ∧ Boards [key .light] s t
        ∧ (Room 1 s → t.diag = s.diag ∧ Sends [.light .dark .red none] s t) := by
  obtain ⟨heq, hnone⟩ := openWith_eq (s := taken 0x20 tag s) list (by simpa using hcoach) (hclear.congr (by simp))
  have hlight : (opened list (taken 0x20 tag s)).stc.light = .dark := by simp [opened, hdark]
  have hne : (opened list (taken 0x20 tag s)).stc.light ≠ .red := by rw [hlight]; decide
  have hchain := ((Tells.refl (taken 0x20 tag s)).frame (u := opened list (taken 0x20 tag s)) rfl rfl rfl).setLight_change hne
  rw [hlight, hnone] at hchain
  rw [heq] at hserve
  refine Completes.of_block hF rfl rfl hserve hchain.core
    ⟨fun b hb => by cases b <;> simp [SameBlock, opened] at hb ⊢, by simp [opened], by simp [opened]⟩ fun t ht => ?_
  obtain ⟨hlink, hsub, hboards, hsaid⟩ := told ht hchain (by simp)
  refine ⟨by rw [ht.cst]; simp [opened], by rw [ht.gate]; simp [opened], ?_, hlink, by simpa using hsub, hboards, fun hroom => ?_⟩
  · rw [ht.stc, setLight_stc, if_neg (Ne.symm hne)]
    simp [opened, lit]
  · simpa using hsaid (Room.fits hroom (by simp) (by simp))

end

/-- The parameters that pass the first check of OPEN ROUND are those that fit the source. -/
theorem sourceMisfit_eq_false {source : Nat} {q : Option Nat}
    (h : (source = 0 ∧ q = none) ∨ (source = 1 ∧ q.isSome = true) ∨ 1 < source) : sourceMisfit source q = false := by
  rcases h with ⟨rfl, rfl⟩ | ⟨rfl, hq⟩ | h
  · rfl
  · obtain ⟨n, rfl⟩ := Option.isSome_iff_exists.mp hq
    rfl
  · simp [sourceMisfit, show source ≠ 0 by omega, show source ≠ 1 by omega]

theorem mayOpen_iff (c : Cst) : mayOpen c = true ↔ c.rstate = .none ∨ (c.rstate = .confirmed ∧ c.round < 4) := by
  simp [mayOpen]

theorem mayOpen_of_open (h : hasOpenRound s = true) : mayOpen s.cst = false := by
  unfold hasOpenRound at h
  cases hr : s.cst.rstate <;> simp [hr, mayOpen] at h ⊢

section

variable (hmay : mayOpen s.cst = true) (hfree : s.prof.writing = none)

include hmay hfree

theorem serveOpenRound_empty : serveOpenRound 0 none s = done (openWith [] s) := by
  simp [serveOpenRound, sourceMisfit, hmay, hfree]

theorem serveOpenRound_ranking {n : Nat} (hn : within 1 80 n = true) : serveOpenRound 1 (some n) s =
    if 80 < (fromRanking s.cst.directory s.scr.ranking n).length then refuse .full s
    else done (openWith (fromRanking s.cst.directory s.scr.ranking n) s) := by
  simp [serveOpenRound, sourceMisfit, hmay, hfree, hn]

theorem serveOpenRound_range {source : Nat} {q : Option Nat} (hfit : sourceMisfit source q = false)
    (h : 1 < source ∨ (source = 1 ∧ (q = some 0 ∨ 80 < q.getD 0))) : serveOpenRound source q s = refuse .range s := by
  rcases h with h | ⟨rfl, h⟩
  · obtain ⟨n, rfl⟩ := Nat.exists_eq_add_of_lt h
    rw [show 1 + n + 1 = n + 2 by omega] at hfit ⊢
    simp [serveOpenRound, hfit, hmay, hfree]
  · cases q with
    | none => simp [sourceMisfit] at hfit
    | some n =>
      have hn : within 1 80 n = false := by
        simp only [Option.some.injEq, Option.getD_some] at h
        simp [within]; omega
      simp [serveOpenRound, hfit, hmay, hfree, hn]

end

/-- Settles O27: a round opened from both sources, the list of the ranking, and the refusals. -/
theorem openRoundRaisesTheNumber : Obligations.OpenRoundRaisesTheNumber := by
  refine ⟨fun s tag source q list hF hfree hstate hcoach hclear hdark hsource => ?_, fun s q hrank => ?_,
    fun s tag q hF => ⟨?_, ?_⟩, fun s tag source q hF hsource => ⟨fun hstate => ?_, fun hstate => ⟨fun hbusy => ?_, fun hfree hbad => ?_⟩⟩⟩
  · have hmay : mayOpen (taken 0x20 tag s).cst = true := by rw [taken_cst]; exact (mayOpen_iff s.cst).mpr hstate
    have hfree' : (taken 0x20 tag s).prof.writing = none := by rw [taken_prof]; exact hfree
    rcases hsource with ⟨rfl, rfl, rfl⟩ | ⟨rfl, n, rfl, hlo, hhi, rfl⟩
    · exact ⟨fun _ => openRound_completes hF tag hcoach hclear hdark (serveOpenRound_empty hmay hfree'),
        fun h => absurd h (by simp)⟩
    · have hserve := serveOpenRound_ranking hmay hfree' (n := n) (by simp [within]; omega)
      rw [taken_cst, taken_scr] at hserve
      exact ⟨fun h => openRound_completes hF tag hcoach hclear hdark (hserve.trans (if_neg (by omega))),
        fun h => refuses_of_block hF rfl rfl (hserve.trans (if_pos h))⟩
  · obtain ⟨-, -, -, hsorted⟩ := hrank
    simp only [← rankedRecords_bibs, List.length_map]
    refine ⟨fromRanking_of_few, fun hq hle => ?_⟩
    obtain ⟨n, last, hqn, hn, hlast, hlist, hties⟩ := fromRanking_of_many hsorted hq hle
    refine ⟨n, hqn, hn, by rw [hlist, List.map_take], fun m l b hm hl hb => ?_⟩
    rw [List.getElem?_map] at hl hb
    rw [hlast] at hl
    obtain ⟨c, hc, rfl⟩ := Option.map_eq_some_iff.mp hb
    obtain rfl : last.bib = l := by simpa using hl
    rw [(mem_rankedRecords (List.mem_of_getElem? hc)).1, (mem_rankedRecords (List.mem_of_getElem? hlast)).1, hties m c hm hc]
    simp
  · exact refuses_of_block hF rfl rfl (by simp [serveOpenRound, sourceMisfit])
  · exact refuses_of_block hF rfl rfl (by simp [serveOpenRound, sourceMisfit])
  · have hmay : mayOpen s.cst = false := by
      rcases hstate with h | ⟨hconfirmed, hround⟩
      · exact mayOpen_of_open h
      · simp [mayOpen, hconfirmed, not_lt.mpr hround]
    exact refuses_of_block hF rfl rfl (by simp [serveOpenRound, sourceMisfit_eq_false hsource, hmay])
  · have hmay : mayOpen s.cst = true := (mayOpen_iff s.cst).mpr hstate
    exact refuses_of_block hF rfl rfl (by simp [serveOpenRound, sourceMisfit_eq_false hsource, hmay, hbusy])
  · have hmay : mayOpen s.cst = true := (mayOpen_iff s.cst).mpr hstate
    exact refuses_of_block hF rfl rfl
      (serveOpenRound_range (by simpa using hmay) (by simpa using hfree) (sourceMisfit_eq_false hsource) hbad)

end Sys2Proof

/-! PROOFS. CANCEL ROUND (R23, R24): what it stops, the return of the gate, and what it tells. -/

namespace Sys2Proof

open Machine

variable {s v u t : State} {ks : List Key} {ns : List NoticeBody} {d : Diag} {sub : Subjects}

/-! ## The records (R23) -/

theorem cancelRecords_attempts (c : Cst) : (cancelRecords c).attempts = c.attempts.map (fun a =>
    if a.round = c.round ∧ a.state ≠ .voided ∧ a.state ≠ .cancelled then { a with state := .cancelled } else a) := by
  refine List.map_congr_left fun a _ => ?_
  simp [cancelled, and_assoc]

theorem mem_lapsedBibs {round b : Nat} {as : List Attempt} :
    b ∈ lapsedBibs round as ↔ ∃ a ∈ as, a.round = round ∧ a.state = .lapsed ∧ a.bib = b := by
  simp [lapsedBibs, and_assoc]

theorem cancelRecords_directory {c : Cst} {r : Competitor} (hr : r ∈ c.directory) : ∃ d ∈ (cancelRecords c).directory,
    d.bib = r.bib ∧ d.totals = r.totals.set (c.round - 1) none
      ∧ (d.disqualified = true ↔ r.disqualified = true ∧
          ¬∃ a ∈ c.attempts, a.round = c.round ∧ a.state = .lapsed ∧ a.bib = r.bib) := by
  refine ⟨_, List.mem_map_of_mem hr, rfl, rfl, ?_⟩
  rw [← mem_lapsedBibs]
  simp

/-- No attempt of a cancelled round is on the hill. -/
theorem onHill_cancelRecords (hok : HillOk s) (hu : u.cst.attempts = (cancelRecords s.cst).attempts) : onHill? u = none := by
  obtain ⟨-, -, hround, -⟩ := hok
  refine HillClear.none fun r hr => ?_
  rw [hu, cancelRecords_attempts] at hr
  obtain ⟨a, ha, rfl⟩ := List.mem_map.mp hr
  split
  next => rfl
  next hkept =>
    refine Bool.eq_false_iff.mpr fun hon => hkept ⟨(hround a ha hon).1, ?_, ?_⟩
    · rintro hvoided; simp [hvoided, AttemptState.onHill] at hon
    · rintro hcancelled; simp [hcancelled, AttemptState.onHill] at hon

/-! ## What was in flight, the held arm and the window (R24, R35, R44) -/

/-- Once the records are cancelled and everything in flight is stopped. -/
def stopped (s : State) : State := dropHeldArm .cancel (stopWindow (dropClear (stopFlights (s.onCst cancelRecords))))

theorem stopped_cst (s : State) : (stopped s).cst = cancelRecords s.cst := by
  simp [stopped, stopFlights, stopMeasuring, dropWindow]

theorem stopped_stc (s : State) : (stopped s).stc =
    { s.stc with window := none, clearPending := false, windWaitSent := false, heldArm := false,
                 countdown := if s.stc.window.isSome then none else s.stc.countdown } := by
  simp only [stopped, dropHeldArm_stc, stopWindow_stc_of_dropClear]
  rfl

theorem stopped_gate (s : State) : (stopped s).gate = s.gate := by simp [stopped, stopFlights, stopMeasuring, dropWindow]

theorem stopped_meas (s : State) : (stopped s).meas =
    { s.meas with trap := .off, trapAttempt := none, trapTimer := none, markLimit := none, waits := [] } := by
  simp [stopped, stopFlights, stopMeasuring, dropWindow]

theorem stopped_wln (s : State) : (stopped s).wln = { s.wln with window := none } := by
  simp [stopped, stopFlights, stopMeasuring, dropWindow]

theorem stopped_tells (s : State) : Tells s (if s.stc.window.isSome then [key .countdown] else [])
    (if s.stc.heldArm then [.armDropped .cancel] else []) s.diag s.brd.subjects (stopped s) := by
  have h := (((Tells.refl s).frame (u := stopFlights (s.onCst cancelRecords)) rfl rfl rfl).dropClear.stopWindow).dropHeldArm .cancel
  have harm : (stopWindow (dropClear (stopFlights (s.onCst cancelRecords)))).stc.heldArm = s.stc.heldArm := by
    rw [stopWindow_stc_of_dropClear]; rfl
  rw [harm] at h
  exact h

/-! ## The return of the gate (R57, R58, R59) -/

/-- Whether the cancelled round asks for a return to the jury gate. -/
def asksReturn (s : State) : Bool := s.stc.coach.isSome || ((onHill? s).bind Attempt.coach).isSome

/-- The gate has been asked to return, where it was to. -/
def afterCancel (jumper : Option Attempt) (s : State) : State := cancelledReturn jumper (afterHeadChange (stopped s))

theorem afterHeadChange_of_empty (h : s.cst.startList = []) : afterHeadChange s =
    if s.stc.coach.isSome then requestReturn (s.onStc fun c => { c with coach := none }) else s := by
  unfold afterHeadChange
  cases hc : s.stc.coach <;> simp [h]

theorem cancelledReturn_cases (jumper : Option Attempt) (s : State) :
    cancelledReturn jumper s = requestReturn s ∨ cancelledReturn jumper s = s := by
  unfold cancelledReturn coachReturn
  cases jumper with
  | none => exact .inr rfl
  | some a =>
    by_cases h : a.state.onHill = true ∧ a.coach.isSome = true
    · exact .inl (if_pos h)
    · exact .inr (if_neg h)

/-- What holds after the return, whether or not it was asked for. -/
theorem afterCancel_induction {P : State → Prop} (jumper : Option Attempt) (hbase : P (stopped s))
    (hcoach : ∀ u, P u → P (u.onStc fun c => { c with coach := none })) (hreturn : ∀ u, P u → P (requestReturn u)) :
    P (afterCancel jumper s) := by
  have hhead : P (afterHeadChange (stopped s)) := by
    rw [afterHeadChange_of_empty (by rw [stopped_cst]; rfl)]
    split
    · exact hreturn _ (hcoach _ hbase)
    · exact hbase
  rcases cancelledReturn_cases jumper (afterHeadChange (stopped s)) with h | h
  · rw [afterCancel, h]; exact hreturn _ hhead
  · rw [afterCancel, h]; exact hhead

theorem afterCancel_cst (jumper : Option Attempt) (s : State) : (afterCancel jumper s).cst = cancelRecords s.cst :=
  afterCancel_induction (P := fun u => u.cst = cancelRecords s.cst) jumper (stopped_cst s) (fun _ h => h)
    fun u h => (requestReturn_cst u).trans h

theorem afterCancel_only (jumper : Option Attempt) (s : State) :
    OnlyChanges [.brd, .link, .cst, .stc, .gate, .wln, .meas, .diag] s (afterCancel jumper s) := by
  refine afterCancel_induction jumper ?_ (fun u h => h.trans ?_) (fun u h => h.trans ?_)
  · exact ⟨fun b hb => by cases b <;> simp [SameBlock, stopped, stopFlights, stopMeasuring, dropWindow] at hb ⊢,
      by simp [stopped, stopFlights, stopMeasuring, dropWindow], by simp [stopped, stopFlights, stopMeasuring, dropWindow]⟩
  · exact ⟨fun b hb => by cases b <;> simp [SameBlock] at hb ⊢, rfl, rfl⟩
  · exact ⟨fun b hb => by cases b <;> simp [SameBlock] at hb ⊢, by simp, by simp⟩

theorem afterCancel_meas (jumper : Option Attempt) (s : State) : (afterCancel jumper s).meas = (stopped s).meas ∧
    (afterCancel jumper s).wln = (stopped s).wln :=
  afterCancel_induction (P := fun u => u.meas = (stopped s).meas ∧ u.wln = (stopped s).wln) jumper ⟨rfl, rfl⟩ (fun _ h => h)
    fun u h => by rw [requestReturn_meas, requestReturn_wln]; exact h

theorem afterCancel_tells (jumper : Option Attempt) (s : State) :
    ∃ ks ns, Tells s ks ns s.diag s.brd.subjects (afterCancel jumper s) :=
  afterCancel_induction (P := fun u => ∃ ks ns, Tells s ks ns s.diag s.brd.subjects u) jumper ⟨_, _, stopped_tells s⟩
    (fun _ ⟨ks, ns, h⟩ => ⟨ks, ns, h.onStc _⟩) fun _ ⟨_, _, h⟩ => ⟨_, _, h.requestReturn⟩

theorem afterCancel_stc (jumper : Option Attempt) (s : State) :
    (afterCancel jumper s).stc = { (stopped s).stc with coach := none } := by
  have hhead : (afterHeadChange (stopped s)).stc = { (stopped s).stc with coach := none } := by
    rw [afterHeadChange_of_empty (by rw [stopped_cst]; rfl)]
    split
    next => simp
    next hnone =>
      have hcoach : (stopped s).stc.coach = none := by simpa using hnone
      rw [← hcoach]
  rcases cancelledReturn_cases jumper (afterHeadChange (stopped s)) with h | h
  · rw [afterCancel, h, requestReturn_stc, hhead]
  · rw [afterCancel, h, hhead]

theorem onStc_of_fixed {f : Stc → Stc} (h : f s.stc = s.stc) : s.onStc f = s := by
  unfold State.onStc
  rw [h]

/-- Under the laws of the hill a coach reduction is pending or has been used by the attempt on the hill, never both. -/
theorem afterCancel_eq (hill : HillLaws s) : afterCancel (onHill? s) s =
    if asksReturn s then requestReturn ((stopped s).onStc fun c => { c with coach := none })
    else (stopped s).onStc fun c => { c with coach := none } := by
  obtain ⟨-, hcoach, -⟩ := hill
  have hempty : (stopped s).cst.startList = [] := by rw [stopped_cst]; rfl
  have hsame : (stopped s).stc.coach = s.stc.coach := by rw [stopped_stc]
  unfold afterCancel asksReturn
  rw [afterHeadChange_of_empty hempty, hsame]
  cases hc : s.stc.coach with
  | some p =>
    have hnone : onHill? s = none := (hcoach p.1 p.2 hc).2.none
    simp [hnone, cancelledReturn]
  | none =>
    have hnone : (stopped s).stc.coach = none := hsame.trans hc
    rw [onStc_of_fixed (show { (stopped s).stc with coach := none } = (stopped s).stc by rw [← hnone])]
    cases ha : onHill? s with
    | none => simp [cancelledReturn]
    | some a => simp [cancelledReturn, coachReturn, (onHill_mem ha).2]

/-! ## The command -/

/-- The light is dark and the ranking is rebuilt. -/
def cancelledWhole (s : State) : State := rebuildRanking (setLight .dark (afterCancel (onHill? s) s))

theorem cancelOpenRound_eq (s : State) : cancelOpenRound s =
    notify (.roundCancelled s.cst.round (s.cst.attempts.filter (cancelled s.cst.round)).length)
      (announceRanking (topTen s) none (cancelledWhole s)) := by
  have hdark : lightFor (afterCancel (onHill? s) s) = .dark := by
    unfold lightFor
    rw [afterCancel_cst]
    by_cases h : s.cst.round - 1 = 0 <;> simp [cancelRecords, h]
  have hlit : updateLight (afterCancel (onHill? s) s) = setLight .dark (afterCancel (onHill? s) s) := by rw [updateLight, hdark]
  rw [cancelledWhole, ← hlit]
  rfl

theorem cancelledWhole_cst (s : State) : (cancelledWhole s).cst = cancelRecords s.cst := by
  simp [cancelledWhole, rebuildRanking, afterCancel_cst]

theorem cancelledWhole_scr (s : State) : (cancelledWhole s).scr.ranking = rankingOf (cancelRecords s.cst).directory := by
  simp [cancelledWhole, rebuildRanking, afterCancel_cst]

theorem cancelledWhole_stc (s : State) : (cancelledWhole s).stc =
    if Light.dark = s.stc.light then { (stopped s).stc with coach := none }
    else lit .dark { (stopped s).stc with coach := none } := by
  have hlight : (afterCancel (onHill? s) s).stc.light = s.stc.light := by rw [afterCancel_stc, stopped_stc]
  change (setLight .dark (afterCancel (onHill? s) s)).stc = _
  rw [setLight_stc, hlight, afterCancel_stc]

theorem cancelledWhole_tells (hill : HillLaws s) : Tells s
    ((if s.stc.window.isSome then [key .countdown] else []) ++ (if asksReturn s then returnKeys s.gate else []) ++
      (if s.stc.light = .dark then [] else [key .light]))
    ((if s.stc.heldArm then [.armDropped .cancel] else []) ++ (if asksReturn s then returnNotices s.gate else []) ++
      (if s.stc.light = .dark then [] else [.light s.stc.light .dark none])) s.diag s.brd.subjects (cancelledWhole s) := by
  have hlight : (afterCancel (onHill? s) s).stc.light = s.stc.light := by rw [afterCancel_stc, stopped_stc]
  have hnone : onHill? (afterCancel (onHill? s) s) = none := onHill_cancelRecords hill.1 (by rw [afterCancel_cst])
  have hreturn : Tells s ((if s.stc.window.isSome then [key .countdown] else []) ++ (if asksReturn s then returnKeys s.gate else []))
      ((if s.stc.heldArm then [.armDropped .cancel] else []) ++ (if asksReturn s then returnNotices s.gate else []))
      s.diag s.brd.subjects (afterCancel (onHill? s) s) := by
    have h := (stopped_tells s).onStc fun c => { c with coach := none }
    rw [afterCancel_eq hill]
    by_cases hasks : asksReturn s = true
    · simp only [if_pos hasks]
      have hr := h.requestReturn
      rwa [show ((stopped s).onStc fun c => { c with coach := none }).gate = s.gate from stopped_gate s] at hr
    · simpa only [if_neg hasks, List.append_nil] using h
  refine Tells.frame (w := setLight .dark (afterCancel (onHill? s) s)) ?_ rfl rfl rfl
  by_cases hdark : s.stc.light = .dark
  · simpa only [if_pos hdark, List.append_nil] using hreturn.setLight_same (hlight.trans hdark)
  · have h := hreturn.setLight_change (l := .dark) (by rw [hlight]; exact hdark)
    rw [hlight, hnone, Option.map_none] at h
    simpa only [if_neg hdark] using h

theorem cancelOpenRound_core (s : State) : (cancelOpenRound s).link.core = s.link.core ∧
    (cancelOpenRound s).brd.subjects = s.brd.subjects := by
  obtain ⟨ks, ns, h⟩ := afterCancel_tells (onHill? s) s
  have hlit : ∃ ks ns, Tells s ks ns s.diag s.brd.subjects (cancelledWhole s) := by
    by_cases hdark : (afterCancel (onHill? s) s).stc.light = .dark
    · exact ⟨_, _, (h.setLight_same hdark).frame rfl rfl rfl⟩
    · exact ⟨_, _, (h.setLight_change hdark).frame rfl rfl rfl⟩
  obtain ⟨_, _, h⟩ := hlit
  have h := (h.announceRanking_none (topTen s)).notify
    (.roundCancelled s.cst.round (s.cst.attempts.filter (cancelled s.cst.round)).length)
  rw [← cancelOpenRound_eq] at h
  exact ⟨h.core, h.subjects⟩

theorem cancelOpenRound_only (s : State) :
    OnlyChanges [.brd, .link, .cst, .stc, .gate, .wln, .meas, .scr, .diag] s (cancelOpenRound s) := by
  rw [cancelOpenRound_eq]
  obtain ⟨hblocks, hctr, hpending⟩ := afterCancel_only (onHill? s) s
  refine ⟨fun b hb => ?_, by simpa [cancelledWhole, rebuildRanking] using hctr,
    by simpa [cancelledWhole, rebuildRanking] using hpending⟩
  have h := hblocks b (by simp at hb ⊢; tauto)
  cases b <;> simp [SameBlock, cancelledWhole, rebuildRanking] at hb h ⊢ <;> exact h

/-- What CANCEL ROUND leaves, by the state that its block was given. -/
theorem cancelOpenRound_blocks (s : State) : (cancelOpenRound s).cst = cancelRecords s.cst
    ∧ (cancelOpenRound s).scr.ranking = rankingOf (cancelRecords s.cst).directory
    ∧ (cancelOpenRound s).stc = (if Light.dark = s.stc.light then { (stopped s).stc with coach := none }
        else lit .dark { (stopped s).stc with coach := none })
    ∧ (cancelOpenRound s).meas = (stopped s).meas ∧ (cancelOpenRound s).wln = (stopped s).wln
    ∧ (cancelOpenRound s).gate = (afterCancel (onHill? s) s).gate := by
  obtain ⟨hmeas, hwln⟩ := afterCancel_meas (onHill? s) s
  rw [cancelOpenRound_eq]
  simp only [notify_cst, announceRanking_cst, notify_scr, announceRanking_scr, notify_stc, announceRanking_stc, notify_meas,
    announceRanking_meas, notify_wln, announceRanking_wln, notify_gate, announceRanking_gate]
  refine ⟨cancelledWhole_cst s, cancelledWhole_scr s, cancelledWhole_stc s, ?_, ?_, ?_⟩
  · simpa [cancelledWhole, rebuildRanking] using hmeas
  · simpa [cancelledWhole, rebuildRanking] using hwln
  · simp [cancelledWhole, rebuildRanking]

theorem afterCancel_gate (hill : HillLaws s) : (afterCancel (onHill? s) s).gate =
    if asksReturn s then returned s.prof.profile.hill s.gate else s.gate := by
  have hprof : (stopped s).prof = s.prof := by simp [stopped, stopFlights, stopMeasuring, dropWindow]
  rw [afterCancel_eq hill]
  split
  · rw [requestReturn_gate, State.onStc_prof, State.onStc_gate, stopped_gate, hprof]
  · rw [State.onStc_gate, stopped_gate]

theorem cancelOpenRound_tells (hill : HillLaws s) : Tells s
    ((if s.stc.window.isSome then [key .countdown] else []) ++ (if asksReturn s then returnKeys s.gate else []) ++
      (if s.stc.light = .dark then [] else [key .light]) ++ key .rank :: changedLines (topTen s) (topTen (cancelOpenRound s)))
    ((if s.stc.heldArm then [.armDropped .cancel] else []) ++ (if asksReturn s then returnNotices s.gate else []) ++
      (if s.stc.light = .dark then [] else [.light s.stc.light .dark none]) ++
        [.roundCancelled s.cst.round (s.cst.attempts.filter (cancelled s.cst.round)).length])
    s.diag s.brd.subjects (cancelOpenRound s) := by
  have htop : topTen (cancelOpenRound s) = topTen (cancelledWhole s) := by
    rw [cancelOpenRound_eq]
    exact topTen_congr (by simp) (by simp)
  rw [htop, cancelOpenRound_eq]
  exact ((cancelledWhole_tells hill).announceRanking_none (topTen s)).notify _

theorem cancelKeys_length_le (s u : State) : ((if s.stc.window.isSome then [key .countdown] else []) ++
    (if asksReturn s then returnKeys s.gate else []) ++ (if s.stc.light = .dark then [] else [key .light]) ++
      key .rank :: changedLines (topTen s) (topTen u)).length ≤ 14 := by
  have hreturn := returnKeys_length_le s.gate
  have hlines := changedLines_length_le s (topTen u)
  have hcountdown : (if s.stc.window.isSome then [key .countdown] else []).length ≤ 1 := by split <;> simp
  have hasked : (if asksReturn s then returnKeys s.gate else []).length ≤ 1 := by
    split
    · exact hreturn
    · simp
  have hlight : (if s.stc.light = .dark then [] else [key .light]).length ≤ 1 := by split <;> simp
  simp only [List.length_append, List.length_cons]
  omega

/-- Settles O29: the records, what stops, and under the laws of the hill the gate and what is told. -/
theorem cancelRoundStepsBack : Obligations.CancelRoundStepsBack := by
  refine fun s tag hF => ⟨fun hopen => ?_, fun hopen => refuses_of_block hF rfl rfl (by simp [serveCancelRound, hopen])⟩
  refine Completes.of_block hF rfl rfl (by simp only [serveCancelRound, taken_hasOpenRound, hopen]; rfl)
    (cancelOpenRound_core _).1 (cancelOpenRound_only _) fun t ht => ?_
  obtain ⟨hcore, hsub⟩ := cancelOpenRound_core (taken 0x25 tag s)
  obtain ⟨hcst, hscr, hstc, hmeas, hwln, hgate⟩ := cancelOpenRound_blocks (taken 0x25 tag s)
  rw [taken_cst, ← ht.cst] at hcst
  rw [taken_cst, ← ht.scr, ← hcst] at hscr
  rw [stopped_stc, taken_stc, ← ht.stc] at hstc
  rw [stopped_meas, taken_meas, ← ht.meas] at hmeas
  rw [stopped_wln, taken_wln, ← ht.wln] at hwln
  rw [← ht.gate] at hgate
  have hlight : t.stc.light = .dark := by rw [hstc]; split; exacts [‹Light.dark = _›.symm, rfl]
  have hstc' : t.stc.heldArm = false ∧ t.stc.clearPending = false ∧ t.stc.windWaitSent = false ∧ t.stc.window = none
      ∧ t.stc.coach = none ∧ t.stc.countdown = if s.stc.window.isSome then none else s.stc.countdown := by
    rw [hstc]; split <;> exact ⟨rfl, rfl, rfl, rfl, rfl, rfl⟩
  obtain ⟨harm, hclear, hwait, hwindow, hcoach, hcountdown⟩ := hstc'
  refine ⟨by rw [hcst]; rfl, by rw [hcst]; rfl, ?_, by rw [hcst, cancelRecords_attempts], ?_, fun c hc => ?_, hscr, hlight, harm, hclear,
    hwait, fun hne => ?_, hwindow, fun h => ?_, hcoach, hmeas, hwln, ht.kept (LinkKept.of_core hcore),
    by rw [ht.subjects, hsub, taken_brd], fun hill => ?_⟩
  · rw [hcst]
    exact ite_congr (by rw [Nat.sub_eq_zero_iff_le]) (fun _ => rfl) fun _ => rfl
  · rw [hcst]; simp [cancelRecords]
  · rw [hcst]; exact cancelRecords_directory hc
  · rw [hstc, if_neg (Ne.symm hne)]; exact ⟨rfl, rfl⟩
  · rw [hcountdown]
    rcases h with h | h
    · exact if_pos h
    · simp [h]
  · have hv : HillLaws (taken 0x25 tag s) := hill.congr (by simp) (by simp) (by simp)
    have htells := cancelOpenRound_tells hv
    have hasks : asksReturn (taken 0x25 tag s) = asksReturn s := by simp [asksReturn]
    have htop : topTen t = topTen (cancelOpenRound (taken 0x25 tag s)) := topTen_congr (by rw [ht.cst]) (by rw [ht.scr])
    rw [← htop, hasks, taken_topTen, taken_stc, taken_gate, taken_cst, taken_diag] at htells
    obtain ⟨-, -, hboards, hsaid⟩ := told ht htells (by simp)
    refine ⟨?_, hboards, fun hroom => hsaid (Room.fits hroom (cancelKeys_length_le s t) (by simp))⟩
    rw [hgate, afterCancel_gate hv, hasks, taken_prof, taken_gate, requestReturn_gate]
    rfl

end Sys2Proof

/-! PROOFS. Arming, clearing, leaving and stopping (R42 to R55): the chain of each, then the commands. -/

namespace Sys2Proof

open Machine

variable {s v u t : State} {a : Attempt}

/-! ## Attempt records changed twice -/

theorem changed_changed {n : Nat} {f g : Attempt → Attempt} (hf : ∀ a, (f a).number = a.number) (c : Cst) :
    changed n g (changed n f c) = changed n (fun a => g (f a)) c := by
  unfold changed
  simp only [List.map_map, Cst.mk.injEq, true_and]
  refine List.map_congr_left fun a _ => ?_
  by_cases h : a.number = n <;> simp [h, hf]

/-! ## ARM NEXT (R42, R43) -/

/-- The records once the head of the list has been armed. -/
def armedCst (bib : Nat) (rest : List Nat) (s : State) : Cst :=
  { s.cst with startList := rest,
               attempts := s.cst.attempts ++ [newAttempt (s.cst.attempts.length + 1) s.cst.round bib (coachSteps s bib)] }

/-- STC once the head of the list has been armed, with the light as it was. -/
def armedStc (bib : Nat) (s : State) : Stc :=
  { s.stc with clearPending := false, windWaitSent := false,
               coach := if (coachSteps s bib).isSome then none else s.stc.coach }

/-- The arm's records, before the light and what is told. -/
def armed (bib : Nat) (rest : List Nat) (s : State) : State := (s.onCst fun _ => armedCst bib rest s).onStc fun _ => armedStc bib s

theorem armEffect_eq {bib : Nat} {rest : List Nat} (h : s.cst.startList = bib :: rest) : armEffect s =
    enqueueSubject .jumper (s.cst.attempts.length + 1)
      (notifyState (s.cst.attempts.length + 1) s.cst.round bib none .waiting (updateLight (armed bib rest s))) := by
  unfold armEffect
  rw [h]
  simp only [updateLight_cst, dropClear_cst, State.onStc_cst, State.onCst_cst]
  rfl

theorem onHill_armed (hclear : HillClear s) (bib : Nat) (rest : List Nat) :
    onHill? (armed bib rest s) = some (newAttempt (s.cst.attempts.length + 1) s.cst.round bib (coachSteps s bib)) := by
  have hnone : s.cst.attempts.find? (fun a => a.state.onHill) = none := hclear.none
  change (s.cst.attempts ++ [newAttempt (s.cst.attempts.length + 1) s.cst.round bib (coachSteps s bib)]).find? _ = _
  rw [List.find?_append, hnone]
  rfl

/-- An arm takes effect while the light is red (R40, R43). -/
structure Arms (bib : Nat) (rest : List Nat) (v u : State) : Prop where
  cst : u.cst = armedCst bib rest v
  stc : u.stc = lit .amber (armedStc bib v)
  only : OnlyChanges [.brd, .link, .cst, .stc, .diag] v u
  tells : Tells v [key .light, key .jumper] [.light .red .amber (some (v.cst.attempts.length + 1)),
    .stateChange (v.cst.attempts.length + 1) v.cst.round bib none .waiting] v.diag
    { v.brd.subjects with jumper := some (v.cst.attempts.length + 1) } u

theorem armEffect_arms {bib : Nat} {rest : List Nat} (hopen : v.cst.rstate = .opened) (hclear : HillClear v)
    (hlist : v.cst.startList = bib :: rest) (hred : v.stc.light = .red) : Arms bib rest v (armEffect v) := by
  have hill := onHill_armed hclear bib rest
  have hlight : (armed bib rest v).stc.light = .red := hred
  have hne : (armed bib rest v).stc.light ≠ .amber := by rw [hlight]; decide
  have hamber : lightFor (armed bib rest v) = .amber := by
    unfold lightFor
    rw [show (armed bib rest v).cst.rstate = .opened from hopen, hill]
    rfl
  have hchain := (((Tells.refl v).frame (u := armed bib rest v) rfl rfl rfl).setLight_change hne).notifyState
    (v.cst.attempts.length + 1) v.cst.round bib none .waiting |>.enqueueSubject .jumper (v.cst.attempts.length + 1)
  rw [hlight, hill] at hchain
  rw [armEffect_eq hlist, updateLight, hamber]
  refine ⟨by simp [armed], ?_, ⟨fun b hb => ?_, by simp [armed], by simp [armed]⟩, hchain⟩
  · rw [enqueueSubject_stc, notifyState_stc, setLight_stc, if_neg (Ne.symm hne)]
    rfl
  · cases b <;> simp [SameBlock, armed] at hb ⊢

section Ready

variable (hopen : s.cst.rstate = .opened) (hheld : s.stc.heldArm = false) (hclear : HillClear s) (hvalid : s.prof.valid = true)
  (hlist : s.cst.startList ≠ []) (hroom : s.cst.attempts.length < 400)

include hopen hheld hclear hvalid hlist hroom

theorem serveArmNext_at_rest (hgate : s.gate.state = .idle ∨ s.gate.state = .manual) : serveArmNext s = done (armEffect s) := by
  rcases hgate with h | h <;> simp [serveArmNext, hopen, hheld, hclear.none, hvalid, hlist, not_le.mpr hroom, h]

theorem serveArmNext_in_motion (hgate : s.gate.state.motion = true) :
    serveArmNext s = accepted (s.onStc fun c => { c with heldArm := true }) := by
  cases h : s.gate.state <;> rw [h] at hgate
  case movingUp | movingDown | settling | homing =>
    simp [serveArmNext, hopen, hheld, hclear.none, hvalid, hlist, not_le.mpr hroom, h]
  all_goals cases hgate

theorem serveArmNext_lost (hgate : s.gate.state = .unknown ∨ s.gate.state = .fault) : serveArmNext s = refuse .state s := by
  rcases hgate with h | h <;> simp [serveArmNext, hopen, hheld, hclear.none, hvalid, hlist, not_le.mpr hroom, h]

end Ready

/-- Settles O32: at rest, in motion, lost, and R42's table. -/
theorem armNextOpensAnAttempt : Obligations.ArmNextOpensAnAttempt := by
  refine ⟨fun s tag bib rest hF hopen hheld hclear hvalid hlist hroom hred => ?_, fun s tag hF =>
    ⟨fun h => ?_, fun hopen h => ?_, fun hopen hheld h => ?_, fun hopen hheld hclear h => ?_,
      fun hopen hheld hclear hvalid h => ?_, fun hopen hheld hclear hvalid hlist h => ?_⟩⟩
  · have hne : s.cst.startList ≠ [] := by rw [hlist]; exact List.cons_ne_nil _ _
    refine ⟨fun hgate => ?_, fun hgate => ?_, fun hgate => ?_⟩
    · have harms := armEffect_arms (v := taken 0x30 tag s) (bib := bib) (rest := rest) (by simpa using hopen)
        (hclear.congr (by simp)) (by simpa using hlist) (by simpa using hred)
      have hserve := serveArmNext_at_rest (s := taken 0x30 tag s) (by simpa using hopen) (by simpa using hheld)
        (hclear.congr (by simp)) (by simpa using hvalid) (by simpa using hne) (by simpa using hroom) (by simpa using hgate)
      refine Completes.of_block hF rfl rfl hserve harms.tells.core harms.only fun t ht => ?_
      obtain ⟨hlink, hsub, hboards, hsaid⟩ := told ht harms.tells (by simp)
      refine ⟨?_, ?_, by simpa using hsub, hlink, hboards, fun hfits => by simpa using hsaid (Room.fits hfits (by simp) (by simp))⟩
      · rw [ht.cst, harms.cst]; simp [armedCst]
      · rw [ht.stc, harms.stc]; simp [armedStc, lit]
    · have hserve := serveArmNext_in_motion (s := taken 0x30 tag s) (by simpa using hopen) (by simpa using hheld)
        (hclear.congr (by simp)) (by simpa using hvalid) (by simpa using hne) (by simpa using hroom) (by simpa using hgate)
      exact Completes.of_block hF rfl rfl hserve (by simp)
        ⟨fun b hb => by cases b <;> simp [SameBlock] at hb ⊢, by simp, by simp⟩
        fun t ht => ⟨by rw [ht.stc]; simp, ht.quiet (by simp) (by simp)⟩
    · exact refuses_of_block hF rfl rfl (serveArmNext_lost (by simpa using hopen) (by simpa using hheld)
        (hclear.congr (by simp)) (by simpa using hvalid) (by simpa using hne) (by simpa using hroom) (by simpa using hgate))
  · exact refuses_of_block hF rfl rfl (by simp [serveArmNext, h])
  · exact refuses_of_block hF rfl rfl (by simp [serveArmNext, hopen, h])
  · have hsome : (onHill? s).isSome = true := by
      cases hill : onHill? s with
      | none => exact absurd (HillClear.of_none hill) h
      | some a => rfl
    exact refuses_of_block hF rfl rfl (by simp [serveArmNext, hopen, hheld, hsome])
  · exact refuses_of_block hF rfl rfl (by simp [serveArmNext, hopen, hheld, hclear.none, h])
  · exact refuses_of_block hF rfl rfl (by simp [serveArmNext, hopen, hheld, hclear.none, hvalid, h])
  · exact refuses_of_block hF rfl rfl (by simp [serveArmNext, hopen, hheld, hclear.none, hvalid, hlist, h])

/-! ## STOP and the return of the gate (R55, R69) -/

theorem stopEvent_of_clear (h : HillClear s) (cause : DropCause) : stopEvent cause s = dropHeldArm cause s := by
  simp only [stopEvent, h.none]

theorem stopEvent_of_moving (ha : onHill? s = some a) (h : a.state = .inRun ∨ a.state = .flight) (cause : DropCause) :
    stopEvent cause s = setAttempt a.number (fun r => { r with juryStopped := true }) s := by
  rcases h with h | h <;> simp [stopEvent, ha, h]

theorem stopEvent_at_bar (ha : onHill? s = some a) (h : a.state = .waiting ∨ a.state = .cleared) (cause : DropCause) :
    stopEvent cause s = voidAttempt a s := by
  rcases h with h | h <;> simp [stopEvent, ha, h]

theorem requestReturn_of_lost (h : s.gate.state = .unknown ∨ s.gate.state = .fault ∨ s.gate.state = .homing) :
    requestReturn s = s := by
  rcases h with h | h | h <;> simp [requestReturn, h]

theorem requestReturn_at_jury {c : Nat} (hstate : s.gate.state = .idle ∨ s.gate.state = .manual) (hc : s.gate.current = some c)
    (hj : s.gate.jury = some c) : requestReturn s = s := by
  rcases hstate with h | h <;> simp [requestReturn, returnInIdle, h, hc, hj]

theorem returned_of_idle {h : HillSection} {g : Gate} {c j : Nat} (hstate : g.state = .idle) (hc : g.current = some c)
    (hj : g.jury = some j) (hne : c ≠ j) : returned h g =
      { g with state := (travel c j).1, target := some j, kind := some .ret, lastDir := some (travel c j).2, corrected := false,
               stepTimer := some h.gateStep } := by
  simp [returned, hstate, hc, hj, hne]

theorem returned_of_manual {h : HillSection} {g : Gate} {c j : Nat} (hstate : g.state = .manual) (hc : g.current = some c)
    (hj : g.jury = some j) (hne : c ≠ j) : returned h g = { g with current := some j } := by
  simp [returned, hstate, hc, hj, hne]

theorem returned_in_motion {h : HillSection} {g : Gate}
    (hstate : g.state = .movingUp ∨ g.state = .movingDown ∨ g.state = .settling) :
    returned h g = { g with returnWaiting := true } := by
  rcases hstate with hs | hs | hs <;> simp [returned, hs]

/-- Settles O35: a stop by what is on the hill, and the return by the gate's state. -/
theorem stopVoidsAndTheGateReturns : Obligations.StopVoidsAndTheGateReturns := by
  refine ⟨fun s tag hF hill hlight => ⟨fun hclear hheld => ?_, fun hclear hheld => ?_, fun a ha hmoving => ?_, fun a ha hbar => ?_⟩,
    fun s h => requestReturn_of_lost h, fun s h => ?_, fun s c j hc hj => ⟨fun hstate hcj => ?_, fun hstate hlt => ?_,
      fun hstate hlt => ?_, fun hstate hcj => ?_, fun hstate hne => ?_⟩⟩
  · refine Completes.quiet hF rfl rfl (congrArg done ?_)
    rw [stopEvent_of_clear (hclear.congr (by simp)), dropHeldArm_of_empty (by simpa using hheld)]
  · have hchain := (Tells.refl (taken 0x33 tag s)).dropHeldArm .stop
    refine Completes.of_block hF rfl rfl (congrArg done (stopEvent_of_clear (hclear.congr (by simp)) .stop)) hchain.core
      ⟨fun b hb => by cases b <;> simp [SameBlock] at hb ⊢, by simp, by simp⟩ fun t ht => ?_
    obtain ⟨hlink, -, hboards, hsaid⟩ := told ht hchain (by simp)
    exact ⟨by rw [ht.stc]; simp, hlink, hboards, by simpa [hheld] using (hsaid (.inl rfl)).2⟩
  · have hav : onHill? (taken 0x33 tag s) = some a := by simpa using ha
    exact Completes.of_block hF rfl rfl (congrArg done (stopEvent_of_moving hav hmoving .stop)) (by simp)
      ⟨fun b hb => by cases b <;> simp [SameBlock] at hb ⊢, by simp, by simp⟩
      fun t ht => ⟨by rw [ht.cst]; simp, ht.quiet (by simp) (by simp)⟩
  · have hv : HillLaws (taken 0x33 tag s) := hill.congr (by simp) (by simp) (by simp)
    have hav : onHill? (taken 0x33 tag s) = some a := by simpa using ha
    have hvoid := voidAttempt_atBar hv (hlight.congr (by simp) (by simp)) hav hbar
    rw [(hill.1.round_of_onHill ha).2]
    exact Completes.of_block hF rfl rfl (congrArg done (stopEvent_at_bar hav hbar .stop)) hvoid.tells.core hvoid.only
      fun t ht => .of_barVoided ht (.taken _ _ _) hvoid hill ha
  · rw [requestReturn_gate, returned_in_motion h]
  · exact requestReturn_at_jury (.inl hstate) hc (hcj ▸ hj)
  · rw [requestReturn_gate, returned_of_idle hstate hc hj (by omega)]
    simp [travel, hlt]
  · rw [requestReturn_gate, returned_of_idle hstate hc hj (by omega)]
    simp [travel, not_lt.mpr hlt.le]
  · exact requestReturn_at_jury (.inr hstate) hc (hcj ▸ hj)
  · rw [requestReturn_gate, returned_of_manual hstate hc hj hne]

end Sys2Proof

/-! PROOFS. The lines (R12 to R15): the levels written and driven, and the debounced lines with the stop that one of them raises. -/

namespace Sys2Proof

open Machine

variable {s v u t : State} {a : Attempt}

/-! ## The written levels (R15) -/

theorem getLsbD_one_shift {i m : Nat} (hi : i < 16) : (1#16 <<< i).getLsbD m = decide (m = i) := by
  rw [BitVec.getLsbD_shiftLeft]
  by_cases hm : m = i
  · simp [hm, hi]
  · by_cases hlt : m < i
    · simp [hlt, hm]
    · have hpos : 0 < m - i := by omega
      simp [hm, show m - i ≠ 0 by omega]

theorem getLsbD_setLevel (w : BitVec 16) {i : Nat} (hi : i < 16) (level : Bool) (m : Nat) :
    (setLevel w i level).getLsbD m = if m = i then level else w.getLsbD m := by
  have hbit := getLsbD_one_shift (m := m) hi
  by_cases hm : m = i
  · subst hm
    cases level <;> simp [setLevel, hi]
  · rw [if_neg hm]
    rw [decide_eq_false hm] at hbit
    cases level with
    | true => simp only [setLevel, if_true, BitVec.getLsbD_or, hbit, Bool.or_false]
    | false =>
      simp only [setLevel, Bool.false_eq_true, if_false, BitVec.getLsbD_and, BitVec.getLsbD_not, hbit, Bool.not_false, Bool.and_true]
      by_cases hw : m < 16
      · simp [hw]
      · simp [BitVec.getLsbD_of_ge _ _ (not_lt.mp hw)]

theorem writeLine_completes (hF : Free s) (tag : Byte) {line level : Nat} (hline : line ≤ 15) (hlevel : level ≤ 1)
    (hfn : (s.prof.profile.lines[line]?).map Assignment.fn = some .generalOut) :
    Completes (.writeLine tag line level) .done .none [.fld] s fun t =>
      t.fld = { s.fld with written := t.fld.written } ∧ t.fld.written.getLsbD line = (level == 1)
        ∧ (∀ n, n ≠ line → t.fld.written.getLsbD n = s.fld.written.getLsbD n) ∧ Quiet s t := by
  refine Completes.of_block hF rfl rfl
    (u := (taken 0x16 tag s).onFld fun f => { f with written := setLevel f.written line (level == 1) }) ?_ (by simp)
    ⟨fun b hb => by cases b <;> simp [SameBlock] at hb ⊢, by simp, by simp⟩ fun t ht => ?_
  · simp only [serveWriteLine, taken_prof, hfn, if_neg (show ¬(15 < line ∨ 1 < level) by omega)]
    rfl
  · rw [ht.fld, State.onFld_fld, taken_fld]
    exact ⟨rfl, (getLsbD_setLevel _ (by omega) _ _).trans (if_pos rfl),
      fun n hn => (getLsbD_setLevel _ (by omega) _ _).trans (if_neg hn), ht.quiet (by simp) (by simp)⟩

/-! ## The debounced lines (R13) -/

theorem lineEdge_of_line {l : DebouncedLine} (h : hasLine s (lineFunction l) = true) (level : Bool) : lineEdge l level s =
    (setOutside (lineOf s (lineFunction l)) level s).onFld fun f =>
      f.withDebounce l (debounceEdge s.prof.profile.hill.leaveDebounce s.link.clock level (debounce l f)) := if_pos h

@[simp] theorem setOutside_leave (i : Option Nat) (level : Bool) (s : State) : (setOutside i level s).fld.leave = s.fld.leave := by
  cases i <;> rfl

@[simp] theorem setOutside_stop (i : Option Nat) (level : Bool) (s : State) : (setOutside i level s).fld.stop = s.fld.stop := by
  cases i <;> rfl

@[simp] theorem setOutside_written (i : Option Nat) (level : Bool) (s : State) :
    (setOutside i level s).fld.written = s.fld.written := by
  cases i <;> rfl

/-- A change of a debounced line's sensed level (R13). -/
theorem debounceEdge_happens {l : DebouncedLine} (hline : (lineOf s (lineFunction l)).isSome = true) (level : Bool)
    {P : State → Prop}
    (hP : ∀ t, t.fld = (setOutside (lineOf s (lineFunction l)) level s).fld.withDebounce l
      (debounceEdge s.prof.profile.hill.leaveDebounce s.link.clock level (debounce l s.fld)) → Quiet s t → P t) :
    Happens (.debounceEdge l level) [.fld] s P := by
  have hedge := lineEdge_of_line (s := startTx s) (l := l) (by simpa [hasLine] using hline) level
  refine Happens.of_block rfl hedge ⟨fun b hb => by cases b <;> simp [SameBlock] at hb ⊢, by simp, by simp⟩
    fun t ht => hP t ?_ (ht.quiet (by simp) (by simp))
  obtain ⟨n, hn⟩ := Option.isSome_iff_exists.mp hline
  rw [ht.fld]
  cases l <;> simp [hn, setOutside, debounce]

/-- The debounce of a line after its timer has ended. -/
def settledAt (d : Debounce) : Debounce := { level := !d.level, timer := none, stamp := none }

theorem debounceExpired_eq {l : DebouncedLine} {k : Nat} (h : (debounce l s.fld).timer = some k) : debounceExpired l s =
    debounced l (!(debounce l s.fld).level) ((debounce l s.fld).stamp.getD s.link.clock)
      (s.onFld fun f => f.withDebounce l (settledAt (debounce l s.fld))) := by
  unfold debounceExpired
  rw [if_pos (by rw [h]; rfl)]
  rfl

/-- A debounce timer ends at the level that is inactive: nothing but the level is new. -/
theorem debounceExpiry_quiet {l : DebouncedLine} {k : Nat} (h : (debounce l s.fld).timer = some k)
    (hinactive : ∀ stamp u, debounced l (!(debounce l s.fld).level) stamp u = u) {P : State → Prop}
    (hP : ∀ t, t.fld = s.fld.withDebounce l (settledAt (debounce l s.fld)) → Quiet s t → P t) :
    Happens (.debounceExpiry l) [.fld] s P := by
  refine Happens.of_block rfl ((debounceExpired_eq (s := startTx s) (by simpa using h)).trans
      (by simpa using hinactive _ _)) ⟨fun b hb => by cases b <;> simp [SameBlock] at hb ⊢, by simp, by simp⟩
    fun t ht => hP t (by rw [ht.fld]; simp) (ht.quiet (by simp) (by simp))

/-! ## The debounced JURY_STOP (R55) -/

/-- The level of JURY_STOP has gone low, and the stop event is still to come. -/
def stopTaken (s : State) : State := s.onFld fun f => { f with stop := { level := false, timer := none, stamp := none } }

theorem stopExpiry_effect {k : Nat} (hlevel : s.fld.stop.level = true) (htimer : s.fld.stop.timer = some k) :
    debounceExpired .juryStop (startTx s) = stopEvent .juryStop (stopTaken (startTx s)) := by
  rw [debounceExpired_eq (k := k) (show (debounce .juryStop (startTx s).fld).timer = some k by simpa [debounce] using htimer)]
  have hdown : (!(debounce .juryStop (startTx s).fld).level) = false := by simp [debounce, hlevel]
  rw [hdown]
  simp [debounced, settledAt, debounce, hlevel, stopTaken, Fld.withDebounce]

theorem stopTaken_only (s : State) : OnlyChanges [.brd, .link, .fld] s (stopTaken s) :=
  ⟨fun b hb => by cases b <;> simp [SameBlock, stopTaken] at hb ⊢, rfl, rfl⟩

section Expiry

variable {k : Nat} (hlevel : s.fld.stop.level = true) (htimer : s.fld.stop.timer = some k)

include hlevel htimer

theorem stopExpiry_quiet (hclear : HillClear s) (hheld : s.stc.heldArm = false) :
    Happens (.debounceExpiry .juryStop) [.fld] s fun t =>
      t.fld = { s.fld with stop := { level := false, timer := none, stamp := none } } ∧ Quiet s t := by
  have heffect : debounceExpired .juryStop (startTx s) = stopTaken (startTx s) := by
    rw [stopExpiry_effect hlevel htimer, stopEvent_of_clear (hclear.congr (by simp [stopTaken])),
      dropHeldArm_of_empty (by simpa [stopTaken] using hheld)]
  exact Happens.of_block rfl heffect (stopTaken_only _)
    fun t ht => ⟨by rw [ht.fld]; simp [stopTaken], ht.quiet rfl (by simp [stopTaken])⟩

theorem stopExpiry_drops (hclear : HillClear s) (hheld : s.stc.heldArm = true) :
    Happens (.debounceExpiry .juryStop) [.fld, .stc] s fun t =>
      t.fld = { s.fld with stop := { level := false, timer := none, stamp := none } }
        ∧ t.stc = { s.stc with heldArm := false } ∧ LinkKept s t ∧ Boards [] s t ∧ Sends [.armDropped .juryStop] s t := by
  have heffect := (stopExpiry_effect hlevel htimer).trans
    (stopEvent_of_clear (s := stopTaken (startTx s)) (hclear.congr (by simp [stopTaken])) .juryStop)
  have hchain := ((Tells.refl (startTx s)).frame (u := stopTaken (startTx s)) rfl rfl rfl).dropHeldArm .juryStop
  refine Happens.of_block rfl heffect ⟨fun b hb => by cases b <;> simp [SameBlock, stopTaken] at hb ⊢, by simp [stopTaken],
    by simp [stopTaken]⟩ fun t ht => ?_
  obtain ⟨hlink, -, hboards, hsaid⟩ := told ht hchain (by simp)
  exact ⟨by rw [ht.fld]; simp [stopTaken], by rw [ht.stc]; simp [stopTaken], hlink, hboards,
    by simpa [stopTaken, hheld] using (hsaid (.inl rfl)).2⟩

theorem stopExpiry_marks (ha : onHill? s = some a) (hmoving : a.state = .inRun ∨ a.state = .flight) :
    Happens (.debounceExpiry .juryStop) [.fld, .cst] s fun t =>
      t.fld = { s.fld with stop := { level := false, timer := none, stamp := none } }
        ∧ t.cst = changed a.number (fun r => { r with juryStopped := true }) s.cst ∧ Quiet s t := by
  have hav : onHill? (stopTaken (startTx s)) = some a := by
    rw [onHill_congr (s := s) (by simp [stopTaken])]; exact ha
  have heffect := (stopExpiry_effect hlevel htimer).trans (stopEvent_of_moving hav hmoving .juryStop)
  exact Happens.of_block rfl heffect ⟨fun b hb => by cases b <;> simp [SameBlock, stopTaken] at hb ⊢, by simp [stopTaken],
    by simp [stopTaken]⟩ fun t ht => ⟨by rw [ht.fld]; simp [stopTaken], by rw [ht.cst]; simp [stopTaken],
      ht.quiet (by simp [stopTaken]) (by simp [stopTaken])⟩

theorem stopExpiry_voids (hill : HillLaws s) (hlight : LightOk s) (ha : onHill? s = some a)
    (hbar : a.state = .waiting ∨ a.state = .cleared) :
    Happens (.debounceExpiry .juryStop) [.fld, .cst, .stc, .gate, .diag] s fun t =>
      t.fld = { s.fld with stop := { level := false, timer := none, stamp := none } } ∧ VoidedAtBar a s.cst.rstate s t := by
  have hgiven : Given s (stopTaken (startTx s)) := (Given.startTx s).onFld _
  have hav : onHill? (stopTaken (startTx s)) = some a := by rw [onHill_congr (s := s) (by rw [hgiven.cst])]; exact ha
  have hvoid := voidAttempt_atBar (hill.congr hgiven.cst hgiven.stc hgiven.gate) (hlight.congr hgiven.cst hgiven.stc) hav hbar
  have heffect := (stopExpiry_effect hlevel htimer).trans (stopEvent_at_bar hav hbar .juryStop)
  have hfld : (voidAttempt a (stopTaken (startTx s))).fld = (stopTaken (startTx s)).fld := (hvoid.only.1 .fld (by simp))
  rw [(hill.1.round_of_onHill ha).2]
  refine Happens.of_block rfl heffect (((stopTaken_only _).mono (by simp)).trans (hvoid.only.mono (by simp))) fun t ht => ⟨?_, ?_⟩
  · rw [ht.fld, hfld]; simp [stopTaken]
  · exact .of_barVoided (ht.of_link (w := stopTaken (startTx s)) rfl) hgiven hvoid hill ha

end Expiry

/-- Settles O26: the written and the driven levels, the edges and the ends of the two debounced lines, and the stop. -/
theorem linesAreWrittenDrivenAndDebounced : Obligations.LinesAreWrittenDrivenAndDebounced := by
  refine ⟨fun s tag line level hF => ⟨fun hline hlevel hfn => ?_, fun hbad => ?_, fun hline hlevel hfn => ?_⟩, fun s n a ha => ?_,
    fun s n hn => ⟨fun hlevel htimer => ?_, fun k hlevel htimer => ?_, fun k hlevel htimer => ?_, fun k hlevel htimer => ?_⟩,
    fun s n hn => ⟨fun hlevel htimer => ?_, fun k hlevel htimer => ?_, fun k hlevel htimer => ?_⟩,
    fun s k hlevel htimer hill hlight => ⟨stopExpiry_quiet hlevel htimer, stopExpiry_drops hlevel htimer,
      fun a => stopExpiry_marks hlevel htimer, fun a => stopExpiry_voids hlevel htimer hill hlight⟩⟩
  · exact writeLine_completes hF tag hline hlevel hfn
  · exact refuses_of_block hF rfl rfl (if_pos hbad)
  · exact refuses_of_block hF rfl rfl
      (by simp only [serveWriteLine, taken_prof, if_neg (show ¬(15 < line ∨ 1 < level) by omega), if_neg hfn])
  · refine ⟨fun hmode => by simp [drivenLevel, ha, hmode], fun hfn hmode => by simp [drivenLevel, ha, hmode, hfn],
      fun hfn hmode => by simp [drivenLevel, ha, hmode, hfn], fun hfn hmode => ?_, by simp [outputActive], by simp [outputActive],
      by simp [outputActive], by simp [outputActive], by simp [outputActive], ?_, by simp [outputActive, Option.isSome_iff_ne_none],
      by simp [outputActive]⟩
    · cases hm : a.mode with
      | input => exact absurd hm hmode
      | pushPull => simp [drivenLevel, ha, hm, hfn]
      | openDrain => simp [drivenLevel, ha, hm, hfn]
    · cases hg : s.gate.state <;> simp [outputActive, hg]
  · refine debounceEdge_happens (l := .leave) (by simp [lineFunction, hn]) true fun t ht hquiet => ?_
    rw [ht]
    exact ⟨by simp [Fld.withDebounce, debounceEdge, debounce, hlevel, htimer], by simp [Fld.withDebounce],
      by simp [Fld.withDebounce], hquiet⟩
  · refine debounceEdge_happens (l := .leave) (by simp [lineFunction, hn]) true fun t ht hquiet => ?_
    rw [ht]
    exact ⟨by simp [Fld.withDebounce, debounceEdge, debounce, hlevel, htimer],
      by simp [Fld.withDebounce], hquiet⟩
  · refine debounceEdge_happens (l := .leave) (by simp [lineFunction, hn]) false fun t ht hquiet => ?_
    rw [ht]
    exact ⟨by simp [Fld.withDebounce, debounceEdge, debounce, hlevel],
      by simp [Fld.withDebounce], hquiet⟩
  · refine debounceExpiry_quiet (l := .leave) htimer (fun stamp u => by simp [debounce, hlevel, debounced]) fun t ht hquiet => ⟨?_, hquiet⟩
    rw [ht]
    simp [Fld.withDebounce, settledAt, debounce, hlevel]
  · refine debounceEdge_happens (l := .juryStop) (by simp [lineFunction, hn]) false fun t ht hquiet => ?_
    rw [ht]
    exact ⟨by simp [Fld.withDebounce, debounceEdge, debounce, hlevel, htimer],
      by simp [Fld.withDebounce], by simp [Fld.withDebounce], hquiet⟩
  · refine debounceEdge_happens (l := .juryStop) (by simp [lineFunction, hn]) true fun t ht hquiet => ?_
    rw [ht]
    exact ⟨by simp [Fld.withDebounce, debounceEdge, debounce, hlevel],
      by simp [Fld.withDebounce], hquiet⟩
  · refine debounceExpiry_quiet (l := .juryStop) htimer (fun stamp u => by simp [debounce, hlevel, debounced]) fun t ht hquiet => ⟨?_, hquiet⟩
    rw [ht]
    simp [Fld.withDebounce, settledAt, debounce, hlevel]

end Sys2Proof

/-! PROOFS. CLEAR and HOLD, and the green that a clear gives (R46 to R49). -/

namespace Sys2Proof

open Machine

variable {s v u t : State} {a : Attempt}

/-! ## Green (R49) -/

/-- The attempt's record with the gates and the time of its green. -/
def greened (clock : Nat) (g : Gate) (r : Attempt) : Attempt :=
  { r with state := .cleared, greenTime := some clock, attemptGate := g.current, juryGate := g.jury.orElse fun _ => g.current }

/-- The records, the gates and the start window, before the light and what is told. -/
def cleared (a : Attempt) (s : State) : State :=
  ((s.onGate gatesTaken).onCst (changed a.number (greened s.link.clock s.gate))).onStc (openStartWindow s.prof.profile.hill.startWindow)

/-- The light of a green (R50). -/
def greenLight (h : HillSection) : Light := if h.startWindow ≤ h.warning ∧ 0 < h.warning then .greenWarn else .green

theorem setAttempt_onCst_changed {n : Nat} {f g : Attempt → Attempt} (hf : ∀ r, (f r).number = r.number) (s : State) :
    setAttempt n g (s.onCst (changed n f)) = s.onCst (changed n fun r => g (f r)) :=
  congrArg (fun c => { s with cst := c }) (changed_changed hf s.cst)

/-- The attempt's record with the gates that GATE supplies (R49, R70). -/
def withGates (g : Gate) (r : Attempt) : Attempt := { r with attemptGate := g.current, juryGate := (gatesTaken g).jury }

theorem copyGates_eq (n : Nat) (s : State) : copyGates n s = (s.onGate gatesTaken).onCst (changed n (withGates s.gate)) := rfl

theorem giveGreen_eq (a : Attempt) (s : State) : giveGreen a s =
    notifyState a.number a.round a.bib (some a.state) .cleared
      (count .greenGiven (enqueue (key .countdown) (enqueue (key .gate) (updateLight (cleared a s))))) := by
  have hrecord : setAttempt a.number (fun r => { r with state := .cleared, greenTime := some s.link.clock }) (copyGates a.number s) =
      (s.onGate gatesTaken).onCst (changed a.number (greened s.link.clock s.gate)) := by
    rw [copyGates_eq]
    exact setAttempt_onCst_changed (f := withGates s.gate) (fun _ => rfl) _
  unfold cleared
  rw [← hrecord]
  rfl

theorem onHill_cleared (hok : HillOk s) (ha : onHill? s = some a) : onHill? (cleared a s) = some (greened s.link.clock s.gate a) :=
  hok.some_of_changed ha rfl rfl

theorem lightFor_cleared (hok : HillOk s) (ha : onHill? s = some a) : lightFor (cleared a s) = greenLight s.prof.profile.hill := by
  have hopen : (cleared a s).cst.rstate = .opened := (hok.round_of_onHill ha).2
  unfold lightFor
  rw [hopen, onHill_cleared hok ha]
  rfl

theorem overflows_congr (hdiag : u.diag = s.diag) (hstate : u.cst.rstate = s.cst.rstate) (k : CounterKind) :
    overflows k u = overflows k s := by
  unfold overflows; rw [hdiag, hstate]

theorem counted_congr (hdiag : u.diag = s.diag) (hstate : u.cst.rstate = s.cst.rstate) (k : CounterKind) :
    counted k u = counted k s := by
  unfold counted; rw [hdiag, hstate]

/-- Green has been given in AMBER. -/
structure GivesGreen (a : Attempt) (v u : State) : Prop where
  cst : u.cst = changed a.number (greened v.link.clock v.gate) v.cst
  gate : u.gate = gatesTaken v.gate
  stc : u.stc = lit (greenLight v.prof.profile.hill) (openStartWindow v.prof.profile.hill.startWindow v.stc)
  only : OnlyChanges [.brd, .link, .cst, .stc, .gate, .diag] v u
  tells : Tells v [key .light, key .gate, key .countdown] ([.light .amber (greenLight v.prof.profile.hill) (some a.number)] ++
      overflows .greenGiven v ++ [.stateChange a.number a.round a.bib (some a.state) .cleared])
    (counted .greenGiven v) v.brd.subjects u

theorem greenLight_ne_amber (h : HillSection) : Light.amber ≠ greenLight h := by
  unfold greenLight; split <;> decide

theorem giveGreen_gives (hok : HillOk v) (ha : onHill? v = some a) (hamber : v.stc.light = .amber) :
    GivesGreen a v (giveGreen a v) := by
  have hlight : (cleared a v).stc.light = .amber := hamber
  have hne : (cleared a v).stc.light ≠ greenLight v.prof.profile.hill := by rw [hlight]; exact greenLight_ne_amber _
  have hchain := (((Tells.refl v).frame (u := cleared a v) rfl rfl rfl).setLight_change hne).enqueue (key .gate)
    |>.enqueue (key .countdown) |>.count (by simp [cleared, changed]) .greenGiven
    |>.notifyState a.number a.round a.bib (some a.state) .cleared
  rw [hlight, onHill_cleared hok ha] at hchain
  rw [giveGreen_eq, updateLight, lightFor_cleared hok ha]
  refine ⟨by simp [cleared], by simp [cleared], ?_, ⟨fun b hb => ?_, by simp [cleared], by simp [cleared]⟩, hchain⟩
  · rw [notifyState_stc, count_stc, enqueue_stc, enqueue_stc, setLight_stc, if_neg (Ne.symm hne)]
    rfl
  · cases b <;> simp [SameBlock, cleared] at hb ⊢

/-! ## CLEAR and HOLD (R46, R47) -/

theorem windAllows_of_inside {w : Int} (h : freshGating s = some w) (hlo : s.prof.profile.hill.lo ≤ w)
    (hhi : w ≤ s.prof.profile.hill.hi) : windAllows s = true := by
  simp [windAllows, h, hlo, hhi]

theorem windAllows_of_outside (h : ∀ w, freshGating s = some w → w < s.prof.profile.hill.lo ∨ s.prof.profile.hill.hi < w) :
    windAllows s = false := by
  unfold windAllows
  cases hw : freshGating s with
  | none => rfl
  | some w =>
    have := h w hw
    simp
    omega

section Waiting

variable (hF : Free s) (tag : Byte) (ha : onHill? s = some a) (hwaiting : a.state = .waiting)

include hF ha hwaiting

/-- The clear is pending, and the wind is judged. -/
def pending (s : State) : State := s.onStc fun c => { c with clearPending := true, windWaitSent := false }

theorem clear_again (hpending : s.stc.clearPending = true) : Completes (.clear tag) .accepted .none [] s (Quiet s) :=
  Completes.quiet hF rfl rfl (by simp [serveClear, ha, hwaiting, hpending, accepted])

theorem clear_waits (hpending : s.stc.clearPending = false) (hwind : windAllows s = false) :
    Completes (.clear tag) .accepted .none [.stc] s fun t =>
      t.stc = { s.stc with clearPending := true, windWaitSent := false } ∧ Quiet s t := by
  have hserve : serveClear (taken 0x31 tag s) = accepted (pending (taken 0x31 tag s)) := by
    have hw : windAllows (pending (taken 0x31 tag s)) = false := (taken_windAllows s 0x31 tag).trans hwind
    simp only [serveClear, taken_onHill, ha, hwaiting, taken_stc, hpending]
    rw [if_neg (by simp), if_neg (by simp)]
    exact if_neg (by rw [← Bool.not_eq_true] at hw; exact hw)
  exact Completes.of_block hF rfl rfl hserve (by simp [pending])
    ⟨fun b hb => by cases b <;> simp [SameBlock, pending] at hb ⊢, by simp [pending], by simp [pending]⟩
    fun t ht => ⟨by rw [ht.stc]; simp [pending], ht.quiet (by simp [pending]) (by simp [pending])⟩

theorem hold_completes : Completes (.hold tag) .done .none [.stc] s fun t =>
    t.stc = { s.stc with clearPending := false, windWaitSent := false } ∧ Quiet s t :=
  Completes.of_block hF rfl rfl (u := dropClear (taken 0x32 tag s)) (by simp [serveHold, ha, hwaiting, done]) (by simp)
    ⟨fun b hb => by cases b <;> simp [SameBlock] at hb ⊢, by simp, by simp⟩
    fun t ht => ⟨by rw [ht.stc]; simp, ht.quiet (by simp) (by simp)⟩

theorem clear_greens (hill : HillLaws s) (hamber : s.stc.light = .amber) (hpending : s.stc.clearPending = false)
    (hwind : windAllows s = true) : Completes (.clear tag) .done .none [.cst, .stc, .gate, .diag] s fun t =>
      t.cst = changed a.number (greened s.link.clock s.gate) s.cst ∧ t.gate = gatesTaken s.gate
        ∧ t.stc = lit (greenLight s.prof.profile.hill)
            (openStartWindow s.prof.profile.hill.startWindow { s.stc with windWaitSent := false })
        ∧ LinkKept s t ∧ t.brd.subjects = s.brd.subjects ∧ Boards [key .light, key .gate, key .countdown] s t
        ∧ (Room 3 s → t.diag = counted .greenGiven s ∧ Sends ([.light .amber (greenLight s.prof.profile.hill) (some a.number)] ++
            overflows .greenGiven s ++ [.stateChange a.number a.round a.bib (some .waiting) .cleared]) s t) := by
  have hserve : serveClear (taken 0x31 tag s) = done (giveGreen a (pending (taken 0x31 tag s))) := by
    have hw : windAllows (pending (taken 0x31 tag s)) = true := (taken_windAllows s 0x31 tag).trans hwind
    simp only [serveClear, taken_onHill, ha, hwaiting, taken_stc, hpending]
    rw [if_neg (by simp), if_neg (by simp)]
    exact if_pos hw
  have hill' : HillOk (pending (taken 0x31 tag s)) := by
    have h := hill.1
    unfold HillOk HillClear at h ⊢
    simpa [pending] using h
  have hgreen := giveGreen_gives (v := pending (taken 0x31 tag s)) hill' (by rw [onHill_congr (s := s) (by simp [pending])]; exact ha)
    (by simpa [pending] using hamber)
  have hprof : (pending (taken 0x31 tag s)).prof = s.prof := by simp [pending]
  have hover : overflows .greenGiven (pending (taken 0x31 tag s)) = overflows .greenGiven s :=
    overflows_congr (by simp [pending]) (by simp [pending]) _
  have hcount : counted .greenGiven (pending (taken 0x31 tag s)) = counted .greenGiven s :=
    counted_congr (by simp [pending]) (by simp [pending]) _
  refine Completes.of_block hF rfl rfl hserve (hgreen.tells.core.trans (by simp [pending]))
    (OnlyChanges.trans (u := pending (taken 0x31 tag s)) ?_ hgreen.only) fun t ht => ?_
  · exact ⟨fun b hb => by cases b <;> simp [SameBlock, pending] at hb ⊢, rfl, rfl⟩
  · obtain ⟨hlink, hsub, hboards, hsaid⟩ := told (ht.of_link (w := pending (taken 0x31 tag s)) rfl) hgreen.tells (by simp [pending])
    refine ⟨?_, ?_, ?_, hlink, by simpa [pending] using hsub, hboards, fun hroom => ?_⟩
    · rw [ht.cst, hgreen.cst]
      simp [pending]
    · rw [ht.gate, hgreen.gate]; simp [pending]
    · rw [ht.stc, hgreen.stc, hprof]
      simp [pending, openStartWindow]
    · have h := hsaid (Room.fits hroom (by simp) (by simp [pending]))
      rwa [hover, hcount, hprof, hwaiting] at h

end Waiting

/-- Settles O33: the clear by the wind, the hold, and both where nobody waits. -/
theorem clearGivesGreenOrWaits : Obligations.ClearGivesGreenOrWaits := by
  refine ⟨fun s tag a hF hill ha hwaiting hamber => ⟨clear_again hF tag ha hwaiting, fun hpending =>
    ⟨fun hout => clear_waits hF tag ha hwaiting hpending (windAllows_of_outside hout), fun w light hw hlo hhi hlight => ?_⟩,
    hold_completes hF tag ha hwaiting⟩, fun s tag hF hnobody => ⟨?_, ?_⟩⟩
  · subst hlight
    exact clear_greens hF tag ha hwaiting hill hamber hpending (windAllows_of_inside hw hlo hhi)
  · refine refuses_of_block hF rfl rfl ?_
    cases ha : onHill? s with
    | none => simp [serveClear, ha]
    | some a => simp [serveClear, ha, hnobody a ha]
  · refine refuses_of_block hF rfl rfl ?_
    cases ha : onHill? s with
    | none => simp [serveHold, ha]
    | some a => simp [serveHold, ha, hnobody a ha]

end Sys2Proof

/-! PROOFS. A leave from the bar, early or not, by the line or by hand, and a stray one (R52, R54). -/

namespace Sys2Proof

open Machine

variable {s v u t x : State} {a : Attempt} {n : Nat} {f : Attempt → Attempt}

/-! ## What STC hands to WLN and MEAS (R99, R106, R115) -/

/-- The attempt's record when its wind window opens. -/
def sampling (r : Attempt) : Attempt := { r with windStatus := some .sampling, samples := [], wind := none }

/-- MEAS from the leave of the attempt with a number on. -/
def watching (n : Nat) (s : State) : Meas :=
  if hasLine s .cellA ∧ hasLine s .cellB then
    { s.meas with markLimit := some (n, s.prof.profile.hill.markLimit), trap := .ready, trapAttempt := some n }
  else { s.meas with markLimit := some (n, s.prof.profile.hill.markLimit) }

theorem handLeave_eq (n : Nat) (s : State) : handLeave n s =
    ((s.onWln fun w => { w with window := some (n, true) }).onCst (changed n sampling)).onMeas fun _ => watching n s := by
  unfold watching
  by_cases h : hasLine s .cellA ∧ hasLine s .cellB
  · rw [if_pos h]
    exact if_pos h
  · rw [if_neg h]
    exact if_neg h

/-! ## The leave itself (R52) -/

/-- An attempt has left the bar: its record changed by `f`, STC and GATE as given, and one key before the light's. -/
structure HasLeft (a : Attempt) (f : Attempt → Attempt) (c : Stc) (g : Gate) (k : Key) (v u : State) : Prop where
  cst : u.cst = changed a.number f v.cst
  stc : u.stc = c
  gate : u.gate = g
  wln : u.wln = { v.wln with window := some (a.number, true) }
  meas : u.meas = watching a.number v
  only : OnlyChanges [.brd, .link, .cst, .stc, .gate, .wln, .meas, .diag] v u
  tells : Tells v [k, key .light] [.light v.stc.light .red (some a.number), .stateChange a.number a.round a.bib (some a.state) .inRun]
    v.diag v.brd.subjects u

/-- The last part of a leave, from the state that its first part leaves. -/
def launched (a : Attempt) (s : State) : State :=
  notifyState a.number a.round a.bib (some a.state) .inRun (handLeave a.number (updateLight s))

theorem watching_congr (hprof : u.prof = s.prof) (hmeas : u.meas = s.meas) (n : Nat) : watching n u = watching n s := by
  unfold watching hasLine lineOf; rw [hprof, hmeas]

/-- From the bar into the in-run, once the first part has changed the record by `f` and enqueued a key. -/
theorem launched_hasLeft {k : Key} (hok : HillOk v) (ha : onHill? v = some a) (hcst : x.cst = changed a.number f v.cst)
    (hnumber : ∀ r, (f r).number = r.number) (hstate : (f a).state = .inRun) (hlight : x.stc.light = v.stc.light)
    (hred : v.stc.light ≠ .red) (hwln : x.wln = v.wln) (hmeas : x.meas = v.meas) (hprof : x.prof = v.prof)
    (honly : OnlyChanges [.brd, .link, .cst, .stc, .gate, .diag] v x) (htells : Tells v [k] [] v.diag v.brd.subjects x) :
    HasLeft a (fun r => sampling (f r)) (lit .red x.stc) x.gate k v (launched a x) := by
  have hill : onHill? x = some (f a) := hok.some_of_changed ha (by rw [hstate]; rfl) (by rw [hcst])
  have hne : x.stc.light ≠ .red := by rw [hlight]; exact hred
  have hfor : lightFor x = .red := by
    have hopen : x.cst.rstate = .opened := by rw [hcst]; exact (hok.round_of_onHill ha).2
    unfold lightFor
    rw [hopen, hill]
    simp only [hstate]
  have hchain := ((htells.setLight_change hne).frame (u := handLeave a.number (setLight .red x)) (by rw [handLeave_eq]; rfl)
    (by rw [handLeave_eq]; rfl) (by rw [handLeave_eq]; rfl)).notifyState a.number a.round a.bib (some a.state) .inRun
  rw [hlight, hill, Option.map_some, hnumber] at hchain
  unfold launched
  rw [updateLight, hfor]
  refine ⟨?_, ?_, ?_, ?_, ?_, honly.mono (by simp) |>.trans ⟨fun b hb => ?_, ?_, ?_⟩, hchain⟩
  · rw [notifyState_cst, handLeave_eq, State.onMeas_cst, State.onCst_cst, State.onWln_cst, setLight_cst, hcst]
    exact changed_changed hnumber _
  · rw [notifyState_stc, handLeave_eq, State.onMeas_stc, State.onCst_stc, State.onWln_stc, setLight_stc, if_neg (Ne.symm hne)]
  · rw [notifyState_gate, handLeave_eq, State.onMeas_gate, State.onCst_gate, State.onWln_gate, setLight_gate]
  · rw [notifyState_wln, handLeave_eq, State.onMeas_wln, State.onCst_wln, State.onWln_wln, setLight_wln, hwln]
  · rw [notifyState_meas, handLeave_eq, State.onMeas_meas]
    exact watching_congr (by rw [setLight_prof, hprof]) (by rw [setLight_meas, hmeas]) _
  · cases b <;> simp [SameBlock, handLeave_eq] at hb ⊢
  · simp [handLeave_eq]
  · simp [handLeave_eq]

/-- The record of an attempt that leaves the bar. -/
def left (stamp : Nat) (manual : Bool) (r : Attempt) : Attempt :=
  { r with state := .inRun, leaveTime := some stamp, manualLeave := manual }

theorem leaveBar_of_cleared (hstate : a.state = .cleared) (stamp : Nat) (manual : Bool) (s : State) :
    leaveBar a stamp manual s = launched a (stopWindow (setAttempt a.number (left stamp manual) s)) :=
  congrArg (launched a) (if_neg (by rw [hstate]; decide))

theorem leaveBar_of_waiting (hstate : a.state = .waiting) (stamp : Nat) (manual : Bool) (s : State) :
    leaveBar a stamp manual s = launched a (leaveEarly a.number (setAttempt a.number (left stamp manual) s)) :=
  congrArg (launched a) (if_pos hstate)

/-- The record of an attempt that leaves the bar before its green. -/
def leftEarly (stamp : Nat) (manual : Bool) (g : Gate) (r : Attempt) : Attempt :=
  { left stamp manual r with earlyLeave := true, attemptGate := g.current, juryGate := (gatesTaken g).jury }

theorem leaveBar_cleared (hok : HillOk v) (ha : onHill? v = some a) (hstate : a.state = .cleared) (hred : v.stc.light ≠ .red)
    (hwindow : v.stc.window.isSome = true) (stamp : Nat) (manual : Bool) :
    HasLeft a (fun r => sampling (left stamp manual r)) (lit .red { v.stc with window := none, countdown := none }) v.gate
      (key .countdown) v (leaveBar a stamp manual v) := by
  have hstc : (stopWindow (setAttempt a.number (left stamp manual) v)).stc = { v.stc with window := none, countdown := none } := by
    rw [stopWindow_stc, setAttempt_stc, if_pos hwindow]
  have htells := ((Tells.refl v).onCst (changed a.number (left stamp manual))).stopWindow
  rw [State.onCst_stc, if_pos hwindow] at htells
  have h := launched_hasLeft (f := left stamp manual) (x := stopWindow (setAttempt a.number (left stamp manual) v)) hok ha (by simp) (fun _ => rfl) rfl
    (by rw [hstc]) hred (by simp) (by simp) (by simp) ⟨fun b hb => by cases b <;> simp [SameBlock] at hb ⊢, by simp, by simp⟩ htells
  rw [hstc] at h
  rw [leaveBar_of_cleared hstate]
  simpa using h

/-- The record, the clear and the gates of an early leave, before its key. -/
def earlyLeft (n stamp : Nat) (manual : Bool) (s : State) : State :=
  ((dropClear s).onGate gatesTaken).onCst (changed n (leftEarly stamp manual s.gate))

theorem leaveEarly_eq (n stamp : Nat) (manual : Bool) (s : State) :
    leaveEarly n (setAttempt n (left stamp manual) s) = enqueue (key .gate) (earlyLeft n stamp manual s) := by
  have hearly : setAttempt n (fun r => { r with earlyLeave := true }) (dropClear (setAttempt n (left stamp manual) s)) =
      (dropClear s).onCst (changed n fun r => { left stamp manual r with earlyLeave := true }) :=
    setAttempt_onCst_changed (f := left stamp manual) (fun _ => rfl) (dropClear s)
  have hgates : copyGates n ((dropClear s).onCst (changed n fun r => { left stamp manual r with earlyLeave := true })) =
      earlyLeft n stamp manual s :=
    setAttempt_onCst_changed (f := fun r => { left stamp manual r with earlyLeave := true }) (g := withGates s.gate) (fun _ => rfl)
      ((dropClear s).onGate gatesTaken)
  rw [leaveEarly, hearly, hgates]

theorem leaveBar_waiting (hok : HillOk v) (ha : onHill? v = some a) (hstate : a.state = .waiting) (hred : v.stc.light ≠ .red)
    (stamp : Nat) (manual : Bool) :
    HasLeft a (fun r => sampling (leftEarly stamp manual v.gate r))
      (lit .red { v.stc with clearPending := false, windWaitSent := false }) (gatesTaken v.gate) (key .gate) v
        (leaveBar a stamp manual v) := by
  have htells := ((Tells.refl v).frame (u := earlyLeft a.number stamp manual v) rfl rfl rfl).enqueue (key .gate)
  have h := launched_hasLeft (f := leftEarly stamp manual v.gate) (x := enqueue (key .gate) (earlyLeft a.number stamp manual v))
    hok ha (by simp [earlyLeft]) (fun _ => rfl) rfl (by simp [earlyLeft]) hred (by simp [earlyLeft]) (by simp [earlyLeft])
    (by simp [earlyLeft]) ⟨fun b hb => by cases b <;> simp [SameBlock, earlyLeft] at hb ⊢, by simp [earlyLeft], by simp [earlyLeft]⟩
    htells
  rw [leaveBar_of_waiting hstate, leaveEarly_eq]
  simpa [earlyLeft] using h

/-! ## The leave as the statements say it -/

section After

variable {c : Stc} {g : Gate} {k : Key} {stamp : Nat} {manual : Bool}

theorem LeftBar.of_hasLeft (ht : After s v u t) (hv : Given s v)
    (h : HasLeft a (fun r => sampling (left stamp manual r)) (lit .red { v.stc with window := none, countdown := none }) v.gate k v u) :
    LeftBar a.number stamp manual s t := by
  refine ⟨?_, ?_, by rw [ht.wln, h.wln, hv.wln], by rw [ht.meas, h.meas, watching_congr hv.prof hv.meas]; rfl⟩
  · rw [ht.cst, h.cst, hv.cst]; rfl
  · rw [ht.stc, h.stc, hv.stc]; rfl

theorem LeftEarly.of_hasLeft (ht : After s v u t) (hv : Given s v)
    (h : HasLeft a (fun r => sampling (leftEarly stamp manual v.gate r)) (lit .red { v.stc with clearPending := false, windWaitSent := false })
      (gatesTaken v.gate) k v u) : LeftEarly a.number stamp manual s t := by
  refine ⟨?_, by rw [ht.gate, h.gate, hv.gate], ?_, by rw [ht.wln, h.wln, hv.wln],
    by rw [ht.meas, h.meas, watching_congr hv.prof hv.meas]; rfl⟩
  · rw [ht.cst, h.cst, hv.cst, hv.gate]; rfl
  · rw [ht.stc, h.stc, hv.stc]; rfl

/-- What the keys and notices of a leave tell. -/
theorem HasLeft.told {f : Attempt → Attempt} (h : HasLeft a f c g k v u) (ht : After s v u t) (hv : Given s v) :
    LinkKept s t ∧ Boards [k, key .light] s t ∧ (Room 2 s → t.diag = s.diag ∧ Sends [.light s.stc.light .red (some a.number),
      .stateChange a.number a.round a.bib (some a.state) .inRun] s t) := by
  obtain ⟨hlink, -, hboards, hsaid⟩ := Machine.told ht h.tells hv.brd
  rw [hv.diag, hv.stc] at hsaid
  exact ⟨hlink, hboards, fun hroom => hsaid (Room.fits hroom (by simp) hv.brd)⟩

end After

/-! ## The commands -/

theorem serveMarkLeave_at_bar {kind tag : Byte} (hline : lineOf s .leave = none) (ha : onHill? s = some a)
    (hbar : a.state = .waiting ∨ a.state = .cleared) :
    serveMarkLeave (taken kind tag s) = done (leaveBar a s.link.clock true (taken kind tag s)) := by
  have hat : atBar? (taken kind tag s) = some a := atBar_of_onHill (by simpa using ha) hbar
  simp [serveMarkLeave, hasLine, hline, hat]

theorem serveMarkLeave_stray {kind tag : Byte} (hline : lineOf s .leave = none) (hbar : atBar? s = none) :
    serveMarkLeave (taken kind tag s) = { st := count .leaveStray (taken kind tag s), code := .state, data := .none } := by
  simp [serveMarkLeave, hasLine, hline, hbar]

/-- LEAVE's level has gone high, and the leave event is still to come. -/
def leaveTaken (s : State) : State := s.onFld fun f => { f with leave := { level := true, timer := none, stamp := none } }

theorem leaveExpiry_effect {k stamp : Nat} (h : s.fld.leave = { level := false, timer := some k, stamp := some stamp }) :
    debounceExpired .leave (startTx s) = leaveEvent stamp (leaveTaken (startTx s)) := by
  rw [debounceExpired_eq (k := k) (show (debounce .leave (startTx s).fld).timer = some k by simp [debounce, h])]
  simp [debounced, settledAt, debounce, h, leaveTaken, Fld.withDebounce]

theorem leaveTaken_only (s : State) : OnlyChanges [.brd, .link, .fld] s (leaveTaken s) :=
  ⟨fun b hb => by cases b <;> simp [SameBlock, leaveTaken] at hb ⊢, rfl, rfl⟩

theorem leaveTaken_given (s : State) : Given s (leaveTaken (startTx s)) := (Given.startTx s).onFld _

theorem leaveExpiry_leaves {k stamp : Nat} {f : Attempt → Attempt} {c : Stc} {g : Gate} {key : Key} {bs : List Block}
    {P : State → Prop} (hline : s.fld.leave = { level := false, timer := some k, stamp := some stamp }) (ha : onHill? s = some a)
    (hbar : a.state = .waiting ∨ a.state = .cleared)
    (hleft : HasLeft a f c g key (leaveTaken (startTx s)) (leaveBar a stamp false (leaveTaken (startTx s))))
    (honly : OnlyChanges (.brd :: .link :: bs) (leaveTaken (startTx s)) (leaveBar a stamp false (leaveTaken (startTx s))))
    (hbs : .fld ∈ bs)
    (hP : ∀ t, After s (leaveTaken (startTx s)) (leaveBar a stamp false (leaveTaken (startTx s))) t →
      t.fld = { s.fld with leave := { level := true, timer := none, stamp := none } } → P t) :
    Happens (.debounceExpiry .leave) bs s P := by
  have hat : atBar? (leaveTaken (startTx s)) = some a := atBar_of_onHill (by rw [(leaveTaken_given s).onHill]; exact ha) hbar
  have hevent : leaveEvent stamp (leaveTaken (startTx s)) = leaveBar a stamp false (leaveTaken (startTx s)) := by
    simp [leaveEvent, hat]
  have hfld : (leaveBar a stamp false (leaveTaken (startTx s))).fld = (leaveTaken (startTx s)).fld := hleft.only.1 .fld (by simp)
  refine Happens.of_block rfl ((leaveExpiry_effect hline).trans hevent)
    (((leaveTaken_only _).mono (by simp [hbs])).trans honly) fun t ht => hP t (ht.of_link rfl) ?_
  rw [ht.fld, hfld]
  simp [leaveTaken]

theorem HasLeft.only_of_gate {f : Attempt → Attempt} {c : Stc} {k : Key} (h : HasLeft a f c v.gate k v u) :
    OnlyChanges [.brd, .link, .cst, .stc, .wln, .meas, .diag] v u := by
  refine ⟨fun b hb => ?_, h.only.2⟩
  by_cases hgate : b = .gate
  · subst hgate
    exact h.gate
  · exact h.only.1 b (by simp at hb ⊢; tauto)

theorem atBar_of_moving (h : ∀ b, onHill? s = some b → b.state = .inRun ∨ b.state = .flight) : atBar? s = none := by
  unfold atBar?
  cases ha : onHill? s with
  | none => rfl
  | some a => rcases h a ha with hs | hs <;> simp [hs]

/-- A stray leave counts and nothing else. -/
theorem stray_told (ht : After s v (count .leaveStray v) t) (hv : Given s v) :
    t.diag = counted .leaveStray s ∧ LinkKept s t ∧ Boards [] s t ∧ t.brd.subjects = s.brd.subjects
      ∧ Sends (overflows .leaveStray s) s t := by
  have hchain := (Tells.refl v).count rfl .leaveStray
  obtain ⟨hlink, hsub, hboards, hsaid⟩ := told ht hchain hv.brd
  rw [hv.overflows, hv.counted] at hsaid
  obtain ⟨hdiag, hsends⟩ := hsaid (.inl rfl)
  exact ⟨hdiag, hlink, hboards, hsub.trans (by rw [hv.brd]), hsends⟩

/-- Settles O34: the leave from CLEARED and from WAITING, the stray one, and MARK LEAVE where LEAVE has a line. -/
theorem aLeaveBeginsTheInRun : Obligations.ALeaveBeginsTheInRun := by
  intro s tag a w hill
  have hv : Given s (taken 0x34 tag s) := .taken _ _ _
  have hl := leaveTaken_given s
  refine ⟨fun ha hstate hwindow hlight => ⟨fun hF hline => ?_, fun k stamp hleave => ?_⟩,
    fun ha hstate hamber => ⟨fun hF hline => ?_, fun k stamp hleave => ?_⟩,
    fun hmoving => ⟨fun hF hline => ?_, fun k stamp hleave => ?_⟩, fun hline hF => ?_⟩
  · have hred : s.stc.light ≠ .red := by rcases hlight with h | h <;> rw [h] <;> decide
    have h := leaveBar_cleared (v := taken 0x34 tag s) (hv.laws hill).1 (by rw [hv.onHill]; exact ha) hstate
      (by rw [hv.stc]; exact hred) (by rw [hv.stc, hwindow]; rfl) s.link.clock true
    refine Completes.of_block hF rfl rfl (serveMarkLeave_at_bar hline ha (.inr hstate)) h.tells.core h.only_of_gate fun t ht => ?_
    obtain ⟨hlink, hboards, hsaid⟩ := h.told ht hv
    exact ⟨.of_hasLeft ht hv h, hlink, hboards, by rwa [hstate] at hsaid⟩
  · have hred : s.stc.light ≠ .red := by rcases hlight with h | h <;> rw [h] <;> decide
    have h := leaveBar_cleared (v := leaveTaken (startTx s)) (hl.laws hill).1 (by rw [hl.onHill]; exact ha) hstate
      (by rw [hl.stc]; exact hred) (by rw [hl.stc, hwindow]; rfl) stamp false
    exact leaveExpiry_leaves hleave ha (.inr hstate) h (h.only_of_gate.mono (by simp)) (by simp)
      fun t ht hfld => ⟨.of_hasLeft ht hl h, (h.told ht hl).1, hfld⟩
  · have h := leaveBar_waiting (v := taken 0x34 tag s) (hv.laws hill).1 (by rw [hv.onHill]; exact ha) hstate
      (by rw [hv.stc, hamber]; decide) s.link.clock true
    refine Completes.of_block hF rfl rfl (serveMarkLeave_at_bar hline ha (.inl hstate)) h.tells.core h.only fun t ht => ?_
    obtain ⟨hlink, hboards, hsaid⟩ := h.told ht hv
    exact ⟨.of_hasLeft ht hv h, hlink, hboards, by rwa [hstate, hamber] at hsaid⟩
  · have h := leaveBar_waiting (v := leaveTaken (startTx s)) (hl.laws hill).1 (by rw [hl.onHill]; exact ha) hstate
      (by rw [hl.stc, hamber]; decide) stamp false
    exact leaveExpiry_leaves hleave ha (.inl hstate) h (h.only.mono (by simp)) (by simp)
      fun t ht hfld => ⟨.of_hasLeft ht hl h, (h.told ht hl).1, hfld⟩
  · exact Completes.of_block hF rfl rfl (serveMarkLeave_stray hline (atBar_of_moving hmoving)) (by simp)
      ⟨fun b hb => by cases b <;> simp [SameBlock] at hb ⊢, by simp, by simp⟩ fun t ht => stray_told ht hv
  · have hat : atBar? (leaveTaken (startTx s)) = none := atBar_of_moving (by rw [hl.onHill]; exact hmoving)
    have hevent : leaveEvent stamp (leaveTaken (startTx s)) = count .leaveStray (leaveTaken (startTx s)) := by
      simp [leaveEvent, hat]
    refine Happens.of_block rfl ((leaveExpiry_effect hleave).trans hevent)
      ⟨fun b hb => by cases b <;> simp [SameBlock, leaveTaken] at hb ⊢, by simp [leaveTaken], by simp [leaveTaken]⟩ fun t ht => ?_
    obtain ⟨hdiag, hlink, hboards, hsub, hsends⟩ := stray_told (ht.of_link (w := leaveTaken (startTx s)) rfl) hl
    exact ⟨hdiag, by rw [ht.fld]; simp [leaveTaken], hlink, hboards, hsub, hsends⟩
  · exact refuses_of_block hF rfl rfl (by simp [serveMarkLeave, hasLine, hline])

end Sys2Proof

/-! PROOFS. The start window: its timers, and its expiry, by which the attempt lapses (R41, R50, R51). -/

namespace Sys2Proof

open Machine

variable {s v u t : State} {a : Attempt}

/-! ## The timers of the light and of the countdown (R41, R50) -/

theorem flashTimerExpiry_happens {k : Nat} (h : s.stc.flashTimer = some k) : Happens .flashTimerExpiry [.stc] s fun t =>
    t.stc = { s.stc with flashOn := !s.stc.flashOn, flashTimer := some 250 } ∧ Quiet s t := by
  have heffect : flashExpired (startTx s) = (startTx s).onStc fun c => { c with flashOn := !c.flashOn, flashTimer := some 250 } :=
    if_pos (by rw [startTx_stc, h]; rfl)
  exact Happens.of_block rfl heffect ⟨fun b hb => by cases b <;> simp [SameBlock] at hb ⊢, by simp, by simp⟩
    fun t ht => ⟨by rw [ht.stc]; simp, ht.quiet (by simp) (by simp)⟩

/-- The remaining time is at most the warning period. -/
def warned (w : Nat) (s : State) : State :=
  s.onStc fun c => { c with window := some (min w s.prof.profile.hill.warning) }

theorem warningPeriodReached_happens {w : Nat} (hill : HillLaws s) (ha : onHill? s = some a) (hstate : a.state = .cleared)
    (hwindow : s.stc.window = some w) (hgreen : s.stc.light = .green) (hwarning : 0 < s.prof.profile.hill.warning) :
    Happens .warningPeriodReached [.stc, .diag] s fun t =>
      t.stc = { s.stc with window := some (min w s.prof.profile.hill.warning), light := .greenWarn, flashOn := true,
                           flashTimer := some 250 }
      ∧ LinkKept s t ∧ Boards [key .light] s t
      ∧ (Room 1 s → t.diag = s.diag ∧ Sends [.light .green .greenWarn (some a.number)] s t) := by
  have hlight : (warned w (startTx s)).stc.light = .green := by simpa [warned] using hgreen
  have hon : onHill? (warned w (startTx s)) = some a := by rw [onHill_congr (s := s) (by simp [warned])]; exact ha
  have hfor : lightFor (warned w (startTx s)) = .greenWarn := by
    unfold lightFor
    rw [hon]
    simp [warned, hstate, hwarning, (hill.1.round_of_onHill ha).2]
  have hne : (warned w (startTx s)).stc.light ≠ .greenWarn := by rw [hlight]; decide
  have heffect : warningReached (startTx s) = setLight .greenWarn (warned w (startTx s)) := by
    rw [← hfor]
    simp [warningReached, updateLight, warned, hwindow, hwarning]
  have hchain := ((Tells.refl (startTx s)).frame (u := warned w (startTx s)) rfl rfl rfl).setLight_change hne
  rw [hlight, hon] at hchain
  refine Happens.of_block rfl heffect
    ⟨fun b hb => by cases b <;> simp [SameBlock, warned] at hb ⊢, by simp [warned], by simp [warned]⟩ fun t ht => ?_
  obtain ⟨hlink, -, hboards, hsaid⟩ := told ht hchain (by simp)
  refine ⟨?_, hlink, hboards, fun hroom => by simpa using hsaid (Room.fits hroom (by simp) (by simp))⟩
  rw [ht.stc, setLight_stc, if_neg (Ne.symm hne)]
  simp [warned, lit]

theorem countdownSecondChange_happens {w n : Nat} (hwindow : s.stc.window = some w) (hcountdown : s.stc.countdown = some n)
    (hn : 1 < n) : Happens .countdownSecondChange [.stc, .diag] s fun t =>
      t.stc = { s.stc with window := some (min w ((n - 1) * 1000)), countdown := some (n - 1) }
      ∧ LinkKept s t ∧ Boards [key .countdown] s t ∧ (Room 1 s → t.diag = s.diag ∧ Sends [] s t) := by
  have heffect : countdownChanged (startTx s) = enqueue (key .countdown)
      ((startTx s).onStc fun c => { c with window := some (min w ((n - 1) * 1000)), countdown := some (n - 1) }) := by
    simp [countdownChanged, hwindow, hcountdown, hn]
  have hchain := ((Tells.refl (startTx s)).onStc
    fun c => { c with window := some (min w ((n - 1) * 1000)), countdown := some (n - 1) }).enqueue (key .countdown)
  refine Happens.of_block rfl heffect ⟨fun b hb => by cases b <;> simp [SameBlock] at hb ⊢, by simp, by simp⟩ fun t ht => ?_
  obtain ⟨hlink, -, hboards, hsaid⟩ := told ht hchain (by simp)
  exact ⟨by rw [ht.stc]; simp, hlink, hboards, fun hroom => by simpa using hsaid (Room.fits hroom (by simp) (by simp))⟩

/-! ## The lapse (R51) -/

/-- The attempt's record, the light and the window. -/
def lapsedAtBar (a : Attempt) (s : State) : State :=
  stopWindow (updateLight (setAttempt a.number (fun r => { r with state := .lapsed }) s))

/-- The disqualification of the lapse, on the board. -/
def lapsedRanked (a : Attempt) (s : State) : State :=
  reRankAfter a.bib (setCompetitor a.bib fun c => { c with disqualified := true }) (lapsedAtBar a s)

theorem lapse_eq (a : Attempt) (s : State) : lapse a s =
    coachReturn a (endCheck (notifyState a.number a.round a.bib (some a.state) .lapsed (count .attemptLapsed (lapsedRanked a s)))) :=
  rfl

/-- CST's records after a lapse, but for the round's end. -/
def lapsedCst (a : Attempt) (c : Cst) : Cst :=
  directoryWith a.bib (fun r => { r with disqualified := true }) (changed a.number (fun r => { r with state := .lapsed }) c)

theorem lapsedAtBar_cst (a : Attempt) (s : State) :
    (lapsedAtBar a s).cst = changed a.number (fun r => { r with state := .lapsed }) s.cst := by simp [lapsedAtBar]

theorem lapsedRanked_cst (a : Attempt) (s : State) : (lapsedRanked a s).cst = lapsedCst a s.cst := by
  rw [lapsedRanked, reRankAfter_cst, lapsedAtBar_cst]; rfl

theorem lapsedAtBar_only (a : Attempt) (s : State) : OnlyChanges [.brd, .link, .cst, .stc, .diag] s (lapsedAtBar a s) :=
  ⟨fun b hb => by cases b <;> simp [SameBlock, lapsedAtBar] at hb ⊢, by simp [lapsedAtBar], by simp [lapsedAtBar]⟩

theorem lapsedRanked_only (a : Attempt) (s : State) : OnlyChanges [.brd, .link, .cst, .stc, .scr, .diag] s (lapsedRanked a s) :=
  ((lapsedAtBar_only a s).mono (by simp)).trans (reRankAfter_only _ _ _ _ (by simp))

theorem topTen_lapsedAtBar (a : Attempt) (s : State) : topTen (lapsedAtBar a s) = topTen s :=
  topTen_congr (by rw [lapsedAtBar_cst]; rfl) (by simp [lapsedAtBar])

theorem topTen_lapse (a : Attempt) (s : State) : topTen (lapse a s) = topTen (lapsedRanked a s) := by
  rw [lapse_eq]
  exact topTen_congr (by simp) (by simp)

/-- A lapse in GREEN or GREEN_WARN. -/
structure Lapses (a : Attempt) (v u : State) : Prop where
  cst : u.cst = { lapsedCst a v.cst with rstate := endChecked (lapsedCst a v.cst) }
  scr : u.scr.ranking = reRanked u.cst.directory a.bib v.scr.ranking
  stc : u.stc = { v.stc with light := .red, flashOn := false, flashTimer := none, window := none, countdown := none }
  gate : u.gate = if a.coach.isSome then returned v.prof.profile.hill v.gate else v.gate
  only : OnlyChanges [.brd, .link, .cst, .stc, .gate, .scr, .diag] v u
  tells : Tells v ([key .light, key .countdown, key .rank] ++ changedLines (topTen v) (topTen u) ++ freedKeys a v)
    (.light v.stc.light .red none :: overflows .attemptLapsed v ++
      .stateChange a.number a.round a.bib (some a.state) .lapsed :: freedNotices a v)
    (counted .attemptLapsed v) { v.brd.subjects with rank := some a.bib } u

section Lapse

variable (hok : HillOk v) (ha : onHill? v = some a) (hwindow : v.stc.window.isSome = true) (hred : v.stc.light ≠ .red)

include hok ha in
theorem lapsedAtBar_eq : lapsedAtBar a v = stopWindow (setLight .red (setAttempt a.number (fun r => { r with state := .lapsed }) v)) ∧
    onHill? (setAttempt a.number (fun r => { r with state := .lapsed }) v) = none := by
  have hnone : onHill? (setAttempt a.number (fun r => { r with state := .lapsed }) v) = none :=
    hok.none_of_changed (f := fun r => { r with state := .lapsed }) ha rfl rfl
  have hfor : lightFor (setAttempt a.number (fun r => { r with state := .lapsed }) v) = .red := by
    rw [lightFor_of_none hnone, setAttempt_cst]
    simp [changed, (hok.round_of_onHill ha).2, restLight]
  exact ⟨by rw [lapsedAtBar, updateLight, hfor], hnone⟩

include hok ha hwindow hred

theorem lapsedAtBar_told : (lapsedAtBar a v).stc =
      { v.stc with light := .red, flashOn := false, flashTimer := none, window := none, countdown := none }
    ∧ Tells v [key .light, key .countdown] [.light v.stc.light .red none] v.diag v.brd.subjects (lapsedAtBar a v) := by
  obtain ⟨heq, hnone⟩ := lapsedAtBar_eq hok ha
  have hlit : (setLight .red (setAttempt a.number (fun r => { r with state := .lapsed }) v)).stc = lit .red v.stc := by
    rw [setLight_stc, setAttempt_stc, if_neg (Ne.symm hred)]
  have hwin : (setLight .red (setAttempt a.number (fun r => { r with state := .lapsed }) v)).stc.window.isSome = true := by
    rw [hlit]; exact hwindow
  have hchain := (((Tells.refl v).frame (u := setAttempt a.number (fun r => { r with state := .lapsed }) v) rfl rfl rfl).setLight_change
    (l := .red) hred).stopWindow
  rw [hnone, if_pos hwin] at hchain
  rw [heq]
  refine ⟨?_, hchain⟩
  rw [stopWindow_stc, if_pos hwin, hlit]
  rfl

theorem lapse_lapses : Lapses a v (lapse a v) := by
  have hon := (onHill_mem ha).2
  obtain ⟨hstc, hbar⟩ := lapsedAtBar_told hok ha hwindow hred
  have hgate : (lapsedRanked a v).gate = v.gate := (lapsedRanked_only a v).1 .gate (by simp)
  have hprof : (lapsedRanked a v).prof = v.prof := (lapsedRanked_only a v).1 .prof (by simp)
  have hcst := lapsedRanked_cst a v
  have hranked : Tells v ([key .light, key .countdown, key .rank] ++ changedLines (topTen v) (topTen (lapsedRanked a v)))
      [.light v.stc.light .red none] v.diag { v.brd.subjects with rank := some a.bib } (lapsedRanked a v) := by
    have h := hbar.reRankAfter a.bib fun c => { c with disqualified := true }
    rwa [topTen_lapsedAtBar] at h
  have hchain := ((hranked.count (by rw [hcst]; rfl) .attemptLapsed).notifyState a.number a.round a.bib (some a.state) .lapsed).frame
    (u := endCheck (notifyState a.number a.round a.bib (some a.state) .lapsed (count .attemptLapsed (lapsedRanked a v))))
      (by simp) (by simp [endCheck_eq]) (by simp) |>.coachReturn hon
  have hkeys : freedKeys a (endCheck (notifyState a.number a.round a.bib (some a.state) .lapsed (count .attemptLapsed (lapsedRanked a v)))) =
      freedKeys a v := by simp [freedKeys, hgate]
  have hnotices : freedNotices a (endCheck (notifyState a.number a.round a.bib (some a.state) .lapsed
      (count .attemptLapsed (lapsedRanked a v)))) = freedNotices a v := by simp [freedNotices, hgate]
  rw [hkeys, hnotices, ← topTen_lapse, ← lapse_eq] at hchain
  refine ⟨?_, ?_, ?_, ?_, ?_, by simpa using hchain⟩
  · rw [lapse_eq, coachReturn_cst, endCheck_cst, notifyState_cst, count_cst, hcst]
  · rw [lapse_eq, coachReturn_scr, coachReturn_cst]
    simp [lapsedRanked, reRankAfter_scr, reRankAfter_cst, lapsedAtBar]
  · rw [lapse_eq, coachReturn_stc, endCheck_stc, notifyState_stc, count_stc, lapsedRanked, reRankAfter_stc, hstc]
  · rw [lapse_eq, coachReturn_gate hon]
    simp [hgate, hprof]
  · refine ((lapsedRanked_only a v).mono (by simp)).trans ⟨fun b hb => ?_, by simp [lapse_eq], by simp [lapse_eq]⟩
    cases b <;> simp [SameBlock, lapse_eq] at hb ⊢

end Lapse

theorem lapseKeys_length_le (a : Attempt) (s u : State) :
    ([key .light, key .countdown, key .rank] ++ changedLines (topTen s) (topTen u) ++ freedKeys a s).length ≤ 14 := by
  have hlines := changedLines_length_le s (topTen u)
  have hfreed := freedKeys_length_le a s
  simp only [List.length_append, List.length_cons, List.length_nil]
  omega

/-- The end of the round after a lapse (R18). -/
theorem endChecked_lapsed (hok : HillOk s) (ha : onHill? s = some a) :
    (s.cst.startList ≠ [] → endChecked (lapsedCst a s.cst) = .opened)
      ∧ (s.cst.startList = [] → (∀ r ∈ s.cst.attempts, r.round = s.cst.round → r.state ≠ .scoring) →
          endChecked (lapsedCst a s.cst) = .ended) := by
  have hopen := (hok.round_of_onHill ha).2
  refine ⟨fun hlist => (endChecked_of_list (c := lapsedCst a s.cst) hlist).trans hopen, fun hlist hscoring =>
    endChecked_of_clear hopen hlist fun r hr hround => ?_⟩
  have hclear : HillClear (s.onCst fun _ => lapsedCst a s.cst) := HillClear.of_none
    (hok.none_of_changed (f := fun r => { r with state := .lapsed }) ha rfl rfl)
  refine ⟨hclear r hr, ?_⟩
  obtain ⟨x, hx, rfl⟩ := List.mem_map.mp hr
  by_cases hn : x.number = a.number
  · simp [hn]
  · simp only [if_neg hn] at hround ⊢
    exact hscoring x hx hround

theorem startWindowExpiry_happens {w : Nat} (hill : HillLaws s) (ha : onHill? s = some a) (hstate : a.state = .cleared)
    (hwindow : s.stc.window = some w) (hred : s.stc.light ≠ .red) {P : State → Prop}
    (hP : ∀ t, After s (startTx s) (lapse a (startTx s)) t → Lapses a (startTx s) (lapse a (startTx s)) → P t) :
    Happens .startWindowExpiry [.cst, .stc, .gate, .scr, .diag] s P := by
  have hv := Given.startTx s
  have hlapses := lapse_lapses (v := startTx s) (hv.laws hill).1 (by rw [hv.onHill]; exact ha) (by rw [hv.stc, hwindow]; rfl)
    (by rw [hv.stc]; exact hred)
  have heffect : windowExpired (startTx s) = lapse a (startTx s) := by simp [windowExpired, hwindow, ha, hstate]
  exact Happens.of_block rfl heffect hlapses.only fun t ht => hP t ht hlapses

/-- Settles O36: the timers, and the lapse. -/
theorem theStartWindowRunsDownAndLapses : Obligations.TheStartWindowRunsDownAndLapses := by
  refine ⟨fun s => ⟨fun k => flashTimerExpiry_happens, fun a w hill ha hstate => warningPeriodReached_happens hill ha hstate,
    fun w n => countdownSecondChange_happens⟩, fun s a w hill ha hstate hwindow hlight => ?_⟩
  have hred : s.stc.light ≠ .red := by rcases hlight with h | h <;> rw [h] <;> decide
  refine startWindowExpiry_happens hill ha hstate hwindow hred fun t ht hlapses => ?_
  have hv := Given.startTx s
  obtain ⟨hlist, hended⟩ := endChecked_lapsed hill.1 ha
  have htcst : t.cst = { lapsedCst a s.cst with rstate := endChecked (lapsedCst a s.cst) } := by
    rw [ht.cst, hlapses.cst, hv.cst]
  have hgate : t.gate = if a.coach.isSome then returned s.prof.profile.hill s.gate else s.gate := by
    rw [ht.gate, hlapses.gate, hv.prof, hv.gate]
  have htop : topTen t = topTen (lapse a (startTx s)) := topTen_congr (by rw [ht.cst]) (by rw [ht.scr])
  obtain ⟨hfreed, hcoached⟩ := GateFreed.of_gate hgate
  have htells := hlapses.tells
  rw [← htop, startTx_topTen, hv.stc, hstate, hv.overflows, hv.counted, hv.brd,
    show freedKeys a (startTx s) = freedKeys a s by simp [freedKeys],
    show freedNotices a (startTx s) = freedNotices a s by simp [freedNotices]] at htells
  obtain ⟨hlink, hsub, hboards, hsaid⟩ := told ht htells hv.brd
  refine ⟨by rw [htcst]; rfl, by rw [htcst]; rfl, by rw [htcst]; rfl, by rw [htcst]; rfl, by rw [htcst]; exact hlist,
    by rw [htcst]; exact hended, ?_, by rw [ht.stc, hlapses.stc, hv.stc], hfreed, hcoached, hsub, hlink, hboards,
    fun hroom => hsaid (Room.fits hroom (lapseKeys_length_le a s t) hv.brd)⟩
  rw [ht.scr, hlapses.scr, ← ht.cst, hv.scr]

end Sys2Proof

/-! PROOFS. MOVE GATE, COACH REDUCTION and HOME GATE, and GATE_HOME (R56, R62, R66 to R68). -/

namespace Sys2Proof

open Machine

variable {s v u t : State}

/-! ## The two ways of a move (R62, R68) -/

/-- GATE once a move by the drive has begun. -/
def movingTo (kind : MoveKind) (c target step : Nat) (g : Gate) : Gate :=
  { g with target := some target, kind := some kind, corrected := false,
           state := if c < target then .movingUp else .movingDown, lastDir := some (if c < target then .up else .down),
           stepTimer := some step }

theorem travel_eq (c target : Nat) : travel c target =
    (if c < target then GateState.movingUp else .movingDown, if c < target then Direction.up else .down) := by
  unfold travel; split <;> rfl

theorem startMove_gate (kind : MoveKind) (c target : Nat) (s : State) :
    (startMove kind c target s).gate = movingTo kind c target s.prof.profile.hill.gateStep s.gate := by
  simp [startMove, movingTo, travel_eq]

theorem manualMove_gate (kind : MoveKind) (target : Nat) (s : State) :
    (manualMove kind target s).gate = { s.gate with current := some target } := by
  simp [manualMove]

theorem onHill_isSome (h : ¬HillClear s) : (onHill? s).isSome = true := by
  cases hill : onHill? s with
  | none => exact absurd (HillClear.of_none hill) h
  | some a => rfl

section Moves

variable {i : Instr} {kind tag : Byte} {ps : List Byte} {serve : State → Served} {w : State} {m : MoveKind} {c target : Nat}
  {bs : List Block} {P : State → Prop}

/-- A request that begins a move by the drive, from a state that has what the request wrote before. -/
theorem starts_of_block (hF : Free s) (hi : requestFrame i = some (kind, tag, ps)) (he : exec i s = request i serve s)
    (hr : serve (taken kind tag s) = accepted (startMove m c target w)) (hlink : w.link = (taken kind tag s).link)
    (hbrd : w.brd = s.brd) (hdiag : w.diag = s.diag)
    (ho : OnlyChanges (.brd :: .link :: .gate :: bs) (taken kind tag s) w)
    (hP : ∀ t, After s (taken kind tag s) (startMove m c target w) t → LinkKept s t → Boards [] s t →
      Sends [.gateBegun m (some c) (some target) w.gate.jury] s t → P t) :
    Completes i .accepted .none (.gate :: bs) s P := by
  have hchain := ((Tells.refl (taken kind tag s)).frame (u := w) (by simpa using hbrd) hlink (by simpa using hdiag)).startMove
    m c target
  refine Completes.of_block hF hi he hr hchain.core (ho.trans ?_) fun t ht => ?_
  · exact ⟨fun b hb => by cases b <;> simp [SameBlock] at hb ⊢, by simp, by simp⟩
  · obtain ⟨hkept, -, hboards, hsaid⟩ := told ht hchain (by simp)
    exact hP t ht hkept hboards (hsaid (.inl rfl)).2

/-- A request that moves the gate in MANUAL. -/
theorem moves_of_block (hF : Free s) (hi : requestFrame i = some (kind, tag, ps)) (he : exec i s = request i serve s)
    (hr : serve (taken kind tag s) = done (manualMove m target w)) (hlink : w.link = (taken kind tag s).link)
    (hbrd : w.brd = s.brd) (hdiag : w.diag = s.diag)
    (ho : OnlyChanges (.brd :: .link :: .gate :: .diag :: bs) (taken kind tag s) w)
    (hP : ∀ t, After s (taken kind tag s) (manualMove m target w) t → LinkKept s t → Boards [key .gate] s t →
      (Room 1 s → t.diag = s.diag ∧ Sends [.gateDone m (some target) w.gate.jury] s t) → P t) :
    Completes i .done .none (.gate :: .diag :: bs) s P := by
  have hchain := ((Tells.refl (taken kind tag s)).frame (u := w) (by simpa using hbrd) hlink (by simpa using hdiag)).manualMove
    m target
  refine Completes.of_block hF hi he hr hchain.core (ho.trans ?_) fun t ht => ?_
  · exact ⟨fun b hb => by cases b <;> simp [SameBlock] at hb ⊢, by simp, by simp⟩
  · obtain ⟨hkept, -, hboards, hsaid⟩ := told ht hchain (by simp)
    exact hP t ht hkept hboards fun hroom => by simpa using hsaid (Room.fits hroom (by simp) (by simp))

end Moves

/-! ## MOVE GATE (R62, R68) -/

/-- The jury gate that a MOVE GATE writes. -/
def juried (target : Nat) (s : State) : State := s.onGate fun g => { g with jury := some target }

theorem serveMoveGate_of_free {target : Nat} (hlo : 1 ≤ target) (hhi : target ≤ s.prof.profile.hill.gates) (hclear : HillClear s)
    (hcoach : s.stc.coach = none) (hstate : s.gate.state = .idle ∨ s.gate.state = .manual) : serveMoveGate target s =
      if s.gate.current ≠ some target then
        if s.gate.state = .manual then done (manualMove .move target (juried target s))
        else accepted (startMove .move (s.gate.current.getD target) target (juried target s))
      else done (juried target s) := by
  have hrange : within 1 s.prof.profile.hill.gates target = true := by simp [within, hlo, hhi]
  rcases hstate with h | h <;> simp [serveMoveGate, hrange, hclear.none, hcoach, h, GateState.motion, juried]

section

variable (hF : Free s) {kind : Byte} (tag : Byte) {target : Nat} (hlo : 1 ≤ target) (hhi : target ≤ s.prof.profile.hill.gates)
  (hclear : HillClear s) (hcoach : s.stc.coach = none)

include hlo hhi hclear hcoach

theorem serveMoveGate_taken (hstate : s.gate.state = .idle ∨ s.gate.state = .manual) : serveMoveGate target (taken kind tag s) =
    if s.gate.current ≠ some target then
      if s.gate.state = .manual then done (manualMove .move target (juried target (taken kind tag s)))
      else accepted (startMove .move (s.gate.current.getD target) target (juried target (taken kind tag s)))
    else done (juried target (taken kind tag s)) := by
  have h := serveMoveGate_of_free (s := taken kind tag s) hlo (by simpa using hhi) (hclear.congr (by simp)) (by simpa using hcoach)
    (by simpa using hstate)
  rwa [taken_gate] at h

include hF

theorem moveGate_stays (hstate : s.gate.state = .idle ∨ s.gate.state = .manual) (hc : s.gate.current = some target) :
    Completes (.moveGate tag target) .done .none [.gate] s fun t =>
      t.gate = { s.gate with jury := some target } ∧ Quiet s t := by
  have hserve := (serveMoveGate_taken (kind := 0x36) tag hlo hhi hclear hcoach hstate).trans (if_neg (by simp [hc]))
  exact Completes.of_block hF rfl rfl hserve (by simp [juried])
    ⟨fun b hb => by cases b <;> simp [SameBlock, juried] at hb ⊢, by simp [juried], by simp [juried]⟩
    fun t ht => ⟨by rw [ht.gate]; simp [juried], ht.quiet (by simp [juried]) (by simp [juried])⟩

theorem moveGate_starts {c : Nat} (hstate : s.gate.state = .idle) (hc : s.gate.current = some c) (hne : c ≠ target) :
    Completes (.moveGate tag target) .accepted .none [.gate] s fun t =>
      t.gate = { s.gate with jury := some target, target := some target, kind := some .move, corrected := false,
                             state := if c < target then .movingUp else .movingDown,
                             lastDir := some (if c < target then .up else .down),
                             stepTimer := some s.prof.profile.hill.gateStep }
      ∧ LinkKept s t ∧ Boards [] s t ∧ Sends [.gateBegun .move (some c) (some target) (some target)] s t := by
  have hserve := serveMoveGate_taken (kind := 0x36) tag hlo hhi hclear hcoach (.inl hstate)
  rw [if_pos (by simpa [hc] using hne), if_neg (by rw [hstate]; decide), hc, Option.getD_some] at hserve
  refine starts_of_block hF rfl rfl hserve rfl (by simp [juried]) (by simp [juried])
    ⟨fun b hb => by cases b <;> simp [SameBlock, juried] at hb ⊢, by simp [juried], by simp [juried]⟩
    fun t ht hkept hboards hsends => ⟨?_, hkept, hboards, by simpa [juried] using hsends⟩
  rw [ht.gate, startMove_gate]
  simp [juried, movingTo]

theorem moveGate_moves {c : Nat} (hstate : s.gate.state = .manual) (hc : s.gate.current = some c) (hne : c ≠ target) :
    Completes (.moveGate tag target) .done .none [.gate, .diag] s fun t =>
      t.gate = { s.gate with jury := some target, current := some target } ∧ LinkKept s t ∧ Boards [key .gate] s t
        ∧ (Room 1 s → t.diag = s.diag ∧ Sends [.gateDone .move (some target) (some target)] s t) := by
  have hserve := serveMoveGate_taken (kind := 0x36) tag hlo hhi hclear hcoach (.inr hstate)
  rw [if_pos (by simpa [hc] using hne), if_pos hstate] at hserve
  refine moves_of_block hF rfl rfl hserve rfl (by simp [juried]) (by simp [juried])
    ⟨fun b hb => by cases b <;> simp [SameBlock, juried] at hb ⊢, by simp [juried], by simp [juried]⟩
    fun t ht hkept hboards hsaid => ⟨?_, hkept, hboards, by simpa [juried] using hsaid⟩
  rw [ht.gate, manualMove_gate]
  simp [juried]

end

/-! ## COACH REDUCTION (R56) -/

/-- The coach reduction is pending. -/
def reduced (bib k : Nat) (s : State) : State := s.onStc fun c => { c with coach := some (bib, k) }

theorem reduced_only (bib k : Nat) (s : State) (bs : List Block) (h : [.brd, .link, .stc] ⊆ bs) : OnlyChanges bs s (reduced bib k s) :=
  OnlyChanges.mono (bs := [.brd, .link, .stc]) ⟨fun b hb => by cases b <;> simp [SameBlock, reduced] at hb ⊢, rfl, rfl⟩ h

section

variable (hF : Free s) {kind : Byte} (tag : Byte) {bib k j c : Nat} (hbib : bibOk bib = true) (hk : within 1 5 k = true)
  (hopen : s.cst.rstate = .opened) (hclear : HillClear s) (hcoach : s.stc.coach = none) (hhead : s.cst.startList.head? = some bib)
  (hj : s.gate.jury = some j) (hc : s.gate.current = some c) (hkj : k < j)

include hbib hk hopen hclear hcoach hhead

theorem serveCoachReduction_free (hstate : s.gate.state = .idle ∨ s.gate.state = .manual) (hj : s.gate.jury = some j)
    (hkj : k < j) : serveCoachReduction bib k (taken kind tag s) =
      if s.gate.current ≠ some (j - k) then
        if s.gate.state = .manual then done (manualMove .coach (j - k) (reduced bib k (taken kind tag s)))
        else accepted (startMove .coach (s.gate.current.getD (j - k)) (j - k) (reduced bib k (taken kind tag s)))
      else done (reduced bib k (taken kind tag s)) := by
  rcases hstate with h | h <;>
    simp [serveCoachReduction, hbib, hk, hopen, hclear.none, hcoach, hhead, h, GateState.motion, hj, not_le.mpr hkj, reduced]

include hF hj hc hkj

theorem coachReduction_stays (hstate : s.gate.state = .idle ∨ s.gate.state = .manual) (hat : c = j - k) :
    Completes (.coachReduction tag bib k) .done .none [.stc] s fun t =>
      t.stc = { s.stc with coach := some (bib, k) } ∧ Quiet s t := by
  have hserve := (serveCoachReduction_free (kind := 0x35) tag hbib hk hopen hclear hcoach hhead hstate hj hkj).trans (if_neg (by simp [hc, hat]))
  exact Completes.of_block hF rfl rfl hserve (by simp [reduced]) (reduced_only _ _ _ _ (by simp))
    fun t ht => ⟨by rw [ht.stc]; simp [reduced], ht.quiet (by simp [reduced]) (by simp [reduced])⟩

theorem coachReduction_starts (hstate : s.gate.state = .idle) (hne : c ≠ j - k) :
    Completes (.coachReduction tag bib k) .accepted .none [.stc, .gate] s fun t =>
      t.stc = { s.stc with coach := some (bib, k) }
      ∧ t.gate = { s.gate with target := some (j - k), kind := some .coach, corrected := false,
                               state := if c < j - k then .movingUp else .movingDown,
                               lastDir := some (if c < j - k then .up else .down),
                               stepTimer := some s.prof.profile.hill.gateStep }
      ∧ LinkKept s t ∧ Boards [] s t ∧ Sends [.gateBegun .coach (some c) (some (j - k)) (some j)] s t := by
  have hserve := serveCoachReduction_free (kind := 0x35) tag hbib hk hopen hclear hcoach hhead (.inl hstate) hj hkj
  rw [if_pos (by simpa [hc] using hne), if_neg (by rw [hstate]; decide), hc, Option.getD_some] at hserve
  refine (starts_of_block (bs := [.stc]) hF rfl rfl hserve rfl (by simp [reduced]) (by simp [reduced])
    (reduced_only _ _ _ _ (by simp)) fun t ht hkept hboards hsends => ⟨?_, ?_, hkept, hboards, by simpa [reduced, hj] using hsends⟩).mono
      (by simp)
  · rw [ht.stc, startMove_stc]; simp [reduced]
  · rw [ht.gate, startMove_gate]; simp [reduced, movingTo]

theorem coachReduction_moves (hstate : s.gate.state = .manual) (hne : c ≠ j - k) :
    Completes (.coachReduction tag bib k) .done .none [.stc, .gate, .diag] s fun t =>
      t.stc = { s.stc with coach := some (bib, k) } ∧ t.gate = { s.gate with current := some (j - k) }
      ∧ LinkKept s t ∧ Boards [key .gate] s t
      ∧ (Room 1 s → t.diag = s.diag ∧ Sends [.gateDone .coach (some (j - k)) (some j)] s t) := by
  have hserve := serveCoachReduction_free (kind := 0x35) tag hbib hk hopen hclear hcoach hhead (.inr hstate) hj hkj
  rw [if_pos (by simpa [hc] using hne), if_pos hstate] at hserve
  refine (moves_of_block (bs := [.stc]) hF rfl rfl hserve rfl (by simp [reduced]) (by simp [reduced])
    (reduced_only _ _ _ _ (by simp)) fun t ht hkept hboards hsaid => ⟨?_, ?_, hkept, hboards, by simpa [reduced, hj] using hsaid⟩).mono
      (by simp)
  · rw [ht.stc, manualMove_stc]; simp [reduced]
  · rw [ht.gate, manualMove_gate]; simp [reduced]

end

/-! ## The refusals of both -/

theorem moveGate_refused {target : Nat} (hlo : 1 ≤ target) (hhi : target ≤ s.prof.profile.hill.gates) {code : ReplyCode}
    (hF : Free s) (tag : Byte)
    (h : (¬HillClear s ∨ s.stc.coach.isSome = true) ∧ code = .state ∨
      (HillClear s ∧ s.stc.coach = none) ∧ (s.gate.state.motion = true ∧ code = .busy ∨
        (s.gate.state = .unknown ∨ s.gate.state = .fault) ∧ code = .state)) : Refuses (.moveGate tag target) code s := by
  have hrange : within 1 s.prof.profile.hill.gates target = true := by simp [within, hlo, hhi]
  refine refuses_of_block hF rfl rfl ?_
  rcases h with ⟨hbusy | hcoach, rfl⟩ | ⟨⟨hclear, hcoach⟩, ⟨hmotion, rfl⟩ | ⟨hlost | hlost, rfl⟩⟩
  · simp [serveMoveGate, hrange, onHill_isSome hbusy]
  · simp [serveMoveGate, hrange, hcoach]
  · simp [serveMoveGate, hrange, hclear.none, hcoach, hmotion]
  · simp [serveMoveGate, hrange, hclear.none, hcoach, hlost, GateState.motion]
  · simp [serveMoveGate, hrange, hclear.none, hcoach, hlost, GateState.motion]

/-- Settles O37: both requests at rest, and their tables. -/
theorem moveGateAndCoachReduction : Obligations.MoveGateAndCoachReduction := by
  refine ⟨fun s tag target c hF hlo hhi hclear hcoach => ⟨fun hstate hc => ⟨fun heq => ?_, fun hne => ?_⟩, fun hstate hc hne => ?_,
      fun hstate hc => ?_, fun hmotion => ?_, fun hlost => ?_⟩,
    fun s tag bib k j c hF hblo hbhi hklo hkhi hopen hclear hcoach hhead hj hc hkj => ?_,
    fun s tag target hF => ⟨fun hbad => ?_, fun hlo hhi h => ?_⟩,
    fun s tag bib k hF => ⟨fun hbad => ?_, fun hblo hbhi hklo hkhi => ⟨fun h => ?_, fun hopen hclear hcoach hhead =>
      ⟨fun hmotion => ?_, fun h => ?_, fun j hj hjk hstate => ?_⟩⟩⟩⟩
  · exact moveGate_stays hF tag hlo hhi hclear hcoach (.inl hstate) (heq ▸ hc)
  · exact moveGate_starts hF tag hlo hhi hclear hcoach hstate hc hne
  · exact moveGate_moves hF tag hlo hhi hclear hcoach hstate hc hne
  · exact moveGate_stays hF tag hlo hhi hclear hcoach (.inr hstate) hc
  · exact moveGate_refused hlo hhi hF tag (.inr ⟨⟨hclear, hcoach⟩, .inl ⟨hmotion, rfl⟩⟩)
  · exact moveGate_refused hlo hhi hF tag (.inr ⟨⟨hclear, hcoach⟩, .inr ⟨hlost, rfl⟩⟩)
  · have hbib := bibOk_eq_true hblo hbhi
    have hk : within 1 5 k = true := by simp [within, hklo, hkhi]
    exact ⟨coachReduction_stays hF tag hbib hk hopen hclear hcoach hhead hj hc hkj,
      coachReduction_starts hF tag hbib hk hopen hclear hcoach hhead hj hc hkj,
      coachReduction_moves hF tag hbib hk hopen hclear hcoach hhead hj hc hkj⟩
  · have hrange : within 1 s.prof.profile.hill.gates target = false := by simp [within]; omega
    exact refuses_of_block hF rfl rfl (by simp [serveMoveGate, hrange])
  · exact moveGate_refused hlo hhi hF tag (.inl ⟨h, rfl⟩)
  · have hrange : (!bibOk bib || !within 1 5 k) = true := by simp [bibOk, within]; omega
    exact refuses_of_block hF rfl rfl (by simp only [serveCoachReduction, hrange]; rfl)
  · have hbib := bibOk_eq_true hblo hbhi
    have hk : within 1 5 k = true := by simp [within, hklo, hkhi]
    refine refuses_of_block hF rfl rfl ?_
    rcases h with h | h | h | h
    · simp [serveCoachReduction, hbib, hk, h]
    · simp [serveCoachReduction, hbib, hk, onHill_isSome h]
    · simp [serveCoachReduction, hbib, hk, h]
    · simp [serveCoachReduction, hbib, hk, h]
  · have hbib := bibOk_eq_true hblo hbhi
    have hk : within 1 5 k = true := by simp [within, hklo, hkhi]
    exact refuses_of_block hF rfl rfl
      (by simp [serveCoachReduction, hbib, hk, hopen, hclear.none, hcoach, hhead, hmotion])
  · have hbib := bibOk_eq_true hblo hbhi
    have hk : within 1 5 k = true := by simp [within, hklo, hkhi]
    refine refuses_of_block hF rfl rfl ?_
    rcases h with h | h | ⟨hmotion, h⟩
    · cases hj : s.gate.jury <;> simp [serveCoachReduction, hbib, hk, hopen, hclear.none, hcoach, hhead, h, hj, GateState.motion]
    · cases hj : s.gate.jury <;> simp [serveCoachReduction, hbib, hk, hopen, hclear.none, hcoach, hhead, h, hj, GateState.motion]
    · simp [serveCoachReduction, hbib, hk, hopen, hclear.none, hcoach, hhead, hmotion, h]
  · have hbib := bibOk_eq_true hblo hbhi
    have hk : within 1 5 k = true := by simp [within, hklo, hkhi]
    refine refuses_of_block hF rfl rfl ?_
    rcases hstate with h | h <;>
      simp [serveCoachReduction, hbib, hk, hopen, hclear.none, hcoach, hhead, h, hj, GateState.motion, hjk]

/-! ## HOME GATE and GATE_HOME (R66, R67) -/

/-- GATE found at gate 1. -/
def homed (s : State) : State :=
  s.onGate fun g => { g with state := .idle, current := some 1, jury := some (g.jury.getD 1) }

/-- GATE on its way to gate 1. -/
def homing (s : State) : State :=
  s.onGate fun g => { g with state := .homing, current := none, target := some 1, kind := some .home, lastDir := some .down,
                             homeTimer := some (s.prof.profile.hill.gates * s.prof.profile.hill.gateStep) }

section

variable {n : Nat} (hline : lineOf s .gateHome = some n)

include hline

theorem serveHomeGate_free {kind tag : Byte} (hstate : s.gate.state = .unknown ∨ s.gate.state = .fault ∨ s.gate.state = .idle)
    (hclear : HillClear s) (hcoach : s.stc.coach = none) : serveHomeGate (taken kind tag s) =
      if sensedFn s .gateHome = some false then
        done (enqueue (key .gate) (notify (.gateDone .home (some 1) (some (s.gate.jury.getD 1))) (homed (taken kind tag s))))
      else accepted (notify (.gateBegun .home none (some 1) s.gate.jury) (homing (taken kind tag s))) := by
  have hhome : gateHomeActive (taken kind tag s) = decide (sensedFn s .gateHome = some false) := by
    rw [taken_gateHomeActive, gateHomeActive, Bool.beq_eq_decide_eq]
  rcases hstate with h | h | h <;>
    simp [serveHomeGate, h, hasLine, hline, GateState.motion, hclear.none, hcoach, hhome, homed, homing]

theorem gateHomeActive_effect : gateHome true (startTx s) =
    if s.gate.state = .homing then
      (setOutside (some n) false (startTx s)).onGate fun g =>
        { g with state := .settling, current := some 1, jury := some (g.jury.getD 1), homeTimer := none,
                 settleTimer := some s.prof.profile.hill.settle }
    else setOutside (some n) false (startTx s) := by
  simp [gateHome, hasLine, hline]

end

/-- Settles O38: the request found at home and away from it, the line, and the table. -/
theorem homingFindsGateOne : Obligations.HomingFindsGateOne := by
  refine ⟨fun s tag n hline => ⟨fun hF hstate hclear hcoach => ?_, fun hhoming => ?_, fun hnot => ?_⟩,
    fun s tag hF => ⟨fun h => ?_, fun hline hmotion => ?_, fun hline hmotion h => ?_⟩⟩
  · have hserve := serveHomeGate_free (kind := 0x37) (tag := tag) hline hstate hclear hcoach
    refine ⟨fun hsensed => ?_, fun hsensed => ?_⟩
    · rw [if_pos hsensed] at hserve
      have hchain := (((Tells.refl (taken 0x37 tag s)).frame (u := homed (taken 0x37 tag s)) rfl rfl rfl).notify
        (.gateDone .home (some 1) (some (s.gate.jury.getD 1)))).enqueue (key .gate)
      refine Completes.of_block hF rfl rfl hserve hchain.core
        ⟨fun b hb => by cases b <;> simp [SameBlock, homed] at hb ⊢, by simp [homed], by simp [homed]⟩ fun t ht => ?_
      obtain ⟨hkept, -, hboards, hsaid⟩ := told ht hchain (by simp)
      exact ⟨by rw [ht.gate]; simp [homed], hkept, hboards, fun hroom => by simpa using hsaid (Room.fits hroom (by simp) (by simp))⟩
    · rw [if_neg (by rw [hsensed]; decide)] at hserve
      have hchain := ((Tells.refl (taken 0x37 tag s)).frame (u := homing (taken 0x37 tag s)) rfl rfl rfl).notify
        (.gateBegun .home none (some 1) s.gate.jury)
      refine Completes.of_block hF rfl rfl hserve hchain.core
        ⟨fun b hb => by cases b <;> simp [SameBlock, homing] at hb ⊢, by simp [homing], by simp [homing]⟩ fun t ht => ?_
      obtain ⟨hkept, -, hboards, hsaid⟩ := told ht hchain (by simp)
      exact ⟨by rw [ht.gate]; simp [homing], hkept, hboards, (hsaid (.inl rfl)).2⟩
  · have heffect := (gateHomeActive_effect hline).trans (if_pos hhoming)
    exact Happens.of_block rfl heffect ⟨fun b hb => by cases b <;> simp [SameBlock] at hb ⊢, by simp, by simp⟩
      fun t ht => ⟨by rw [ht.gate]; simp, by rw [ht.fld]; simp [setOutside], ht.quiet (by simp) (by simp)⟩
  · have heffect := (gateHomeActive_effect hline).trans (if_neg hnot)
    exact Happens.of_block rfl heffect ⟨fun b hb => by cases b <;> simp [SameBlock] at hb ⊢, by simp, by simp⟩
      fun t ht => ⟨by rw [ht.fld]; simp [setOutside], ht.quiet (by simp) (by simp)⟩
  · refine refuses_of_block hF rfl rfl ?_
    rcases h with h | h <;> simp [serveHomeGate, hasLine, h]
  · obtain ⟨n, hn⟩ := Option.isSome_iff_exists.mp hline
    have hmanual : s.gate.state ≠ .manual := by rintro h; simp [h, GateState.motion] at hmotion
    exact refuses_of_block hF rfl rfl (by simp [serveHomeGate, hasLine, hn, hmanual, hmotion])
  · obtain ⟨n, hn⟩ := Option.isSome_iff_exists.mp hline
    refine refuses_of_block hF rfl rfl ?_
    by_cases hmanual : s.gate.state = .manual
    · simp [serveHomeGate, hmanual]
    · rcases h with h | h
      · simp [serveHomeGate, hasLine, hn, hmanual, hmotion, onHill_isSome h]
      · simp [serveHomeGate, hasLine, hn, hmanual, hmotion, h]

end Sys2Proof

/-! PROOFS. Index pulses, the settle timer and the gate's faults (R63 to R65, R67, R69). -/

namespace Sys2Proof

open Machine

variable {s v u w t : State}

/-! ## Entry to FAULT (R65) -/

/-- A device fault (R163); `s` names DIAG as it was. -/
theorem Machine.Tells.reportFault {ks : List Key} {ns : List NoticeBody} {sub : Subjects} (h : Tells v ks ns s.diag sub w)
    (hclock : w.link.clock = s.link.clock) (kind : FaultKind) (detail : Nat) :
    Tells v ks ns (reported kind detail s) sub (reportFault kind detail w) where
  queue := h.queue
  board := h.board
  subjects := h.subjects
  core := h.core
  said hfits := by
    obtain ⟨hlink, hdiag⟩ := h.said hfits
    refine ⟨hlink, ?_⟩
    rw [reportFault_diag]
    unfold reported
    rw [hdiag, hclock]

theorem Machine.Tells.enterFault {ks : List Key} {ns : List NoticeBody} {sub : Subjects} (h : Tells v ks ns s.diag sub w)
    (hclock : w.link.clock = s.link.clock) (kind : FaultKind) (last : Option Nat) :
    Tells v (ks ++ [key .gate]) (ns ++ .gateFault kind last :: if w.stc.heldArm then [.armDropped .gateFault] else [])
      (reported kind (last.getD 0) s) sub (enterFault kind last w) := by
  have hchain := (((((h.onGate gateFaulted).reportFault hclock kind (last.getD 0)).notify (.gateFault kind last)).enqueue (key .gate)).dropHeldArm
    .gateFault).onStc fun c => { c with coach := none }
  have harm : (Machine.enqueue (key .gate) (Machine.notify (.gateFault kind last)
      (Machine.reportFault kind (last.getD 0) (w.onGate gateFaulted)))).stc.heldArm = w.stc.heldArm := by simp
  rw [harm, List.append_assoc, List.singleton_append] at hchain
  exact hchain

theorem enterFault_gate (kind : FaultKind) (last : Option Nat) (s : State) : (enterFault kind last s).gate = gateFaulted s.gate := by
  simp [enterFault, gateFaulted]

theorem enterFault_stc (kind : FaultKind) (last : Option Nat) (s : State) :
    (enterFault kind last s).stc = { s.stc with heldArm := false, coach := none } := by
  simp [enterFault]

theorem enterFault_only (kind : FaultKind) (last : Option Nat) (s : State) :
    OnlyChanges [.brd, .link, .stc, .gate, .diag] s (enterFault kind last s) :=
  ⟨fun b hb => by cases b <;> simp [SameBlock] at hb ⊢, by simp, by simp⟩

/-- What a command that has entered FAULT leaves, from a state that has `ns` told and DIAG as in `x`. -/
theorem fault_told {x : State} {ns : List NoticeBody} {kind : FaultKind} {last : Option Nat}
    (ht : After s (startTx s) (enterFault kind last w) t) (h : Tells (startTx s) [] ns x.diag s.brd.subjects w)
    (hclock : x.link.clock = s.link.clock) (hgate : gateFaulted w.gate = gateFaulted s.gate) (hstc : w.stc = s.stc) :
    t.gate = gateFaulted s.gate ∧ t.stc = { s.stc with heldArm := false, coach := none } ∧ LinkKept s t ∧ Boards [key .gate] s t
      ∧ (Room 1 s → t.diag = reported kind (last.getD 0) x ∧
          Sends (ns ++ .gateFault kind last :: if s.stc.heldArm then [.armDropped .gateFault] else []) s t) := by
  have hwclock : w.link.clock = x.link.clock := by
    have hcore := h.core
    simp only [Link.core, Link.mk.injEq] at hcore
    rw [hclock, show w.link.clock = (startTx s).link.clock by tauto, startTx_clock]
  have hchain := h.enterFault hwclock kind last
  obtain ⟨hkept, -, hboards, hsaid⟩ := told ht hchain (by simp)
  rw [hstc] at hsaid
  exact ⟨by rw [ht.gate, enterFault_gate, hgate], by rw [ht.stc, enterFault_stc, hstc], hkept, hboards,
    fun hroom => hsaid (Room.fits hroom (by simp) (by simp))⟩

/-- Settles O40: the two timers. -/
theorem aGateTimeoutIsAFault : Obligations.AGateTimeoutIsAFault := by
  refine fun s k => ⟨fun c htimer hstate hc => ?_, fun htimer hstate => ?_⟩
  · have heffect : stepTimedOut (startTx s) = enterFault .gateDrive (some c) (startTx s) := by
      simp only [stepTimedOut, startTx_gate, htimer, hc]
      exact if_pos ⟨rfl, hstate⟩
    exact Happens.of_block rfl heffect (enterFault_only _ _ _) fun t ht =>
      fault_told (x := s) (ns := []) ht (by simpa using Tells.refl (startTx s)) rfl (by simp) (by simp)
  · have heffect : homeTimedOut (startTx s) = enterFault .gateHomeLost none (startTx s) := by
      simp only [homeTimedOut, startTx_gate, htimer]
      exact if_pos ⟨rfl, hstate⟩
    exact Happens.of_block rfl heffect (enterFault_only _ _ _) fun t ht =>
      fault_told (x := s) (ns := []) ht (by simpa using Tells.refl (startTx s)) rfl (by simp) (by simp)

/-! ## Index pulses (R63, R64) -/

/-- The line has gone low, and GATE has not yet taken the pulse. -/
def pulsed (n : Nat) (s : State) : State := setOutside (some n) false s

theorem pulsed_tells (n : Nat) (s : State) : Tells s [] [] s.diag s.brd.subjects (pulsed n s) :=
  (Tells.refl s).frame rfl rfl rfl

theorem indexPulse_eq {n : Nat} (hline : lineOf s .gateIndex = some n) : indexPulse (startTx s) =
    match s.gate.state with
    | .movingUp => pulseMoving .up (pulsed n (startTx s))
    | .movingDown => pulseMoving .down (pulsed n (startTx s))
    | .settling => pulseSettling (pulsed n (startTx s))
    | .homing => pulsed n (startTx s)
    | .idle | .unknown | .fault | .manual => count .gateStray (pulsed n (startTx s)) := by
  have hhas : hasLine (startTx s) .gateIndex = true := by simp [hasLine, hline]
  have hstate : (setOutside (lineOf (startTx s) .gateIndex) false (startTx s)).gate.state = s.gate.state := by simp
  unfold indexPulse
  rw [if_pos hhas]
  simp only [hstate]
  rw [startTx_lineOf, hline]
  cases s.gate.state <;> rfl

/-- A pulse while the drive runs. -/
theorem pulseMoving_happens {n c target : Nat} {d : Direction} (heffect : indexPulse (startTx s) = pulseMoving d (pulsed n (startTx s)))
    (hc : s.gate.current = some c) (htarget : s.gate.target = some target) :
    (stepped d c ≠ target → Happens .indexPulse [.fld, .gate] s fun t =>
      t.gate = { s.gate with current := some (stepped d c), stepTimer := some s.prof.profile.hill.gateStep } ∧ Quiet s t)
    ∧ (stepped d c = target → Happens .indexPulse [.fld, .gate] s fun t =>
      t.gate = { s.gate with current := some (stepped d c), state := .settling, stepTimer := none,
                             settleTimer := some s.prof.profile.hill.settle } ∧ Quiet s t) := by
  refine ⟨fun hne => ?_, fun heq => ?_⟩
  · have hmove : pulseMoving d (pulsed n (startTx s)) = (pulsed n (startTx s)).onGate fun g =>
        { g with current := some (stepped d c), stepTimer := some s.prof.profile.hill.gateStep } := by
      simp [pulseMoving, pulsed, hc, htarget, hne]
    exact Happens.of_block rfl (heffect.trans hmove) ⟨fun b hb => by cases b <;> simp [SameBlock, pulsed] at hb ⊢, by simp [pulsed],
      by simp [pulsed]⟩ fun t ht => ⟨by rw [ht.gate]; simp [pulsed], ht.quiet (by simp [pulsed]) (by simp [pulsed])⟩
  · have hmove : pulseMoving d (pulsed n (startTx s)) = (pulsed n (startTx s)).onGate fun g =>
        { g with current := some (stepped d c), state := .settling, stepTimer := none,
                 settleTimer := some s.prof.profile.hill.settle } := by
      simp [pulseMoving, pulsed, hc, htarget, heq]
    exact Happens.of_block rfl (heffect.trans hmove) ⟨fun b hb => by cases b <;> simp [SameBlock, pulsed] at hb ⊢, by simp [pulsed],
      by simp [pulsed]⟩ fun t ht => ⟨by rw [ht.gate]; simp [pulsed], ht.quiet (by simp [pulsed]) (by simp [pulsed])⟩

/-- A pulse that is counted as stray. -/
theorem stray_tells (n : Nat) (s : State) : Tells (startTx s) [] (overflows .gateStray s) (counted .gateStray s) s.brd.subjects
    (count .gateStray (pulsed n (startTx s))) := by
  have h := (pulsed_tells n (startTx s)).count (by simp [pulsed]) .gateStray
  have hv := Given.startTx s
  rw [hv.overflows, hv.counted, hv.brd] at h
  exact h

theorem within_iff {lo hi n : Nat} : within lo hi n = true ↔ lo ≤ n ∧ n ≤ hi := by simp [within]

section Settling

variable {n c : Nat} {d : Direction} (hline : lineOf s .gateIndex = some n) (hc : s.gate.current = some c)
  (hstate : s.gate.state = .settling) (hdir : s.gate.lastDir = some d)

include hline hc hstate hdir

theorem pulseSettling_eq : indexPulse (startTx s) =
    if within 1 s.prof.profile.hill.gates (stepped d c) then
      (count .gateStray (pulsed n (startTx s))).onGate fun g =>
        { g with current := some (stepped d c), settleTimer := some s.prof.profile.hill.settle }
    else enterFault .gateDrive (some c) (count .gateStray (pulsed n (startTx s))) := by
  rw [indexPulse_eq hline, hstate]
  simp [pulseSettling, pulsed, hc, hdir]

theorem overrun_counts (hin : within 1 s.prof.profile.hill.gates (stepped d c) = true) :
    Happens .indexPulse [.fld, .gate, .diag] s fun t =>
      t.gate = { s.gate with current := some (stepped d c), settleTimer := some s.prof.profile.hill.settle }
        ∧ t.diag = counted .gateStray s ∧ LinkKept s t ∧ Boards [] s t ∧ Sends (overflows .gateStray s) s t := by
  have hchain := (stray_tells n s).onGate fun g =>
    { g with current := some (stepped d c), settleTimer := some s.prof.profile.hill.settle }
  refine Happens.of_block rfl ((pulseSettling_eq hline hc hstate hdir).trans (if_pos hin))
    ⟨fun b hb => by cases b <;> simp [SameBlock, pulsed] at hb ⊢, by simp [pulsed], by simp [pulsed]⟩ fun t ht => ?_
  obtain ⟨hkept, -, hboards, hsaid⟩ := told ht hchain (by simp)
  obtain ⟨hdiag, hsends⟩ := hsaid (.inl rfl)
  exact ⟨by rw [ht.gate]; simp [pulsed], hdiag, hkept, hboards, hsends⟩

theorem overrun_faults (hout : within 1 s.prof.profile.hill.gates (stepped d c) = false) :
    Happens .indexPulse [.fld, .stc, .gate, .diag] s fun t =>
      t.gate = gateFaulted s.gate ∧ t.stc = { s.stc with heldArm := false, coach := none } ∧ LinkKept s t
        ∧ Boards [key .gate] s t
        ∧ (Room 1 s → t.diag = reported .gateDrive c { s with diag := counted .gateStray s }
            ∧ Sends (overflows .gateStray s ++ .gateFault .gateDrive (some c) ::
                if s.stc.heldArm then [.armDropped .gateFault] else []) s t) := by
  refine Happens.of_block rfl ((pulseSettling_eq hline hc hstate hdir).trans (if_neg (by rw [hout]; decide)))
    (OnlyChanges.trans ?_ ((enterFault_only _ _ _).mono (by simp))) fun t ht =>
      fault_told (x := { s with diag := counted .gateStray s }) ht (stray_tells n s) rfl (by simp [pulsed]) (by simp [pulsed])
  exact ⟨fun b hb => by cases b <;> simp [SameBlock, pulsed] at hb ⊢, by simp [pulsed], by simp [pulsed]⟩

end Settling

/-! ## The settle timer (R64) -/

/-- The positioner is in IDLE, and this has been told. -/
def reached (s : State) : State :=
  enqueue (key .gate) (notify (.gateDone (s.gate.kind.getD .move) s.gate.current s.gate.jury)
    (s.onGate fun g => { g with state := .idle, target := none, kind := none, returnWaiting := false }))

/-- The return that has waited for the arrival (R69). -/
def returnedAfter (s : State) : State := if s.gate.returnWaiting then returnInIdle (reached s) else reached s

theorem arrive_eq (s : State) : arrive s =
    if (returnedAfter s).gate.state = .idle then takeHeldArm (returnedAfter s) else returnedAfter s := rfl

/-- The settle timer has ended. -/
def unsettled (s : State) : State := (startTx s).onGate fun g => { g with settleTimer := none }

theorem reached_gate (s : State) :
    (reached s).gate = { s.gate with state := .idle, target := none, kind := none, returnWaiting := false } := by
  simp [reached]

theorem unsettled_gate (s : State) : (unsettled s).gate = { s.gate with settleTimer := none } := by simp [unsettled]

theorem reached_tells (s : State) : Tells (startTx s) [key .gate] [.gateDone (s.gate.kind.getD .move) s.gate.current s.gate.jury]
    s.diag s.brd.subjects (reached (unsettled s)) := by
  have h := ((((Tells.refl (startTx s)).onGate fun g => { g with settleTimer := none }).onGate fun g =>
    { g with state := .idle, target := none, kind := none, returnWaiting := false }).notify
      (.gateDone (s.gate.kind.getD .move) s.gate.current s.gate.jury)).enqueue (key .gate)
  simpa [reached, unsettled] using h

theorem reached_only (s : State) : OnlyChanges [.brd, .link, .gate, .diag] (startTx s) (reached (unsettled s)) :=
  ⟨fun b hb => by cases b <;> simp [SameBlock, reached, unsettled] at hb ⊢, by simp [reached, unsettled], by simp [reached, unsettled]⟩

theorem reached_blocks (s : State) : (reached (unsettled s)).prof = s.prof ∧ (reached (unsettled s)).cst = s.cst
    ∧ (reached (unsettled s)).stc = s.stc := by
  simp [reached, unsettled]

section Settle

variable {k c target : Nat} (hstate : s.gate.state = .settling) (htimer : s.gate.settleTimer = some k)
  (hc : s.gate.current = some c) (htarget : s.gate.target = some target)

include hstate htimer hc htarget

theorem settleExpired_at_target (heq : c = target) : settleExpired (startTx s) = arrive (unsettled s) := by
  unfold settleExpired
  rw [if_pos (by simp [hstate, htimer])]
  exact if_pos (by simp [hc, htarget, heq])

theorem settleExpired_corrects (hne : c ≠ target) (hcorrected : s.gate.corrected = false) :
    settleExpired (startTx s) = (startTx s).onGate fun g =>
      { g with state := if c < target then .movingUp else .movingDown, lastDir := some (if c < target then .up else .down),
               corrected := true, settleTimer := none, stepTimer := some s.prof.profile.hill.gateStep } := by
  simp [settleExpired, hstate, htimer, hc, htarget, hne, hcorrected, travel_eq]
  rfl

theorem settleExpired_faults (hne : c ≠ target) (hcorrected : s.gate.corrected = true) :
    settleExpired (startTx s) = enterFault .gateDrive (some c) (unsettled s) := by
  simp [settleExpired, hstate, htimer, hc, htarget, hne, hcorrected, unsettled]

end Settle

/-! ### The arrival -/

theorem returnedAfter_of_stay {c : Nat} (hc : s.gate.current = some c) (h : s.gate.returnWaiting = false ∨ s.gate.jury = some c) :
    returnedAfter (unsettled s) = reached (unsettled s) := by
  unfold returnedAfter
  split
  next hwaiting =>
    have hj : s.gate.jury = some c := h.resolve_left (by rw [unsettled_gate] at hwaiting; simpa using hwaiting)
    simp [returnInIdle, reached_gate, unsettled_gate, hc, hj]
  next => rfl

theorem arrive_of_stay {c : Nat} (hc : s.gate.current = some c) (h : s.gate.returnWaiting = false ∨ s.gate.jury = some c) :
    arrive (unsettled s) = takeHeldArm (reached (unsettled s)) := by
  rw [arrive_eq, returnedAfter_of_stay hc h]
  exact if_pos (by rw [reached_gate])

theorem arrive_of_return {c j : Nat} (hc : s.gate.current = some c) (hwaiting : s.gate.returnWaiting = true)
    (hj : s.gate.jury = some j) (hne : c ≠ j) : arrive (unsettled s) = startMove .ret c j (reached (unsettled s)) := by
  have hreturn : returnedAfter (unsettled s) = startMove .ret c j (reached (unsettled s)) := by
    simp [returnedAfter, unsettled_gate, hwaiting, returnInIdle, reached_gate, hc, hj, hne]
  rw [arrive_eq, hreturn]
  refine if_neg ?_
  rw [startMove_gate]
  unfold movingTo
  split <;> simp

theorem takeHeldArm_of_none (h : s.stc.heldArm = false) : takeHeldArm s = s := by
  rw [takeHeldArm, h, if_neg (by decide)]

theorem takeHeldArm_arms {bib : Nat} {rest : List Nat} (h : s.stc.heldArm = true) (hopen : s.cst.rstate = .opened)
    (hlist : s.cst.startList = bib :: rest) : takeHeldArm s = armEffect (s.onStc fun c => { c with heldArm := false }) := by
  simp [takeHeldArm, h, hopen, hlist]

theorem takeHeldArm_drops (h : s.stc.heldArm = true) (hr : s.cst.rstate ≠ .opened ∨ s.cst.startList = []) :
    takeHeldArm s = dropHeldArm (if s.cst.rstate = .opened then .listEmpty else .roundState) s := by
  by_cases hopen : s.cst.rstate = .opened
  · simp [takeHeldArm, h, hopen, hr.resolve_left (not_not.mpr hopen)]
  · simp [takeHeldArm, h, hopen]

section Arrival

variable {k c : Nat} (hstate : s.gate.state = .settling) (htimer : s.gate.settleTimer = some k) (hc : s.gate.current = some c)
  (htarget : s.gate.target = some c)

include hstate htimer hc htarget

/-- An arrival after which nothing is left to do. -/
theorem arrival_rests (hstay : s.gate.returnWaiting = false ∨ s.gate.jury = some c) (hheld : s.stc.heldArm = false) :
    Happens .settleExpiry [.gate, .diag] s fun t =>
      t.gate = { s.gate with state := .idle, target := none, kind := none, settleTimer := none, returnWaiting := false }
        ∧ LinkKept s t ∧ Boards [key .gate] s t
        ∧ (∀ kind, s.gate.kind = some kind → Room 1 s → t.diag = s.diag ∧ Sends [.gateDone kind (some c) s.gate.jury] s t) := by
  have heffect := (settleExpired_at_target hstate htimer hc htarget rfl).trans (arrive_of_stay hc hstay)
  rw [takeHeldArm_of_none (by rw [(reached_blocks s).2.2]; exact hheld)] at heffect
  refine Happens.of_block rfl heffect (reached_only s) fun t ht => ?_
  obtain ⟨hkept, -, hboards, hsaid⟩ := told ht (reached_tells s) (by simp)
  refine ⟨by rw [ht.gate, reached_gate, unsettled_gate], hkept, hboards, fun kind hkind hroom => ?_⟩
  simpa [hkind, hc] using hsaid (Room.fits hroom (by simp) (by simp))

/-- An arrival that a waiting return follows. -/
theorem arrival_returns {j : Nat} {kind : MoveKind} (hwaiting : s.gate.returnWaiting = true) (hj : s.gate.jury = some j)
    (hkind : s.gate.kind = some kind) (hne : c ≠ j) : Happens .settleExpiry [.gate, .diag] s fun t =>
      t.gate = { s.gate with state := if c < j then .movingUp else .movingDown, target := some j, kind := some .ret,
                             lastDir := some (if c < j then .up else .down), corrected := false, returnWaiting := false,
                             settleTimer := none, stepTimer := some s.prof.profile.hill.gateStep }
        ∧ LinkKept s t ∧ Boards [key .gate] s t
        ∧ (Room 1 s → t.diag = s.diag
            ∧ Sends [.gateDone kind (some c) (some j), .gateBegun .ret (some c) (some j) (some j)] s t) := by
  have heffect := (settleExpired_at_target hstate htimer hc htarget rfl).trans (arrive_of_return hc hwaiting hj hne)
  have hchain := (reached_tells s).startMove .ret c j
  rw [reached_gate, unsettled_gate, hkind, hc, hj] at hchain
  refine Happens.of_block rfl heffect ((reached_only s).trans ⟨fun b hb => by cases b <;> simp [SameBlock] at hb ⊢, by simp, by simp⟩)
    fun t ht => ?_
  obtain ⟨hkept, -, hboards, hsaid⟩ := told ht hchain (by simp)
  refine ⟨?_, hkept, hboards, fun hroom => hsaid (Room.fits hroom (by simp) (by simp))⟩
  rw [ht.gate, startMove_gate, reached_gate, unsettled_gate, (reached_blocks s).1]
  simp [movingTo]

/-- An arrival that a held arm has waited for. -/
theorem arrival_arms {kind : MoveKind} {bib : Nat} {rest : List Nat} (hheld : s.stc.heldArm = true)
    (hstay : s.gate.returnWaiting = false ∨ s.gate.jury = some c) (hkind : s.gate.kind = some kind) (hill : HillLaws s)
    (hopen : s.cst.rstate = .opened) (hlist : s.cst.startList = bib :: rest) (hred : s.stc.light = .red) :
    Happens .settleExpiry [.cst, .stc, .gate, .diag] s fun t =>
      t.gate = { s.gate with state := .idle, target := none, kind := none, settleTimer := none, returnWaiting := false }
        ∧ t.cst = armedCst bib rest s
        ∧ t.stc = lit .amber (armedStc bib (s.onStc fun c => { c with heldArm := false }))
        ∧ t.brd.subjects = { s.brd.subjects with jumper := some (s.cst.attempts.length + 1) }
        ∧ LinkKept s t ∧ Boards [key .gate, key .light, key .jumper] s t
        ∧ (Room 3 s → t.diag = s.diag ∧ Sends [.gateDone kind (some c) s.gate.jury,
            .light .red .amber (some (s.cst.attempts.length + 1)),
            .stateChange (s.cst.attempts.length + 1) s.cst.round bib none .waiting] s t) := by
  obtain ⟨-, hcst, hstc⟩ := reached_blocks s
  have heffect := (settleExpired_at_target hstate htimer hc htarget rfl).trans (arrive_of_stay hc hstay)
  rw [takeHeldArm_arms (by rw [hstc]; exact hheld) (by rw [hcst]; exact hopen) (by rw [hcst]; exact hlist)] at heffect
  have hclear : HillClear ((reached (unsettled s)).onStc fun c => { c with heldArm := false }) :=
    (hill.1.2.2.2 hheld).congr (by rw [State.onStc_cst, hcst])
  have harms := armEffect_arms (v := (reached (unsettled s)).onStc fun c => { c with heldArm := false }) (bib := bib) (rest := rest)
    (by rw [State.onStc_cst, hcst]; exact hopen) hclear (by rw [State.onStc_cst, hcst]; exact hlist)
    (by rw [State.onStc_stc, hstc]; exact hred)
  have hchain := ((reached_tells s).onStc fun c => { c with heldArm := false }).trans harms.tells
  rw [State.onStc_cst, hcst, hkind, hc] at hchain
  have hsteps : coachSteps ((reached (unsettled s)).onStc fun c => { c with heldArm := false }) bib = coachSteps s bib := by
    unfold coachSteps
    rw [State.onStc_stc, hstc]
  refine Happens.of_block rfl heffect (((reached_only s).mono (by simp)).trans (OnlyChanges.trans ?_ (harms.only.mono (by simp))))
    fun t ht => ?_
  · exact ⟨fun b hb => by cases b <;> simp [SameBlock] at hb ⊢, rfl, rfl⟩
  · obtain ⟨hkept, hsub, hboards, hsaid⟩ := told ht hchain (by simp)
    refine ⟨?_, ?_, ?_, hsub.trans ?_, hkept, hboards, fun hroom => hsaid (Room.fits hroom (by simp) (by simp))⟩
    · rw [ht.gate, armEffect_gate, State.onStc_gate, reached_gate, unsettled_gate]
    · rw [ht.cst, harms.cst]
      unfold armedCst
      rw [hsteps, State.onStc_cst, hcst]
    · rw [ht.stc, harms.stc]
      unfold armedStc
      rw [hsteps, State.onStc_stc, State.onStc_stc, hstc]
      rfl
    · rw [State.onStc_brd, (reached_tells s).subjects]

/-- An arrival that drops a held arm. -/
theorem arrival_drops {kind : MoveKind} (hheld : s.stc.heldArm = true)
    (hstay : s.gate.returnWaiting = false ∨ s.gate.jury = some c) (hkind : s.gate.kind = some kind)
    (hr : s.cst.rstate ≠ .opened ∨ s.cst.startList = []) : Happens .settleExpiry [.stc, .gate, .diag] s fun t =>
      t.gate = { s.gate with state := .idle, target := none, kind := none, settleTimer := none, returnWaiting := false }
        ∧ t.stc = { s.stc with heldArm := false } ∧ LinkKept s t ∧ Boards [key .gate] s t
        ∧ (Room 1 s → t.diag = s.diag ∧ Sends [.gateDone kind (some c) s.gate.jury,
            .armDropped (if s.cst.rstate = .opened then .listEmpty else .roundState)] s t) := by
  obtain ⟨-, hcst, hstc⟩ := reached_blocks s
  have heffect := (settleExpired_at_target hstate htimer hc htarget rfl).trans (arrive_of_stay hc hstay)
  rw [takeHeldArm_drops (by rw [hstc]; exact hheld) (by rw [hcst]; exact hr), hcst] at heffect
  have hchain := (reached_tells s).dropHeldArm (if s.cst.rstate = .opened then .listEmpty else .roundState)
  rw [hstc, if_pos hheld, hkind, hc] at hchain
  refine Happens.of_block rfl heffect
    (((reached_only s).mono (by simp)).trans ⟨fun b hb => by cases b <;> simp [SameBlock] at hb ⊢, by simp, by simp⟩) fun t ht => ?_
  obtain ⟨hkept, -, hboards, hsaid⟩ := told ht hchain (by simp)
  refine ⟨?_, ?_, hkept, hboards, fun hroom => hsaid (Room.fits hroom (by simp) (by simp))⟩
  · rw [ht.gate, dropHeldArm_gate, reached_gate, unsettled_gate]
  · rw [ht.stc, dropHeldArm_stc, hstc]

end Arrival

/-- Settles O39: the pulses by GATE's state, and the settle timer by where it finds the gate. -/
theorem indexPulsesCountTheGates : Obligations.IndexPulsesCountTheGates := by
  refine ⟨fun s n hline => ⟨fun hhoming => ?_, fun hrest => ?_⟩, fun s n c target hline hc htarget => ?_,
    fun s n c hline hc hstate => ⟨fun hdir hle => ?_, fun hdir hlo hhi => ?_, fun h => ?_⟩,
    fun s c target hc htarget => ⟨fun k hstate htimer heq hwaiting hheld => ?_, fun k j kind hstate htimer heq hwaiting hj hkind =>
      ⟨fun hne => ?_, fun hcj hheld => ?_⟩, fun k kind hstate htimer heq hheld hstay hkind hill =>
      ⟨fun bib rest hopen hlist hred => ?_, fun hr => ?_⟩, fun k hstate htimer hne hcorrected => ?_,
      fun k hstate htimer hne hcorrected => ?_⟩⟩
  · have heffect : indexPulse (startTx s) = pulsed n (startTx s) := by rw [indexPulse_eq hline, hhoming]
    exact Happens.of_block rfl heffect ⟨fun b hb => by cases b <;> simp [SameBlock, pulsed] at hb ⊢, by simp [pulsed],
      by simp [pulsed]⟩ fun t ht => ⟨by rw [ht.fld]; simp [pulsed, setOutside], ht.quiet (by simp [pulsed]) (by simp [pulsed])⟩
  · have heffect : indexPulse (startTx s) = count .gateStray (pulsed n (startTx s)) := by
      rw [indexPulse_eq hline]
      rcases hrest with h | h | h | h <;> rw [h]
    refine Happens.of_block rfl heffect ⟨fun b hb => by cases b <;> simp [SameBlock, pulsed] at hb ⊢, by simp [pulsed],
      by simp [pulsed]⟩ fun t ht => ?_
    obtain ⟨hkept, -, hboards, hsaid⟩ := told ht (stray_tells n s) (by simp)
    obtain ⟨hdiag, hsends⟩ := hsaid (.inl rfl)
    exact ⟨by rw [ht.fld]; simp [pulsed, setOutside], hdiag, hkept, hboards, hsends⟩
  · have hup : s.gate.state = .movingUp → indexPulse (startTx s) = pulseMoving .up (pulsed n (startTx s)) := fun h => by
      rw [indexPulse_eq hline, h]
    have hdown : s.gate.state = .movingDown → indexPulse (startTx s) = pulseMoving .down (pulsed n (startTx s)) := fun h => by
      rw [indexPulse_eq hline, h]
    exact ⟨fun h => (pulseMoving_happens (hup h) hc htarget).1, fun h => (pulseMoving_happens (hup h) hc htarget).2,
      fun h => (pulseMoving_happens (hdown h) hc htarget).1, fun h => (pulseMoving_happens (hdown h) hc htarget).2⟩
  · exact overrun_counts hline hc hstate hdir (by simp [within, stepped, hle])
  · refine overrun_counts hline hc hstate hdir ?_
    rw [within_iff]
    change 1 ≤ c - 1 ∧ c - 1 ≤ _
    omega
  · rcases h with ⟨hdir, h⟩ | ⟨hdir, h⟩
    · refine overrun_faults hline hc hstate hdir ?_
      rw [← Bool.not_eq_true, within_iff]
      change ¬(1 ≤ c + 1 ∧ c + 1 ≤ _)
      omega
    · refine overrun_faults hline hc hstate hdir ?_
      rw [← Bool.not_eq_true, within_iff]
      change ¬(1 ≤ c - 1 ∧ c - 1 ≤ _)
      omega
  · subst heq
    have h := arrival_rests hstate htimer hc htarget (.inl hwaiting) hheld
    rwa [← hwaiting] at h
  · subst heq
    exact arrival_returns hstate htimer hc htarget hwaiting hj hkind hne
  · subst heq hcj
    obtain ⟨t, hexec, honly, hgate, hkept, hboards, -⟩ := arrival_rests hstate htimer hc htarget (.inr hj) hheld
    exact ⟨t, hexec, honly, hgate, hkept, hboards⟩
  · subst heq
    exact arrival_arms hstate htimer hc htarget hheld hstay hkind hill hopen hlist hred
  · subst heq
    exact arrival_drops hstate htimer hc htarget hheld hstay hkind hr
  · exact Happens.of_block rfl (settleExpired_corrects hstate htimer hc htarget hne hcorrected)
      ⟨fun b hb => by cases b <;> simp [SameBlock] at hb ⊢, by simp, by simp⟩
      fun t ht => ⟨by rw [ht.gate]; simp, ht.quiet (by simp) (by simp)⟩
  · refine Happens.of_block rfl (settleExpired_faults hstate htimer hc htarget hne hcorrected)
      (OnlyChanges.trans ?_ ((enterFault_only _ _ _).mono (by simp))) fun t ht => ?_
    · exact ⟨fun b hb => by cases b <;> simp [SameBlock, unsettled] at hb ⊢, rfl, rfl⟩
    · exact fault_told (x := s) (ns := []) ht (by simpa using (Tells.refl (startTx s)).frame (u := unsettled s) rfl rfl rfl) rfl
        (by simp [unsettled, gateFaulted]) (by simp [unsettled])

end Sys2Proof

/-! PROOFS. The speed trap (R106, R107, R108). -/

namespace Sys2Proof

open Machine

variable {s v u w t : State} {a : Attempt} {n m interval : Nat}

/-- A fault joins the set once (R32). -/
theorem addFault_eq (n : Nat) (f : DeferredFault) (s : State) :
    addFault n f s = setAttempt n (fun a => { a with faults := joined f a.faults }) s := by
  unfold addFault joined
  congr 1
  funext a
  split <;> rfl

/-- A cell's line has gone low, and the trap has not yet taken the edge. -/
theorem cell_only (n : Nat) (s : State) : OnlyChanges [.brd, .link, .fld] s (setOutside (some n) false s) :=
  ⟨fun b hb => by cases b <;> simp [SameBlock] at hb ⊢, rfl, rfl⟩

theorem cellA_effect (hline : lineOf s .cellA = some n) : cellA (startTx s) = breakA (setOutside (some n) false (startTx s)) := by
  unfold cellA
  rw [if_pos (by simp [hasLine, hline]), startTx_lineOf, hline]

theorem cellB_effect (hline : lineOf s .cellB = some m) (interval : Nat) :
    cellB interval (startTx s) = breakB (min interval 200000) (setOutside (some m) false (startTx s)) := by
  unfold cellB
  rw [if_pos (by simp [hasLine, hline]), startTx_lineOf, hline]

theorem cellAEdge_starts (hline : lineOf s .cellA = some n) (hready : s.meas.trap = .ready) :
    Happens .cellAEdge [.fld, .meas] s fun t =>
      t.meas = { s.meas with trap := .counting, interval := 0, trapTimer := some 2000 } ∧ Quiet s t := by
  have heffect : cellA (startTx s) = (setOutside (some n) false (startTx s)).onMeas fun m =>
      { m with trap := .counting, interval := 0, trapTimer := some 2000 } := by
    rw [cellA_effect hline]; simp [breakA, hready]
  exact Happens.of_block rfl heffect ⟨fun b hb => by cases b <;> simp [SameBlock] at hb ⊢, by simp, by simp⟩
    fun t ht => ⟨by rw [ht.meas]; simp, ht.quiet (by simp) (by simp)⟩

theorem cellAEdge_ignored (hline : lineOf s .cellA = some n) (h : s.meas.trap ≠ .ready) :
    Happens .cellAEdge [.fld] s (Quiet s) := by
  have heffect : cellA (startTx s) = setOutside (some n) false (startTx s) := by
    rw [cellA_effect hline]
    cases htrap : s.meas.trap <;> simp [breakA, htrap] at h ⊢
  exact Happens.of_block rfl heffect (cell_only _ _) fun t ht => ht.quiet (by simp) (by simp)

theorem cellBEdge_ignored (hline : lineOf s .cellB = some m) (hoff : s.meas.trap = .off) :
    Happens (.cellBEdge interval) [.fld] s (Quiet s) := by
  have heffect : cellB interval (startTx s) = setOutside (some m) false (startTx s) := by
    rw [cellB_effect hline]; simp [breakB, hoff]
  exact Happens.of_block rfl heffect (cell_only _ _) fun t ht => ht.quiet (by simp) (by simp)

theorem cellBEdge_stray (hline : lineOf s .cellB = some m) (h : s.meas.trap = .ready ∨ s.meas.trap = .spent) :
    Happens (.cellBEdge interval) [.fld, .diag] s fun t =>
      t.diag = counted .cellStray s ∧ LinkKept s t ∧ Boards [] s t ∧ Sends (overflows .cellStray s) s t := by
  have heffect : cellB interval (startTx s) = count .cellStray (setOutside (some m) false (startTx s)) := by
    rw [cellB_effect hline]
    rcases h with h | h <;> simp [breakB, h]
  have hv := Given.startTx s
  have hchain := ((Tells.refl (startTx s)).frame (u := setOutside (some m) false (startTx s)) rfl rfl rfl).count (by simp) .cellStray
  rw [hv.overflows, hv.counted] at hchain
  refine Happens.of_block rfl heffect ⟨fun b hb => by cases b <;> simp [SameBlock] at hb ⊢, by simp, by simp⟩ fun t ht => ?_
  obtain ⟨hkept, -, hboards, hsaid⟩ := told ht hchain (by simp)
  obtain ⟨hdiag, hsends⟩ := hsaid (.inl rfl)
  exact ⟨hdiag, hkept, hboards, hsends⟩

/-! ## The take-off (R107) -/

/-- The record of an attempt that takes off. -/
def tookOff (clock : Nat) (speed : Option Nat) (r : Attempt) : Attempt :=
  { r with state := .flight, takeoffTime := some clock, speed := speed,
           faults := if speed.isSome then r.faults else joined .speedRange r.faults }

/-- MEAS once the interval has ended. -/
def timed (interval : Nat) (m : Meas) : Meas := { m with trap := .off, trapAttempt := none, interval, trapTimer := none }

/-- The record takes the speed, or SPEED_RANGE without one. -/
theorem tookOff_eq (n clock : Nat) (speed : Option Nat) (s : State) :
    (if speed.isSome then setAttempt n (fun r => { r with state := .flight, takeoffTime := some clock, speed := speed }) s
      else addFault n .speedRange (setAttempt n (fun r => { r with state := .flight, takeoffTime := some clock, speed := speed }) s))
      = s.onCst (changed n (tookOff clock speed)) := by
  cases speed with
  | some x => rfl
  | none =>
    rw [addFault_eq]
    exact setAttempt_onCst_changed (f := fun r => { r with state := .flight, takeoffTime := some clock, speed := none })
      (fun _ => rfl) s

theorem endInterval_eq (ha : onHill? s = some a) (interval : Nat) : endInterval interval s =
    notifyState a.number a.round a.bib (some a.state) .flight (enqueueSubject .speed a.number
      ((s.onMeas (timed interval)).onCst
        (changed a.number (tookOff s.link.clock (validSpeed s.prof.profile.hill.baseline interval))))) := by
  have hill : onHill? (s.onMeas fun m => { m with trap := .off, trapAttempt := none, interval, trapTimer := none }) = some a := ha
  unfold endInterval
  simp only [hill]
  exact congrArg (fun u => notifyState a.number a.round a.bib (some a.state) .flight (enqueueSubject .speed a.number u))
    (tookOff_eq a.number s.link.clock (validSpeed s.prof.profile.hill.baseline interval) (s.onMeas (timed interval)))

theorem cellBEdge_times (hline : lineOf s .cellB = some m) (hcounting : s.meas.trap = .counting) (ha : onHill? s = some a)
    (hmax : interval ≤ 200000) :
    Happens (.cellBEdge interval) [.fld, .cst, .meas, .diag] s fun t =>
      t.meas = { s.meas with trap := .off, trapAttempt := none, interval := interval, trapTimer := none }
      ∧ LinkKept s t ∧ Boards [key .speed] s t ∧ t.brd.subjects = { s.brd.subjects with speed := some a.number }
      ∧ (t.cst = changed a.number (tookOff s.link.clock (validSpeed s.prof.profile.hill.baseline interval)) s.cst)
      ∧ (Room 1 s → t.diag = s.diag ∧ Sends [.stateChange a.number a.round a.bib (some a.state) .flight] s t) := by
  have hv := (Given.startTx s).onFld fun f => (setOutside (some m) false (startTx s)).fld
  have hfld : setOutside (some m) false (startTx s) = (startTx s).onFld fun _ => (setOutside (some m) false (startTx s)).fld := rfl
  rw [← hfld] at hv
  have heffect : cellB interval (startTx s) = endInterval interval (setOutside (some m) false (startTx s)) := by
    rw [cellB_effect hline, min_eq_left hmax, breakB, hv.meas, hcounting]
  rw [endInterval_eq (hv.onHill.trans ha), hv.prof, hv.clock] at heffect
  have hchain := (((((Tells.refl (setOutside (some m) false (startTx s))).onMeas (timed interval)).onCst
    (changed a.number (tookOff s.link.clock (validSpeed s.prof.profile.hill.baseline interval)))).enqueueSubject
      .speed a.number).notifyState a.number a.round a.bib (some a.state) .flight)
  refine Happens.of_block rfl heffect ⟨fun b hb => by cases b <;> simp [SameBlock] at hb ⊢, by simp, by simp⟩ fun t ht => ?_
  have ht' : After s (setOutside (some m) false (startTx s)) _ t := ht.of_link rfl
  obtain ⟨hkept, hsub, hboards, hsaid⟩ := told ht' hchain hv.brd
  refine ⟨?_, hkept, hboards, by rw [hsub, hv.brd]; rfl, ?_, fun hroom => ?_⟩
  · rw [ht.meas]; simp [timed]
  · rw [ht.cst]; simp
  · rw [← hv.diag]
    exact hsaid (Room.fits hroom le_rfl hv.brd)

/-! ## No second break (R108) -/

theorem trapTimerExpiry_misses {k : Nat} (hcounting : s.meas.trap = .counting) (htimer : s.meas.trapTimer = some k)
    (ha : onHill? s = some a) :
    Happens .trapTimerExpiry [.cst, .meas] s fun t =>
      t.meas = { s.meas with trap := .spent, trapTimer := none }
      ∧ t.cst = changed a.number (fun r => { r with faults := joined .speedMissing r.faults }) s.cst ∧ Quiet s t := by
  have heffect : trapTimedOut (startTx s) =
      setAttempt a.number (fun r => { r with faults := joined .speedMissing r.faults })
        ((startTx s).onMeas fun m => { m with trap := .spent, trapTimer := none }) := by
    have hill : onHill? ((startTx s).onMeas fun m => { m with trap := .spent, trapTimer := none }) = some a :=
      (Given.startTx s).onHill.trans ha
    simp only [trapTimedOut, startTx_meas, htimer, hcounting, Option.isSome_some, and_self, if_true, faultOnHill, hill, addFault_eq]
  exact Happens.of_block rfl heffect ⟨fun b hb => by cases b <;> simp [SameBlock] at hb ⊢, by simp, by simp⟩
    fun t ht => ⟨by rw [ht.meas]; simp, by rw [ht.cst]; simp, ht.quiet (by simp) (by simp)⟩

/-- Settles O41: each edge and the timer by the trap's state, the take-off by its one change of the record. -/
theorem theSpeedTrapTimesTheTakeOff : Obligations.TheSpeedTrapTimesTheTakeOff := by
  intro s n m interval hcellA hcellB
  refine ⟨cellAEdge_starts hcellA, cellAEdge_ignored hcellA, fun a hcounting ha hmax => ?_, cellBEdge_stray hcellB,
    cellBEdge_ignored hcellB, fun k a hcounting htimer ha => trapTimerExpiry_misses hcounting htimer ha⟩
  obtain ⟨t, hexec, honly, hmeas, hkept, hboards, hsub, hcst, hsaid⟩ := cellBEdge_times hcellB hcounting ha hmax
  refine ⟨t, hexec, honly, hmeas, hkept, hboards, hsub, fun v hspeed => ?_, fun hspeed => ?_, hsaid⟩
  · rw [hcst, hspeed]; rfl
  · rw [hcst, hspeed]; rfl

end Sys2Proof

/-! PROOFS. What SCR does to an attempt's record and its competitor's: completion (R127, R128) and recomputation (R132). -/

namespace Sys2Proof.Machine

variable {s v u w : State} {a b : Attempt} {n m : Nat} {f : Attempt → Attempt} {p : Points}

/-! ## Records by number after a change -/

theorem attempt_number (ha : attempt? s n = some a) : a.number = n := by simpa using List.find?_some ha

theorem attempt_changed (hf : ∀ r, (f r).number = r.number) (hu : u.cst.attempts = (changed n f s.cst).attempts) (m : Nat) :
    attempt? u m = (attempt? s m).map fun r => if r.number = n then f r else r := by
  have hnumber : (fun r : Attempt => r.number == m) ∘ (fun r => if r.number = n then f r else r) = fun r => r.number == m := by
    funext r
    by_cases h : r.number = n <;> simp [h, hf]
  rw [attempt?, hu, changed, List.find?_map, hnumber]
  rfl

theorem attempt_changed_same (hf : ∀ r, (f r).number = r.number) (hu : u.cst.attempts = (changed n f s.cst).attempts)
    (ha : attempt? s n = some a) : attempt? u n = some (f a) := by
  rw [attempt_changed hf hu, ha, Option.map_some, if_pos (attempt_number ha)]

theorem attempt_changed_other (hf : ∀ r, (f r).number = r.number) (hu : u.cst.attempts = (changed n f s.cst).attempts)
    (hm : m ≠ n) : attempt? u m = attempt? s m := by
  rw [attempt_changed hf hu]
  cases h : attempt? s m with
  | none => rfl
  | some r => rw [Option.map_some, if_neg (by rw [attempt_number h]; exact hm)]

theorem numbers_changed (hf : ∀ r, (f r).number = r.number) (hu : u.cst.attempts = (changed n f s.cst).attempts) :
    u.cst.attempts.map Attempt.number = s.cst.attempts.map Attempt.number := by
  rw [hu, changed, List.map_map]
  refine List.map_congr_left fun r _ => ?_
  by_cases h : r.number = n <;> simp [h, hf]

/-! ## A re-ranking without a change (R134, R135) -/

theorem ranksBefore_antisymm {c d : Competitor} (hcd : ranksBefore c d = true) (hdc : ranksBefore d c = true) : False := by
  unfold ranksBefore at hcd hdc
  cases hc : c.disqualified <;> cases hd : d.disqualified <;> simp_all <;> omega

/-- One list alone ranks a directory. -/
theorem Ranks.unique {dir : List Competitor} {r r' : List Nat} (h : Ranks dir r) (h' : Ranks dir r') : r = r' := by
  have hperm : r.Perm r' := (List.perm_ext_iff_of_nodup h.nodup h'.nodup).mpr fun b => (h.mem b).trans (h'.mem b).symm
  refine hperm.eq_of_pairwise (fun x y hx hy hxy hyx => ?_) h.sorted h'.sorted
  obtain ⟨c, hc, -⟩ := (h.mem x).mp hx
  obtain ⟨d, hd, -⟩ := (h.mem y).mp (hperm.mem_iff.mpr hy)
  exact (ranksBefore_antisymm (hxy c d hc hd) (hyx d c hd hc)).elim

theorem Ranks.reRanked_same {dir : List Competitor} {r : List Nat} (h : Ranks dir r) (bib : Nat) : Machine.reRanked dir bib r = r := by
  have hr := h.reRanked bib (g := id) fun _ => rfl
  simp only [id, ite_self, List.map_id'] at hr
  exact hr.unique h

/-! ## Completion (R128) -/

/-- A competitor's record with the total of a round. -/
def withTotal (round : Nat) (v : Option Nat) (c : Competitor) : Competitor := { c with totals := c.totals.set (round - 1) v }

/-- The records once the attempt's own has changed and its competitor holds the total. -/
def scoredCst (a : Attempt) (f : Attempt → Attempt) (p : Points) (c : Cst) : Cst :=
  directoryWith a.bib (withTotal a.round (some p.total)) (changed a.number f c)

/-- An attempt's record with its points. -/
def withPoints (p : Points) (r : Attempt) : Attempt := { r with points := some p }

/-- The record of an attempt that completes. -/
def completedWith (p : Points) (r : Attempt) : Attempt := { r with points := some p, state := .complete }

/-- The keys of an attempt that has its points. -/
def pointsKeys (v u : State) : List Key := [key .points, key .rank] ++ changedLines (topTen v) (topTen u)

/-- The ATTEMPT_COMPLETE notice by the directory and the ranking as they stand. -/
def completeNotice (recomputed : Bool) (a : Attempt) (p : Points) (u : State) : NoticeBody :=
  .attemptComplete recomputed a.number a.round a.bib a.distance p
    (((findBib u.cst.directory a.bib).map rankingTotal).getD 0)
    ((findBib u.cst.directory a.bib).bind fun c => rankOf u.cst.directory u.scr.ranking c)

/-- An attempt has its points: SCR's own part of a completion and of a recompute, from `v` to `u`. -/
structure Pointed (recomputed : Bool) (a : Attempt) (p : Points) (v u : State) : Prop where
  only : OnlyChanges [.brd, .link, .cst, .scr, .diag] v u
  tells : Tells v (pointsKeys v u) [completeNotice recomputed a p u] v.diag
    { v.brd.subjects with points := some a.number, rank := some a.bib } u

/-- The announcement of an attempt's points. -/
theorem announce_pointed (recomputed : Bool) (a : Attempt) (p : Points) (honly : OnlyChanges [.cst, .scr] v w) :
    Pointed recomputed a p v
      (notifyComplete recomputed a p (announceRanking (topTen v) (some a.bib) (enqueueSubject .points a.number w))) := by
  have hbrd : w.brd = v.brd := honly.1 .brd (by simp)
  have hlink : w.link = v.link := honly.1 .link (by simp)
  have hdiag : w.diag = v.diag := honly.1 .diag (by simp)
  have hchain := ((((Tells.refl v).frame hbrd hlink hdiag).enqueueSubject .points a.number).announceRanking_some (topTen v)
    a.bib).notify (completeNotice recomputed a p w)
  have htop : topTen (enqueueSubject .points a.number w) = topTen w := topTen_congr (by simp) (by simp)
  have hnotice : ∀ x : State, x.cst = w.cst → x.scr = w.scr →
      completeNotice recomputed a p x = completeNotice recomputed a p w := fun x hcst hscr => by
    unfold completeNotice; rw [hcst, hscr]
  have hkeys : ∀ x : State, x.cst = w.cst → x.scr = w.scr → pointsKeys v x = pointsKeys v w := fun x hcst hscr => by
    unfold pointsKeys; rw [topTen_congr (u := x) (s := w) (by rw [hcst]) (by rw [hscr])]
  refine ⟨(honly.mono (by simp)).trans ⟨fun b hb => by cases b <;> simp [SameBlock] at hb ⊢, by simp, by simp⟩, ?_⟩
  rw [hkeys _ (by simp) (by simp), hnotice _ (by simp) (by simp)]
  rw [htop] at hchain
  have hsaid : notifyComplete recomputed a p (announceRanking (topTen v) (some a.bib) (enqueueSubject .points a.number w)) =
      notify (completeNotice recomputed a p w) (announceRanking (topTen v) (some a.bib) (enqueueSubject .points a.number w)) := by
    rw [← hnotice (announceRanking (topTen v) (some a.bib) (enqueueSubject .points a.number w)) (by simp) (by simp)]
    rfl
  rw [hsaid]
  exact hchain

/-- Operations on CST and SCR between the change and its announcement. -/
theorem rescore_only (n bib round : Nat) (f : Attempt → Attempt) (v : Option Nat) (s : State) :
    OnlyChanges [.cst, .scr] s (reRank bib (setTotal bib round v (setAttempt n f s))) :=
  ⟨fun b hb => by cases b <;> simp [SameBlock] at hb ⊢, by simp, by simp⟩

theorem Pointed.onCst {recomputed : Bool} (h : Pointed recomputed a p v u) (g : Cst → Cst)
    (hdir : (g u.cst).directory = u.cst.directory) : Pointed recomputed a p v (u.onCst g) where
  only := h.only.trans ⟨fun b hb => by cases b <;> simp [SameBlock] at hb ⊢, rfl, rfl⟩
  tells := by
    have htop : topTen (u.onCst g) = topTen u := topTen_congr hdir rfl
    have hkeys : pointsKeys v (u.onCst g) = pointsKeys v u := by unfold pointsKeys; rw [htop]
    have hnotice : completeNotice recomputed a p (u.onCst g) = completeNotice recomputed a p u := by
      simp only [completeNotice, State.onCst_cst, State.onCst_scr, hdir]
    rw [hkeys, hnotice]
    exact h.tells.onCst g

theorem completeAttempt_pointed (a : Attempt) (v : State) : Pointed false a (pointsNow v a) v (completeAttempt a v) := by
  unfold completeAttempt
  rw [endCheck_eq]
  exact (announce_pointed false a _ (rescore_only a.number a.bib a.round _ _ v)).onCst _ rfl

theorem completeAttempt_cst (a : Attempt) (v : State) : (completeAttempt a v).cst =
    { scoredCst a (completedWith (pointsNow v a)) (pointsNow v a) v.cst with
      rstate := endChecked (scoredCst a (completedWith (pointsNow v a)) (pointsNow v a) v.cst) } := by
  unfold completeAttempt
  rw [endCheck_cst, notifyComplete_cst, announceRanking_cst, enqueueSubject_cst]
  rfl

theorem completeAttempt_scr (a : Attempt) (v : State) : (completeAttempt a v).scr =
    { v.scr with ranking := reRanked (completeAttempt a v).cst.directory a.bib v.scr.ranking } := by
  rw [completeAttempt_cst]
  unfold completeAttempt
  rw [endCheck_eq, State.onCst_scr, notifyComplete_scr, announceRanking_scr, enqueueSubject_scr]
  rfl

theorem checkCompletion_of_settled (ha : attempt? s n = some a) (hstate : a.state = .scoring) (hsettled : settled a = true) :
    checkCompletion n s = completeAttempt a s := by
  simp only [checkCompletion, ha, hstate, hsettled, and_self, if_true]

theorem checkCompletion_of_not (ha : attempt? s n = some a) (h : a.state ≠ .scoring ∨ settled a = false) :
    checkCompletion n s = s := by
  have hnot : ¬(a.state = .scoring ∧ settled a = true) := fun ⟨hstate, hsettled⟩ => by
    rcases h with h | h
    · exact h hstate
    · rw [hsettled] at h; cases h
  simp only [checkCompletion, ha, if_neg hnot]

/-! ## Recomputation (R132) -/

/-- The competitor's record already holds the total. -/
def holdsTotal (a : Attempt) (p : Points) (s : State) : Bool := slotTotal s a.bib a.round == some p.total

/-- The state after the points and the total are written. -/
def repointed (a : Attempt) (p : Points) (s : State) : State :=
  if holdsTotal a p s then setAttempt a.number (withPoints p) s
  else reRank a.bib (setTotal a.bib a.round (some p.total) (setAttempt a.number (withPoints p) s))

theorem recompute_eq (ha : attempt? s n = some a) : recompute n s =
    if a.points = some (pointsNow s a) then repointed a (pointsNow s a) s
    else notifyComplete true a (pointsNow s a) (announceRanking (topTen s) (some a.bib)
      (enqueueSubject .points a.number (repointed a (pointsNow s a) s))) := by
  have hn := attempt_number ha
  subst hn
  have hslot : slotTotal (setAttempt a.number (withPoints (pointsNow s a)) s) a.bib a.round = slotTotal s a.bib a.round := rfl
  unfold recompute repointed holdsTotal
  simp only [ha, ← hslot, beq_iff_eq, ne_eq, ite_not]
  rfl

theorem repointed_only (a : Attempt) (p : Points) (s : State) : OnlyChanges [.cst, .scr] s (repointed a p s) := by
  unfold repointed
  split
  · exact ⟨fun b hb => by cases b <;> simp [SameBlock] at hb ⊢, by simp, by simp⟩
  · exact rescore_only _ _ _ _ _ _

theorem recompute_pointed (ha : attempt? s n = some a) (h : a.points ≠ some (pointsNow s a)) :
    Pointed true a (pointsNow s a) s (recompute n s) := by
  rw [recompute_eq ha, if_neg h]
  exact announce_pointed true a _ (repointed_only a _ s)

theorem recompute_cst (ha : attempt? s n = some a) : (recompute n s).cst = (repointed a (pointsNow s a) s).cst := by
  rw [recompute_eq ha]
  split
  · rfl
  · rw [notifyComplete_cst, announceRanking_cst, enqueueSubject_cst]

theorem recompute_scr (ha : attempt? s n = some a) : (recompute n s).scr = (repointed a (pointsNow s a) s).scr := by
  rw [recompute_eq ha]
  split
  · rfl
  · rw [notifyComplete_scr, announceRanking_scr, enqueueSubject_scr]

theorem findBib_withTotal {dir : List Competitor} {c : Competitor} {bib : Nat} (hc : findBib dir bib = some c) (round : Nat)
    (x : Option Nat) : findBib (dir.map fun c => if c.bib = bib then withTotal round x c else c) bib = some (withTotal round x c) := by
  rw [findBib_map (fun c => by split <;> rfl), hc, Option.map_some, if_pos (findBib_mem hc).2]

/-- A total that stands is written again without a change. -/
theorem withTotal_of_holds {c : Competitor} (hc : findBib s.cst.directory a.bib = some c) (h : holdsTotal a p s = true) :
    withTotal a.round (some p.total) c = c := by
  have hslot : (c.totals[a.round - 1]?).join = some p.total := by
    have hcomp : competitor? s a.bib = some c := hc
    simpa [holdsTotal, slotTotal, hcomp] using h
  have hget : c.totals[a.round - 1]? = some (some p.total) := Option.join_eq_some_iff.mp hslot
  have hset : c.totals.set (a.round - 1) (some p.total) = c.totals := by
    obtain ⟨hlt, hget⟩ := List.getElem?_eq_some_iff.mp hget
    rw [← hget, List.set_getElem_self]
  unfold withTotal
  rw [hset]

theorem findBib_repointed {c : Competitor} (hc : findBib s.cst.directory a.bib = some c) :
    findBib (repointed a p s).cst.directory a.bib = some (withTotal a.round (some p.total) c) := by
  unfold repointed
  split
  next h => rw [withTotal_of_holds hc h]; exact hc
  next h => exact findBib_withTotal hc _ _

theorem repointed_attempts (a : Attempt) (p : Points) (s : State) :
    (repointed a p s).cst.attempts = (changed a.number (withPoints p) s.cst).attempts := by
  unfold repointed; split <;> rfl

theorem repointed_round (a : Attempt) (p : Points) (s : State) : (repointed a p s).cst.rstate = s.cst.rstate
    ∧ (repointed a p s).cst.startList = s.cst.startList ∧ (repointed a p s).cst.round = s.cst.round := by
  unfold repointed; split <;> exact ⟨rfl, rfl, rfl⟩

end Sys2Proof.Machine

/-! PROOFS. A settled attempt completes, and a complete one is recomputed (R127, R128, R132). -/

namespace Sys2Proof

open Machine

variable {s u : State} {a : Attempt} {c : Competitor} {p : Points} {recomputed : Bool}

/-- Nothing more is to come in the open round once the attempt is complete (R18). -/
def LastOfRound (a : Attempt) (s : State) : Prop :=
  s.cst.rstate = .opened ∧ s.cst.startList = [] ∧ ∀ x ∈ s.cst.attempts, x.round = s.cst.round →
    x.number ≠ a.number → x.state.onHill = false ∧ x.state ≠ .scoring

theorem endChecked_of_last (h : LastOfRound a s) : endChecked (scoredCst a (completedWith p) p s.cst) = .ended := by
  obtain ⟨hopen, hlist, hothers⟩ := h
  refine endChecked_of_clear hopen hlist fun x hx hround => ?_
  obtain ⟨y, hy, rfl⟩ := List.mem_map.mp hx
  by_cases hn : y.number = a.number
  · rw [if_pos hn]
    exact ⟨rfl, fun h => nomatch h⟩
  · rw [if_neg hn] at hround ⊢
    exact hothers y hy hround hn

theorem endChecked_of_more (h : ¬LastOfRound a s) : endChecked (scoredCst a (completedWith p) p s.cst) = s.cst.rstate := by
  by_cases hopen : s.cst.rstate = .opened
  · by_cases hlist : s.cst.startList = []
    · have hother : ∃ x ∈ s.cst.attempts, x.round = s.cst.round ∧ x.number ≠ a.number
          ∧ (x.state.onHill = true ∨ x.state = .scoring) := by
        by_contra hnone
        refine h ⟨hopen, hlist, fun x hx hround hn => ?_⟩
        have hx' := fun hbusy => hnone ⟨x, hx, hround, hn, hbusy⟩
        exact ⟨Bool.eq_false_iff.mpr fun hon => hx' (.inl hon), fun hscoring => hx' (.inr hscoring)⟩
      obtain ⟨x, hx, hround, hn, hbusy⟩ := hother
      exact endChecked_of_busy (a := x) (List.mem_map.mpr ⟨x, hx, if_neg hn⟩) hround hbusy
    · exact endChecked_of_list hlist
  · exact endChecked_of_not_open hopen

/-! ## What an attempt with its points tells (R128, R132) -/

theorem Pointed.notice (hc : findBib u.cst.directory a.bib = some c) : completeNotice recomputed a p u =
    .attemptComplete recomputed a.number a.round a.bib a.distance p (rankingTotal c) (rankOf u.cst.directory u.scr.ranking c) := by
  simp only [completeNotice, hc, Option.map_some, Option.getD_some, Option.bind_some]

theorem pointsKeys_length_le (s u : State) : (pointsKeys s u).length ≤ 12 := by
  have := changedLines_length_le s (topTen u)
  simp only [pointsKeys, List.length_append, List.length_cons, List.length_nil]
  omega

theorem Machine.Pointed.said (h : Pointed recomputed a p s u) (hc : findBib u.cst.directory a.bib = some c) (hroom : Room 12 s) :
    u.diag = s.diag ∧ u.link = queueNotice (.attemptComplete recomputed a.number a.round a.bib a.distance p
      (rankingTotal c) (rankOf u.cst.directory u.scr.ranking c)) s.link := by
  obtain ⟨hlink, hdiag⟩ := h.tells.said (Room.fits hroom (pointsKeys_length_le s u) rfl)
  rw [Pointed.notice hc] at hlink
  exact ⟨hdiag, hlink⟩

/-! ## Completion (R128) -/

theorem completeAttempt_record (ha : attempt? s a.number = some a) :
    attempt? (completeAttempt a s) a.number = some (completedWith (pointsNow s a) a) :=
  attempt_changed_same (f := completedWith (pointsNow s a)) (fun _ => rfl) (by rw [completeAttempt_cst]; rfl) ha

theorem completeAttempt_competitor (hc : findBib s.cst.directory a.bib = some c) :
    findBib (completeAttempt a s).cst.directory a.bib = some (withTotal a.round (some (pointsNow s a).total) c) := by
  rw [completeAttempt_cst]
  exact findBib_withTotal hc a.round (some (pointsNow s a).total)

theorem recompute_competitor (ha : attempt? s a.number = some a) (hc : findBib s.cst.directory a.bib = some c) :
    findBib (recompute a.number s).cst.directory a.bib = some (withTotal a.round (some (pointsNow s a).total) c) := by
  rw [recompute_cst ha]
  exact findBib_repointed hc

/-! ## The points (R127, R130, R131) -/

theorem settled_iff (a : Attempt) : settled a = true ↔
    (a.distanceStatus = .agreed ∨ a.distanceStatus = .single ∨ a.distanceStatus = .jury)
    ∧ (a.style = .full ∨ a.style = .closed4) ∧ (a.windStatus = some .computed ∨ a.windStatus = some .jury) := by
  simp only [settled, Bool.and_eq_true, Bool.or_eq_true, beq_iff_eq, or_assoc, and_assoc]

theorem gatePoints_of_gates {h : HillSection} {r j g d : Nat} (hj : a.juryGate = some j) (hg : a.attemptGate = some g) :
    gatePoints h (some r) a d = (h.gf : Int) * ((r : Int) - j) +
      (if a.coach.isSome ∧ h.ch ≤ d then (h.gf : Int) * ((j : Int) - g) else 0) := by
  cases hcoach : a.coach <;> simp [gatePoints, hj, hg, hcoach]

theorem clampTotal_spec (sum : Int) : clampTotal sum ≤ 99999 ∧ (0 ≤ sum → sum ≤ 99999 → (clampTotal sum : Int) = sum)
    ∧ (sum < 0 → clampTotal sum = 0) ∧ (99999 < sum → clampTotal sum = 99999) := by
  unfold clampTotal
  refine ⟨?_, ?_, ?_, ?_⟩ <;> omega

/-- Settles O48: the completion's and the recompute's parts, each read off the chain of operations, and the arithmetic. -/
theorem aSettledAttemptCompletes : Obligations.ASettledAttemptCompletes := by
  refine ⟨fun s a ha => ⟨fun hstate hsettled => ?_, checkCompletion_of_not ha⟩, settled_iff,
    fun s a c _ ha _ hc => ?_, fun h a r j g d => gatePoints_of_gates, fun h reference a => ⟨fun d w hd hw => ?_, clampTotal_spec _⟩⟩
  · rw [checkCompletion_of_settled ha hstate hsettled]
    have hpointed := completeAttempt_pointed a s
    refine ⟨completeAttempt_record ha, fun c hc => completeAttempt_competitor hc, by rw [completeAttempt_scr],
      hpointed.tells.queue, hpointed.tells.subjects, fun hends => ?_, fun hmore => ?_, by rw [completeAttempt_cst]; rfl,
      fun c hc hroom => hpointed.said (completeAttempt_competitor hc) hroom⟩
    · rw [completeAttempt_cst]
      exact endChecked_of_last hends
    · rw [completeAttempt_cst]
      exact endChecked_of_more hmore
  · obtain ⟨hrstate, hlist, -⟩ := repointed_round a (pointsNow s a) s
    refine ⟨attempt_changed_same (f := withPoints (pointsNow s a)) (fun _ => rfl) (by rw [recompute_cst ha, repointed_attempts]) ha,
      recompute_competitor ha hc, by rw [recompute_cst ha, hrstate], by rw [recompute_cst ha, hlist], fun hsame => ?_,
      fun hchange => ?_⟩
    · have honly := repointed_only a (pointsNow s a) s
      have hsame : a.points = some (pointsNow s a) := hsame
      rw [recompute_eq ha, if_pos hsame]
      exact ⟨honly.1 .brd (by simp), honly.1 .link (by simp)⟩
    · have hpointed := recompute_pointed ha hchange
      exact ⟨hpointed.tells.queue, hpointed.tells.subjects,
        fun hroom => (hpointed.said (recompute_competitor ha hc) hroom).2⟩
  · simp only [computePoints, hd, hw, Option.getD_some, and_self]

end Sys2Proof

/-! PROOFS. An input to an attempt's scoring and what SCR does after it: its effect on the records, and what the board and LINK are
told (R116, R119, R127, R128, R132). -/

namespace Sys2Proof

open Machine

variable {s t u v w : State} {a b r : Attempt} {f : Attempt → Attempt} {ks : List Key} {ns : List NoticeBody} {base : Subjects}

/-! ## The follow-up -/

/-- SCR's work after an input: nothing, a completion or a recompute. `b` is the attempt's record before it and `r` after it. -/
inductive Followed (b : Attempt) (w : State) : Attempt → State → Prop
  | idle : Followed b w b w
  | completes (hstate : b.state = .scoring) (hsettled : settled b = true) : Followed b w (completedWith (pointsNow w b) b) (completeAttempt b w)
  | recomputes (hstate : b.state = .complete) : Followed b w (withPoints (pointsNow w b) b) (recompute b.number w)

theorem Followed.check (hb : attempt? w b.number = some b) : ∃ r, Followed b w r (checkCompletion b.number w) := by
  by_cases h : b.state = .scoring ∧ settled b = true
  · rw [checkCompletion_of_settled hb h.1 h.2]
    exact ⟨_, .completes h.1 h.2⟩
  · rw [checkCompletion_of_not hb (by rw [not_and_or] at h; simpa using h)]
    exact ⟨b, .idle⟩

theorem afterInput_of_complete (hb : attempt? w b.number = some b) (h : b.state = .complete) :
    afterInput b.number w = recompute b.number w := by
  simp only [afterInput, hb, h]

theorem afterInput_of_not (hb : attempt? w b.number = some b) (h : b.state ≠ .complete) :
    afterInput b.number w = checkCompletion b.number w := by
  by_cases hscoring : b.state = .scoring
  · simp only [afterInput, hb, hscoring]
  · rw [checkCompletion_of_not hb (.inl hscoring)]
    cases hstate : b.state <;> simp [afterInput, hb, hstate] at h hscoring ⊢

theorem afterInput_of_idle (hb : attempt? w b.number = some b) (hscoring : b.state ≠ .scoring) (hcomplete : b.state ≠ .complete) :
    afterInput b.number w = w := by
  rw [afterInput_of_not hb hcomplete, checkCompletion_of_not hb (.inl hscoring)]

theorem Followed.afterInput (hb : attempt? w b.number = some b) : ∃ r, Followed b w r (afterInput b.number w) := by
  by_cases h : b.state = .complete
  · rw [afterInput_of_complete hb h]
    exact ⟨_, .recomputes h⟩
  · rw [afterInput_of_not hb h]
    exact Followed.check hb

/-- The record changes in its points and its state only. -/
theorem Followed.record (h : Followed b w r u) : r = { b with points := r.points, state := r.state } := by
  cases h <;> rfl

theorem Followed.attempts (h : Followed b w r u) (hb : attempt? w b.number = some b) : ∃ g : Attempt → Attempt,
    (∀ x, (g x).number = x.number) ∧ u.cst.attempts = (changed b.number g w.cst).attempts ∧ g b = r := by
  cases h with
  | idle => exact ⟨id, fun _ => rfl, by simp [changed], rfl⟩
  | completes _ _ => exact ⟨completedWith _, fun _ => rfl, by rw [completeAttempt_cst]; rfl, rfl⟩
  | recomputes _ => exact ⟨withPoints _, fun _ => rfl, by rw [recompute_cst hb, repointed_attempts], rfl⟩

theorem Followed.only (h : Followed b w r u) (hb : attempt? w b.number = some b) :
    OnlyChanges [.brd, .link, .cst, .scr, .diag] w u := by
  cases h with
  | idle => exact .refl _ _
  | completes _ _ => exact (completeAttempt_pointed b w).only
  | recomputes _ =>
    rw [recompute_eq hb]
    split
    · exact (repointed_only b _ w).mono (by simp)
    · exact (announce_pointed true b _ (repointed_only b _ w)).only

theorem Followed.round (h : Followed b w r u) (hb : attempt? w b.number = some b) :
    u.cst.round = w.cst.round ∧ u.cst.startList = w.cst.startList ∧ (w.cst.startList ≠ [] → u.cst.rstate = w.cst.rstate) := by
  cases h with
  | idle => exact ⟨rfl, rfl, fun _ => rfl⟩
  | completes _ _ =>
    rw [completeAttempt_cst]
    exact ⟨rfl, rfl, fun hlist => endChecked_of_list hlist⟩
  | recomputes _ =>
    obtain ⟨hrstate, hlist, hround⟩ := repointed_round b (pointsNow w b) w
    rw [recompute_cst hb]
    exact ⟨hround, hlist, fun _ => hrstate⟩

/-- The attempt has its points by the follow-up. -/
theorem scoredNotices_of_rescored {p : Points} {recomputed : Bool} (hr : r = completedWith p b)
    (hstate : (b.state == .complete) = recomputed) (hrescored : rescored b r = true) (u : State) :
    scoredNotices b r u = [completeNotice recomputed b p u] := by
  rw [scoredNotices, if_pos hrescored, hstate, hr]
  rfl

theorem Followed.tells (h : Followed b w r u) (hb : attempt? w b.number = some b) :
    Tells w (if rescored b r then pointsKeys w u else []) (scoredNotices b r u) w.diag
      { w.brd.subjects with points := if rescored b r then some b.number else w.brd.subjects.points,
                            rank := if rescored b r then some b.bib else w.brd.subjects.rank } u := by
  cases h with
  | idle =>
    have hnot : rescored b b = false := by simp [rescored]
    simp only [scoredNotices, hnot, Bool.false_eq_true, if_false]
    exact Tells.refl _
  | completes hstate _ =>
    have hyes : rescored b (completedWith (pointsNow w b) b) = true := by simp [rescored, completedWith, hstate]
    have htells := (completeAttempt_pointed b w).tells
    rw [scoredNotices_of_rescored (recomputed := false) rfl (by rw [hstate]; rfl) hyes]
    simpa only [hyes, if_true] using htells
  | recomputes hstate =>
    by_cases hpoints : b.points = some (pointsNow w b)
    · have hnot : rescored b (withPoints (pointsNow w b) b) = false := by simp [rescored, withPoints, hstate, hpoints]
      have honly := repointed_only b (pointsNow w b) w
      simp only [scoredNotices, hnot, Bool.false_eq_true, if_false]
      rw [recompute_eq hb, if_pos hpoints]
      exact (Tells.refl w).frame (honly.1 .brd (by simp)) (honly.1 .link (by simp)) (honly.1 .diag (by simp))
    · have hyes : rescored b (withPoints (pointsNow w b) b) = true := by simp [rescored, withPoints, hstate, hpoints]
      have htells := (recompute_pointed hb hpoints).tells
      rw [scoredNotices_of_rescored (recomputed := true) (p := pointsNow w b) (by unfold withPoints completedWith; rw [hstate])
        (by rw [hstate]; rfl) hyes]
      simpa only [hyes, if_true] using htells

/-! ## The records after it (R128, R132) -/

theorem Followed.onlyAttempt (h : Followed b w r u) (hb : attempt? w b.number = some b) : OnlyAttempt b.number w u := by
  obtain ⟨g, hg, hu, -⟩ := h.attempts hb
  obtain ⟨hround, hlist, -⟩ := h.round hb
  exact ⟨hround, hlist, numbers_changed hg hu, fun m hm => attempt_changed_other hg hu hm⟩

theorem Followed.attempt (h : Followed b w r u) (hb : attempt? w b.number = some b) : attempt? u b.number = some r := by
  obtain ⟨g, hg, hu, rfl⟩ := h.attempts hb
  exact attempt_changed_same hg hu hb

theorem Followed.scored (h : Followed b w r u) (hb : attempt? w b.number = some b) (hstate : b.state ≠ .complete) :
    Scored b w u := by
  refine ⟨h.onlyAttempt hb, (h.round hb).2.2, fun x hx => ?_⟩
  rw [h.attempt hb, Option.some.injEq] at hx
  subst hx
  cases h with
  | idle => exact ⟨fun _ => ⟨rfl, rfl, rfl⟩, fun hc => absurd hc hstate⟩
  | completes _ _ =>
    refine ⟨fun hc => (nomatch hc), fun _ => ⟨rfl, ?_, by rw [completeAttempt_scr]⟩⟩
    rw [completeAttempt_cst]
    rfl
  | recomputes hc => exact absurd hc hstate

/-- Where the competitor holds the total, the records are what they would be with the total written and the competitor re-ranked. -/
theorem repointed_ranked (hok : RankingOk w) {p : Points} :
    (repointed b p w).cst.directory =
        w.cst.directory.map (fun c => if c.bib = b.bib then withTotal b.round (some p.total) c else c)
      ∧ (repointed b p w).scr.ranking = reRanked (repointed b p w).cst.directory b.bib w.scr.ranking := by
  unfold repointed
  split
  next hholds =>
    obtain ⟨honce, hranks⟩ := (rankingOk_iff w).mp hok
    refine ⟨(List.map_id' _).symm.trans (List.map_congr_left fun c hc => ?_), (hranks.reRanked_same b.bib).symm⟩
    split
    next hbib => exact (withTotal_of_holds ((findBib_eq_some_iff honce).mpr ⟨hc, hbib⟩) hholds).symm
    next => rfl
  next => exact ⟨rfl, rfl⟩

theorem recompute_scored (hok : RankingOk w) (hb : attempt? w b.number = some b) (hstate : b.state = .complete) :
    Scored b w (recompute b.number w) := by
  have h : Followed b w _ (recompute b.number w) := .recomputes hstate
  refine ⟨h.onlyAttempt hb, (h.round hb).2.2, fun x hx => ?_⟩
  rw [h.attempt hb, Option.some.injEq] at hx
  subst hx
  refine ⟨fun hc => absurd (hstate.symm.trans hc) (by decide), fun _ => ⟨rfl, ?_⟩⟩
  rw [recompute_cst hb, recompute_scr hb]
  exact repointed_ranked hok

theorem afterInput_scored (hok : RankingOk w) (hb : attempt? w b.number = some b) : Scored b w (afterInput b.number w) := by
  by_cases h : b.state = .complete
  · rw [afterInput_of_complete hb h]
    exact recompute_scored hok hb h
  · obtain ⟨r, hfollowed⟩ := Followed.afterInput hb
    exact hfollowed.scored hb h

/-! ## The input before it -/

/-- From the state `v` that a block was given to the state `w` that SCR's follow-up is done in, the attempt's record has taken an
input `f`; the keys `ks`, DISTANCE where the distance has changed, and the notices `ns` have been told. -/
structure Input (a : Attempt) (f : Attempt → Attempt) (ks : List Key) (ns : List NoticeBody) (base : Subjects) (v w : State) :
    Prop where
  keeps : ∀ x, (f x).number = x.number ∧ (f x).round = x.round ∧ (f x).bib = x.bib ∧ (f x).points = x.points
  complete : (f a).state = .complete ↔ a.state = .complete
  cst : w.cst = changed a.number f v.cst
  scr : w.scr = v.scr
  prof : w.prof = v.prof
  reference : w.gate.reference = v.gate.reference
  tells : Tells v (ks ++ if a.distance = (f a).distance then [] else [key .distance]) ns v.diag
    { base with distance := if a.distance = (f a).distance then base.distance else some a.number } w

namespace Input

/-- An input that leaves the distance. -/
theorem of_distance_kept (hf : ∀ x, (f x).number = x.number ∧ (f x).round = x.round ∧ (f x).bib = x.bib ∧ (f x).points = x.points)
    (hstate : (f a).state = .complete ↔ a.state = .complete) (hdistance : (f a).distance = a.distance)
    (hcst : w.cst = changed a.number f v.cst) (hscr : w.scr = v.scr) (hprof : w.prof = v.prof)
    (hreference : w.gate.reference = v.gate.reference) (htells : Tells v ks ns v.diag base w) : Input a f ks ns base v w := by
  refine ⟨hf, hstate, hcst, hscr, hprof, hreference, ?_⟩
  rw [if_pos hdistance.symm, if_pos hdistance.symm, List.append_nil]
  exact htells

/-- An input whose distance is announced where it has changed (R116, R119). -/
theorem of_announced (hf : ∀ x, (f x).number = x.number ∧ (f x).round = x.round ∧ (f x).bib = x.bib ∧ (f x).points = x.points)
    (hstate : (f a).state = .complete ↔ a.state = .complete) (hcst : w.cst = changed a.number f v.cst) (hscr : w.scr = v.scr)
    (hprof : w.prof = v.prof) (hreference : w.gate.reference = v.gate.reference) (htells : Tells v ks ns v.diag base w) :
    Input a f ks ns base v (announceDistance a.number a.distance (f a).distance w) := by
  by_cases h : a.distance = (f a).distance
  · rw [announceDistance, if_pos h]
    exact of_distance_kept hf hstate h.symm hcst hscr hprof hreference htells
  · rw [announceDistance, if_neg h]
    refine ⟨hf, hstate, by simpa using hcst, by simpa using hscr, by simpa using hprof, by simpa using hreference, ?_⟩
    rw [if_neg h, if_neg h]
    exact htells.enqueueSubject .distance a.number

theorem attempt (h : Input a f ks ns base v w) (ha : attempt? v a.number = some a) : attempt? w (f a).number = some (f a) := by
  rw [(h.keeps a).1]
  exact attempt_changed_same (fun x => (h.keeps x).1) (by rw [h.cst]) ha

theorem rescored (h : Input a f ks ns base v w) (r : Attempt) : rescored (f a) r = rescored a r := by
  obtain ⟨-, -, -, hpoints⟩ := h.keeps a
  have hstate : ((f a).state != .complete) = (a.state != .complete) := by
    by_cases hc : a.state = .complete
    · rw [h.complete.mpr hc, hc]
    · rw [bne_iff_ne.mpr hc, bne_iff_ne.mpr fun hf => hc (h.complete.mp hf)]
  rw [Sys2Proof.rescored, Sys2Proof.rescored, hstate, hpoints]

theorem scoredNotices (h : Input a f ks ns base v w) (r : Attempt) (t : State) : scoredNotices (f a) r t = scoredNotices a r t := by
  have hstate : ((f a).state == .complete) = (a.state == .complete) := by
    by_cases hc : a.state = .complete
    · rw [h.complete.mpr hc, hc]
    · rw [beq_eq_false_iff_ne.mpr hc, beq_eq_false_iff_ne.mpr fun hf => hc (h.complete.mp hf)]
  rw [Sys2Proof.scoredNotices, Sys2Proof.scoredNotices, h.rescored, hstate]

/-- What the input and its follow-up tell together. -/
theorem announces (h : Input a f ks ns base v w) (ha : attempt? v a.number = some a) (hu : Followed (f a) w r u)
    (ht : After s v u t) (hv : Given s v) (hlen : ks.length ≤ 3) :
    attempt? t a.number = some r ∧ Announces ks ns a r s t ∧ t.brd.subjects = scoredSubjects a r base ∧ LinkKept s t := by
  have hb := h.attempt ha
  obtain ⟨hnumber, -, hbib, -⟩ := h.keeps a
  have hdistance : r.distance = (f a).distance := by rw [hu.record]
  have hchain := h.tells.trans (hu.tells hb)
  rw [h.rescored, h.scoredNotices, hnumber, hbib] at hchain
  obtain ⟨hkept, hsub, hboards, hsaid⟩ := told ht hchain hv.brd
  have hkeys : pointsKeys w u = pointsKeys s t := by
    unfold pointsKeys
    rw [topTen_congr (u := w) (s := s) (by rw [h.cst, ← hv.cst]; rfl) (by rw [h.scr, hv.scr]),
      topTen_congr (u := u) (s := t) (by rw [ht.cst]) (by rw [ht.scr])]
  have hnotices : Sys2Proof.scoredNotices a r u = Sys2Proof.scoredNotices a r t := by
    unfold Sys2Proof.scoredNotices
    rw [ht.cst, ht.scr]
  rw [hkeys, List.append_assoc, ← hdistance] at hboards hsaid
  rw [hnotices] at hsaid
  refine ⟨?_, ⟨hboards, fun hroom => ?_⟩, ?_, hkept⟩
  · have hattempt := hu.attempt hb
    rw [hnumber] at hattempt
    rw [attempt?, ht.cst]
    exact hattempt
  · rw [← hv.diag]
    refine hsaid (Room.fits hroom ?_ hv.brd)
    have hpoints := changedLines_length_le s (topTen t)
    simp only [List.length_append]
    have h1 : (if a.distance = r.distance then [] else [key .distance]).length ≤ 1 := by split <;> simp
    have h2 : (if Sys2Proof.rescored a r = true then pointsKeys s t else []).length ≤ 12 := by
      split
      · simp only [pointsKeys, List.length_append, List.length_cons, List.length_nil]; omega
      · simp
    omega
  · rw [hsub, h.tells.subjects, ← hdistance]
    rfl

/-- The records after the input and its follow-up, once those of the follow-up alone are known. -/
theorem scored (h : Input a f ks ns base v w) (hscored : Scored (f a) w u) (ht : After s v u t) (hv : Given s v) : Scored a s t := by
  obtain ⟨hnumber, hround, hbib, -⟩ := h.keeps a
  obtain ⟨⟨huround, hulist, hunumbers, huother⟩, hrstate, hrecord⟩ := hscored
  have hw : w.cst.attempts = (changed a.number f s.cst).attempts := by rw [h.cst, hv.cst]
  have hwcst : w.cst = changed a.number f s.cst := by rw [h.cst, hv.cst]
  have hattempt : ∀ m, attempt? t m = attempt? u m := fun m => by rw [attempt?, ht.cst, ← attempt?]
  have hpoints : ∀ x, computePoints w.prof.profile.hill w.gate.reference x = computePoints s.prof.profile.hill s.gate.reference x :=
    fun x => by rw [h.prof, h.reference, hv.prof, hv.gate]
  refine ⟨⟨?_, ?_, ?_, fun m hm => ?_⟩, fun hlist => ?_, fun x hx => ?_⟩
  · rw [ht.cst, huround, hwcst]; rfl
  · rw [ht.cst, hulist, hwcst]; rfl
  · rw [ht.cst, hunumbers, numbers_changed (fun x => (h.keeps x).1) hw]
  · rw [hattempt, huother m (by rw [hnumber]; exact hm), attempt_changed_other (fun x => (h.keeps x).1) hw hm]
  · rw [ht.cst, hrstate (by rw [hwcst]; exact hlist), hwcst]; rfl
  · obtain ⟨hscoring, hcomplete⟩ := hrecord x (by rw [hnumber, ← hattempt]; exact hx)
    rw [ht.cst, ht.scr]
    rw [hwcst, h.scr, hv.scr] at hscoring
    rw [hwcst, h.scr, hv.scr, hbib, hround] at hcomplete
    simp only [hpoints] at hcomplete
    exact ⟨hscoring, hcomplete⟩

theorem rankingOk (h : Input a f ks ns base v w) (hok : RankingOk v) : RankingOk w := by
  have hdir : w.cst.directory = v.cst.directory := by rw [h.cst]; rfl
  unfold RankingOk at hok ⊢
  rw [hdir, h.scr]
  exact hok

end Input

theorem Given.rankingOk (h : Given s v) (hok : RankingOk s) : RankingOk v := by
  unfold RankingOk at hok ⊢
  rw [h.cst, h.scr]
  exact hok

theorem Given.attempt (h : Given s v) (n : Nat) : attempt? v n = attempt? s n := by
  rw [attempt?, h.cst, ← attempt?]

theorem Given.ofConfirmedRound (h : Given s v) : ofConfirmedRound v a = ofConfirmedRound s a := by
  unfold Machine.ofConfirmedRound
  rw [h.cst]

/-- A request that gives an attempt an input, by the follow-up that SCR does after it. -/
theorem Completes.of_input {i : Instr} {kind tag : Byte} {bytes : List Byte} {serve : State → Served} {bs : List Block}
    {P : State → Prop} (hF : Free s) (hi : requestFrame i = some (kind, tag, bytes)) (he : exec i s = request i serve s)
    (ha : attempt? s a.number = some a) (h : Input a f ks ns base (taken kind tag s) w)
    (hu : Followed (f a) w r u) (hr : serve (taken kind tag s) = done u) (hlen : ks.length ≤ 3)
    (honly : OnlyChanges (.brd :: .link :: bs) (taken kind tag s) w) (hbs : [.cst, .scr, .diag] ⊆ bs)
    (hP : ∀ t, After s (taken kind tag s) u t → attempt? t a.number = some r → Announces ks ns a r s t →
      t.brd.subjects = scoredSubjects a r base → LinkKept s t → P t) : Completes i .done .none bs s P := by
  have hv := Given.taken kind tag s
  have hattempt : attempt? (taken kind tag s) a.number = some a := (hv.attempt _).trans ha
  have hb := h.attempt hattempt
  refine Completes.of_block hF hi he hr ((hu.tells hb).core.trans h.tells.core)
    (honly.trans ((hu.only hb).mono (List.cons_subset_cons _ (List.cons_subset_cons _ hbs)))) fun t ht => ?_
  obtain ⟨hrecord, hannounces, hsub, hkept⟩ := h.announces hattempt hu ht hv hlen
  exact hP t ht hrecord hannounces hsub hkept

end Sys2Proof

/-! PROOFS. The judges' marks, and the jury's distance and wind figure (R103, R119, R122, R123, R124). -/

namespace Sys2Proof

open Machine

variable {s t u v w : State} {a r : Attempt} {tag : Byte} {judge mark d : Nat}

/-! ## A mark (R123) -/

theorem marksOpen_iff (a : Attempt) :
    marksOpen a = true ↔ a.state = .inRun ∨ a.state = .flight ∨ a.state = .scoring ∨ a.state = .complete := by
  simp [marksOpen, or_assoc]

/-- A mark is stored, with MARKS where it has changed. -/
def markStored (a : Attempt) (judge mark : Nat) (s : State) : State :=
  if a.marks[judge - 1]? = some (some mark) then setAttempt a.number (withMark judge mark) s
  else enqueueSubject .marks a.number (setAttempt a.number (withMark judge mark) s)

/-- The keys of a stored mark. -/
def markKeys (a : Attempt) (judge mark : Nat) : List Key := if a.marks[judge - 1]? = some (some mark) then [] else [key .marks]

/-- The board's subjects after a stored mark. -/
def markSubjects (a : Attempt) (judge mark : Nat) (b : Subjects) : Subjects :=
  if a.marks[judge - 1]? = some (some mark) then b else { b with marks := some a.number }

theorem serveEnterMark_eq (hlo : 1 ≤ a.number) (hhi : a.number ≤ 400) (ha : attempt? s a.number = some a)
    (hfree : ofConfirmedRound s a = false) (hj : 1 ≤ judge) (hj5 : judge ≤ 5) (hm : mark ≤ 40) :
    serveEnterMark a.number judge mark s =
      if marksOpen a then done (afterInput a.number (markStored a judge mark s)) else refuse .state s := by
  have hjoin : (a.marks[judge - 1]?).join = some mark ↔ a.marks[judge - 1]? = some (some mark) := Option.join_eq_some_iff
  have hrange : (!attemptOk a.number || !within 1 5 judge || decide (40 < mark)) = false := by
    rw [attemptOk_eq_true hlo hhi, within_iff.mpr ⟨hj, hj5⟩]
    simpa using hm
  unfold serveEnterMark markStored
  simp only [hrange, ha, hfree, hjoin, ne_eq, ite_not, Bool.false_eq_true, if_false, Bool.not_eq_true']
  cases marksOpen a <;> simp

theorem markStored_input (a : Attempt) (judge mark : Nat) (v : State) :
    Input a (withMark judge mark) (markKeys a judge mark) [] (markSubjects a judge mark v.brd.subjects) v
      (markStored a judge mark v) := by
  have hset := (Tells.refl v).onCst (changed a.number (withMark judge mark))
  unfold markStored markKeys markSubjects
  split
  · exact .of_distance_kept (fun _ => ⟨rfl, rfl, rfl, rfl⟩) Iff.rfl rfl rfl rfl rfl rfl hset
  · exact .of_distance_kept (fun _ => ⟨rfl, rfl, rfl, rfl⟩) Iff.rfl rfl (by simp) (by simp) (by simp) (by simp)
      (hset.enqueueSubject .marks a.number)

theorem markStored_only (a : Attempt) (judge mark : Nat) (v : State) :
    OnlyChanges [.brd, .link, .cst, .scr, .diag] v (markStored a judge mark v) := by
  unfold markStored
  split <;> exact ⟨fun b hb => by cases b <;> simp [SameBlock] at hb ⊢, by simp, by simp⟩

theorem enterMark_completes (hF : Free s) (hlo : 1 ≤ a.number) (hhi : a.number ≤ 400) (ha : attempt? s a.number = some a)
    (hfree : ofConfirmedRound s a = false) (hok : RankingOk s) (hj : 1 ≤ judge) (hj5 : judge ≤ 5) (hm : mark ≤ 40)
    (hopen : a.state = .inRun ∨ a.state = .flight ∨ a.state = .scoring ∨ a.state = .complete) :
    Completes (.enterMark tag a.number judge mark) .done .none [.cst, .scr, .diag] s fun t =>
      (∃ r, attempt? t a.number = some r ∧ r.marks = a.marks.set (judge - 1) (some mark)
        ∧ r.style = (if (presentMarks (a.marks.set (judge - 1) (some mark))).length = 5 then .full else a.style)
        ∧ Announces (markKeys a judge mark) [] a r s t
        ∧ t.brd.subjects = scoredSubjects a r (markSubjects a judge mark s.brd.subjects))
      ∧ (a.state = .inRun ∨ a.state = .flight → t.scr = s.scr ∧ t.cst = changed a.number (withMark judge mark) s.cst)
      ∧ Scored a s t ∧ LinkKept s t := by
  have hv := Given.taken 0x40 tag s
  have hrecord : attempt? (taken 0x40 tag s) a.number = some a := (hv.attempt _).trans ha
  have hserve : serveEnterMark a.number judge mark (taken 0x40 tag s) =
      done (afterInput (withMark judge mark a).number (markStored a judge mark (taken 0x40 tag s))) := by
    rw [serveEnterMark_eq hlo hhi hrecord (hv.ofConfirmedRound ▸ hfree) hj hj5 hm, if_pos ((marksOpen_iff a).mpr hopen)]
    rfl
  have hinput := markStored_input a judge mark (taken 0x40 tag s)
  have hb := hinput.attempt hrecord
  obtain ⟨r, hu⟩ := Followed.afterInput hb
  have hr := hu.record
  refine Completes.of_input hF rfl rfl ha hinput hu hserve (by unfold markKeys; split <;> simp) (markStored_only a judge mark _)
    (by simp) fun t ht hattempt hannounces hsub hkept => ⟨⟨r, hattempt, by rw [hr]; rfl, by rw [hr]; rfl, hannounces, ?_⟩,
      fun hair => ?_, hinput.scored (afterInput_scored (hinput.rankingOk (hv.rankingOk hok)) hb) ht hv, hkept⟩
  · rw [hsub, hv.brd]
  · have hidle : a.state ≠ .scoring ∧ a.state ≠ .complete := by rcases hair with h | h <;> rw [h] <;> decide
    have hstays := afterInput_of_idle hb hidle.1 hidle.2
    rw [ht.scr, ht.cst, hstays, hinput.scr, hinput.cst, hv.scr, hv.cst]
    exact ⟨rfl, rfl⟩

/-! ## The marks are closed (R124) -/

/-- The record with its marks closed at four. -/
def closed (r : Attempt) : Attempt := { r with style := .closed4 }

theorem serveCloseMarks_eq (hlo : 1 ≤ a.number) (hhi : a.number ≤ 400) (ha : attempt? s a.number = some a)
    (hfree : ofConfirmedRound s a = false)
    (hopen : a.state = .inRun ∨ a.state = .flight ∨ a.state = .scoring ∨ a.state = .complete) :
    serveCloseMarks a.number s =
      if (presentMarks a.marks).length < 4 then refuse .state s
      else if (presentMarks a.marks).length = 4 ∧ a.style = .opened then
        done (checkCompletion a.number (enqueueSubject .marks a.number (setAttempt a.number closed s)))
      else done s := by
  have hmarks := (marksOpen_iff a).mpr hopen
  unfold serveCloseMarks
  simp only [attemptOk_eq_true hlo hhi, ha, hfree, hmarks, Bool.not_true, Bool.false_eq_true, if_false]
  rfl

theorem closeMarks_completes (hF : Free s) (hlo : 1 ≤ a.number) (hhi : a.number ≤ 400) (ha : attempt? s a.number = some a)
    (hfree : ofConfirmedRound s a = false)
    (hopen : a.state = .inRun ∨ a.state = .flight ∨ a.state = .scoring ∨ a.state = .complete)
    (hfour : (presentMarks a.marks).length = 4) (hstyle : a.style = .opened) :
    Completes (.closeMarks tag a.number) .done .none [.cst, .scr, .diag] s fun t =>
      (∃ r, attempt? t a.number = some r ∧ r.style = .closed4 ∧ r.marks = a.marks ∧ Announces [key .marks] [] a r s t
        ∧ t.brd.subjects = scoredSubjects a r { s.brd.subjects with marks := some a.number })
      ∧ (a.state ≠ .complete → Scored a s t) ∧ LinkKept s t := by
  have hv := Given.taken 0x41 tag s
  have hrecord : attempt? (taken 0x41 tag s) a.number = some a := (hv.attempt _).trans ha
  have hserve := serveCloseMarks_eq hlo hhi hrecord (hv.ofConfirmedRound ▸ hfree) hopen
  rw [if_neg (by omega), if_pos ⟨hfour, hstyle⟩] at hserve
  have hinput : Input a closed [key .marks] [] { s.brd.subjects with marks := some a.number } (taken 0x41 tag s)
      (enqueueSubject .marks a.number (setAttempt a.number closed (taken 0x41 tag s))) := by
    rw [← hv.brd]
    exact .of_distance_kept (fun _ => ⟨rfl, rfl, rfl, rfl⟩) Iff.rfl rfl (by simp) (by simp) (by simp) (by simp)
      (((Tells.refl _).onCst (changed a.number closed)).enqueueSubject .marks a.number)
  have hb := hinput.attempt hrecord
  obtain ⟨r, hu⟩ := Followed.check hb
  have hr := hu.record
  exact Completes.of_input hF rfl rfl ha hinput hu hserve (by simp)
    ⟨fun b hb => by cases b <;> simp [SameBlock] at hb ⊢, by simp, by simp⟩ (by simp)
    fun t ht hattempt hannounces hsub hkept => ⟨⟨r, hattempt, by rw [hr]; rfl, by rw [hr]; rfl, hannounces, hsub⟩,
      fun hstate => hinput.scored (hu.scored hb hstate) ht hv, hkept⟩

theorem closeMarks_refused (hF : Free s) (hlo : 1 ≤ a.number) (hhi : a.number ≤ 400) (ha : attempt? s a.number = some a)
    (hfree : ofConfirmedRound s a = false)
    (hopen : a.state = .inRun ∨ a.state = .flight ∨ a.state = .scoring ∨ a.state = .complete)
    (hfew : (presentMarks a.marks).length < 4) : Refuses (.closeMarks tag a.number) .state s := by
  have hv := Given.taken 0x41 tag s
  have hserve := serveCloseMarks_eq hlo hhi ((hv.attempt _).trans ha) (hv.ofConfirmedRound ▸ hfree) hopen
  rw [if_pos hfew] at hserve
  exact refuses_of_block hF rfl rfl hserve

/-- Marks that are closed, or all five, stay as they are. -/
theorem closeMarks_stays (hF : Free s) (hlo : 1 ≤ a.number) (hhi : a.number ≤ 400) (ha : attempt? s a.number = some a)
    (hfree : ofConfirmedRound s a = false)
    (hopen : a.state = .inRun ∨ a.state = .flight ∨ a.state = .scoring ∨ a.state = .complete)
    (hmany : 4 ≤ (presentMarks a.marks).length) (hclosed : (presentMarks a.marks).length = 4 → a.style ≠ .opened) :
    Completes (.closeMarks tag a.number) .done .none [] s (Quiet s) := by
  have hv := Given.taken 0x41 tag s
  have hserve := serveCloseMarks_eq hlo hhi ((hv.attempt _).trans ha) (hv.ofConfirmedRound ▸ hfree) hopen
  rw [if_neg (by omega), if_neg fun h => hclosed h.1 h.2] at hserve
  exact Completes.quiet hF rfl rfl hserve

/-! ## The jury's figures (R103, R119) -/

section Jury

variable {x : Int}

/-- The record with the jury's distance. -/
def juryDistance (d : Nat) (r : Attempt) : Attempt := { r with distance := some d, distanceStatus := .jury }

/-- The record with the jury's wind figure. -/
def juryWind (x : Int) (r : Attempt) : Attempt := { r with wind := some x, windStatus := some .jury }

theorem serveSetDistance_eq (hlo : 1 ≤ a.number) (hhi : a.number ≤ 400) (ha : attempt? s a.number = some a)
    (hfree : ofConfirmedRound s a = false) (hd : d ≤ 1000) : serveSetDistance a.number d s =
      if a.state ≠ .scoring ∧ a.state ≠ .complete then refuse .state s
      else done (afterInput a.number (announceDistance a.number a.distance (some d)
        (stopWait a.number (setAttempt a.number (juryDistance d) s)))) := by
  have hrange : (!attemptOk a.number || !within 0 1000 d) = false := by
    rw [attemptOk_eq_true hlo hhi, within_iff.mpr ⟨Nat.zero_le d, hd⟩]
    rfl
  unfold serveSetDistance
  simp only [hrange, ha, hfree, Bool.false_eq_true, if_false]
  rfl

theorem serveSetWind_eq (hlo : 1 ≤ a.number) (hhi : a.number ≤ 400) (ha : attempt? s a.number = some a)
    (hfree : ofConfirmedRound s a = false) (hx : -6000 ≤ x) (hx' : x ≤ 6000) : serveSetWind a.number x s =
      if a.state ≠ .scoring ∧ a.state ≠ .complete then refuse .state s
      else done (afterInput a.number (setAttempt a.number (juryWind x) s)) := by
  have hrange : (!attemptOk a.number || decide (x < -6000) || decide (6000 < x)) = false := by
    rw [attemptOk_eq_true hlo hhi]
    simp [not_lt.mpr hx, not_lt.mpr hx']
  unfold serveSetWind
  simp only [hrange, ha, hfree, Bool.false_eq_true, if_false]
  rfl

variable (hF : Free s) (hlo : 1 ≤ a.number) (hhi : a.number ≤ 400) (ha : attempt? s a.number = some a)
  (hfree : ofConfirmedRound s a = false)

include hF hlo hhi ha hfree

theorem setDistance_completes (hok : RankingOk s) (hd : d ≤ 1000) (hstate : a.state = .scoring ∨ a.state = .complete) :
    Completes (.setDistance tag a.number d) .done .none [.cst, .meas, .scr, .diag] s fun t =>
      (∃ r, attempt? t a.number = some r ∧ r.distance = some d ∧ r.distanceStatus = .jury ∧ Announces [] [] a r s t
        ∧ t.brd.subjects = scoredSubjects a r s.brd.subjects)
      ∧ t.meas = { s.meas with waits := s.meas.waits.filter fun x => x.1 != a.number }
      ∧ Scored a s t ∧ LinkKept s t := by
  have hv := Given.taken 0x42 tag s
  have hrecord : attempt? (taken 0x42 tag s) a.number = some a := (hv.attempt _).trans ha
  have hserve := serveSetDistance_eq hlo hhi hrecord (hv.ofConfirmedRound ▸ hfree) hd
  rw [if_neg (by rcases hstate with h | h <;> simp [h])] at hserve
  have hinput : Input a (juryDistance d) [] [] s.brd.subjects (taken 0x42 tag s) (announceDistance a.number a.distance (some d)
      (stopWait a.number (setAttempt a.number (juryDistance d) (taken 0x42 tag s)))) := by
    rw [← hv.brd]
    exact .of_announced (f := juryDistance d) (fun _ => ⟨rfl, rfl, rfl, rfl⟩) Iff.rfl rfl rfl rfl rfl
      ((Tells.refl _).frame rfl rfl rfl)
  have hb := hinput.attempt hrecord
  obtain ⟨r, hu⟩ := Followed.afterInput hb
  have hr := hu.record
  refine Completes.of_input hF rfl rfl ha hinput hu hserve (by simp)
    ⟨fun b hb => by cases b <;> simp [SameBlock, stopWait] at hb ⊢, by simp [stopWait], by simp [stopWait]⟩ (by simp)
    fun t ht hattempt hannounces hsub hkept => ⟨⟨r, hattempt, by rw [hr]; rfl, by rw [hr]; rfl, hannounces, hsub⟩, ?_,
      hinput.scored (afterInput_scored (hinput.rankingOk (hv.rankingOk hok)) hb) ht hv, hkept⟩
  rw [ht.meas, afterInput_meas, announceDistance_meas, ← hv.meas]
  rfl

theorem setWind_completes (hok : RankingOk s) (hx : -6000 ≤ x) (hx' : x ≤ 6000) (hstate : a.state = .scoring ∨ a.state = .complete) :
    Completes (.setWind tag a.number x) .done .none [.cst, .scr, .diag] s fun t =>
      (∃ r, attempt? t a.number = some r ∧ r.wind = some x ∧ r.windStatus = some .jury ∧ r.samples = a.samples
        ∧ Announces [] [] a r s t ∧ t.brd.subjects = scoredSubjects a r s.brd.subjects)
      ∧ Scored a s t ∧ LinkKept s t := by
  have hv := Given.taken 0x43 tag s
  have hrecord : attempt? (taken 0x43 tag s) a.number = some a := (hv.attempt _).trans ha
  have hserve := serveSetWind_eq hlo hhi hrecord (hv.ofConfirmedRound ▸ hfree) hx hx'
  rw [if_neg (by rcases hstate with h | h <;> simp [h])] at hserve
  have hinput : Input a (juryWind x) [] [] s.brd.subjects (taken 0x43 tag s) (setAttempt a.number (juryWind x) (taken 0x43 tag s)) := by
    rw [← hv.brd]
    exact .of_distance_kept (fun _ => ⟨rfl, rfl, rfl, rfl⟩) Iff.rfl rfl rfl rfl rfl rfl ((Tells.refl _).frame rfl rfl rfl)
  have hb := hinput.attempt hrecord
  obtain ⟨r, hu⟩ := Followed.afterInput hb
  have hr := hu.record
  exact Completes.of_input hF rfl rfl ha hinput hu hserve (by simp)
    ⟨fun b hb => by cases b <;> simp [SameBlock] at hb ⊢, by simp, by simp⟩ (by simp)
    fun t ht hattempt hannounces hsub hkept => ⟨⟨r, hattempt, by rw [hr]; rfl, by rw [hr]; rfl, by rw [hr]; rfl, hannounces, hsub⟩,
      hinput.scored (afterInput_scored (hinput.rankingOk (hv.rankingOk hok)) hb) ht hv, hkept⟩

theorem setDistance_refused (hd : d ≤ 1000) (hscoring : a.state ≠ .scoring) (hcomplete : a.state ≠ .complete) :
    Refuses (.setDistance tag a.number d) .state s := by
  have hv := Given.taken 0x42 tag s
  have hserve := serveSetDistance_eq hlo hhi ((hv.attempt _).trans ha) (hv.ofConfirmedRound ▸ hfree) hd
  rw [if_pos ⟨hscoring, hcomplete⟩] at hserve
  exact refuses_of_block hF rfl rfl hserve

theorem setWind_refused (hx : -6000 ≤ x) (hx' : x ≤ 6000) (hscoring : a.state ≠ .scoring) (hcomplete : a.state ≠ .complete) :
    Refuses (.setWind tag a.number x) .state s := by
  have hv := Given.taken 0x43 tag s
  have hserve := serveSetWind_eq hlo hhi ((hv.attempt _).trans ha) (hv.ofConfirmedRound ▸ hfree) hx hx'
  rw [if_pos ⟨hscoring, hcomplete⟩] at hserve
  exact refuses_of_block hF rfl rfl hserve

end Jury

/-- Settles O46: each request is an input to the attempt's scoring, followed by SCR's check or recompute. -/
theorem judgesAndJuryGiveTheirFigures : Obligations.JudgesAndJuryGiveTheirFigures := by
  refine ⟨fun s tag a judge mark hF hlo hhi ha hfree hok => ⟨fun hj hj5 hm hopen =>
    enterMark_completes hF hlo hhi ha hfree hok hj hj5 hm hopen, fun hstate hj hj5 hm => ?_, fun hopen =>
    ⟨closeMarks_refused hF hlo hhi ha hfree hopen, closeMarks_completes hF hlo hhi ha hfree hopen,
      fun hfour hstyle => closeMarks_stays hF hlo hhi ha hfree hopen hfour.ge fun _ => hstyle,
      fun hfive => closeMarks_stays hF hlo hhi ha hfree hopen (by omega) fun h => by omega⟩⟩,
    fun s tag a d x hF hlo hhi ha hfree hok hd hx hx' => ⟨fun hstate =>
      ⟨setDistance_completes hF hlo hhi ha hfree hok hd hstate, setWind_completes hF hlo hhi ha hfree hok hx hx' hstate⟩,
      fun hscoring hcomplete => ⟨setDistance_refused hF hlo hhi ha hfree hd hscoring hcomplete,
        setWind_refused hF hlo hhi ha hfree hx hx' hscoring hcomplete⟩⟩⟩
  have hclosed : marksOpen a = false := by rcases hstate with h | h | h | h | h <;> simp [marksOpen, h]
  have hv := Given.taken 0x40 tag s
  refine refuses_of_block hF rfl rfl ?_
  rw [serveEnterMark_eq hlo hhi ((hv.attempt _).trans ha) (hv.ofConfirmedRound ▸ hfree) hj hj5 hm, hclosed]
  exact if_neg Bool.false_ne_true

end Sys2Proof

/-! PROOFS. VOID ATTEMPT of an attempt that has left the hill, of one at the bar and of one in the air (R29, R37, R38, R57, R58,
R139). -/

namespace Sys2Proof

open Machine

variable {s t u v : State} {a : Attempt} {tag : Byte}

/-- The record of a void attempt. -/
def voided (r : Attempt) : Attempt := { r with state := .voided }

/-- The record is VOIDED and the bib is back at the head of the list. -/
def returnedToHead (a : Attempt) (s : State) : State := returnToHead a.bib (setAttempt a.number voided s)

theorem returnedToHead_tells (a : Attempt) (v : State) : Tells v [] [] v.diag v.brd.subjects (returnedToHead a v) :=
  (Tells.refl v).frame rfl rfl rfl

theorem returnedToHead_only (a : Attempt) (v : State) : OnlyChanges [.cst] v (returnedToHead a v) :=
  ⟨fun b hb => by cases b <;> simp [SameBlock, returnedToHead] at hb ⊢, rfl, rfl⟩

/-! ## An attempt that has left the hill -/

/-- What an attempt in SCORING, COMPLETE or LAPSED had given is taken back. -/
def tookBack (a : Attempt) (s : State) : State :=
  notifyState a.number a.round a.bib (some a.state) .voided (takeBack a (returnedToHead a s))

theorem voidAttempt_offHill (h : a.state = .scoring ∨ a.state = .complete ∨ a.state = .lapsed) :
    voidAttempt a s = afterHeadChange (tookBack a s) := by
  have hoff : a.state.onHill = false := by rcases h with h | h | h <;> rw [h] <;> rfl
  have hreturn : coachReturn a (tookBack a s) = tookBack a s := by simp [coachReturn, hoff]
  rw [← hreturn]
  rfl

/-- An attempt off the hill has given back what it had, between the states that a block goes through. -/
structure GaveBack (a : Attempt) (v u : State) : Prop where
  back : TakenBack a v u
  stc : u.stc = v.stc
  gate : u.gate = v.gate
  only : OnlyChanges [.brd, .link, .cst, .wln, .meas, .scr, .diag] v u
  tells : Tells v (takenBackKeys a v u) [.stateChange a.number a.round a.bib (some a.state) .voided] v.diag
    (if a.state = .scoring then v.brd.subjects else { v.brd.subjects with rank := some a.bib }) u

theorem takeBack_of_scoring (h : a.state = .scoring) (s : State) : takeBack a s =
    if s.wln.window.map Prod.fst = some a.number then dropWindow (stopWait a.number s) else stopWait a.number s := by
  simp only [takeBack, h]
  rfl

theorem tookBack_of_scoring (h : a.state = .scoring) (v : State) : GaveBack a v (tookBack a v) := by
  have hwln : (takeBack a (returnedToHead a v)).wln =
      if v.wln.window.map Prod.fst = some a.number then { v.wln with window := none } else v.wln := by
    rw [takeBack_of_scoring h]
    split <;> simp_all [returnedToHead, dropWindow, stopWait]
  have hrest : takeBack a (returnedToHead a v) =
      { stopWait a.number (returnedToHead a v) with wln := (takeBack a (returnedToHead a v)).wln } := by
    rw [takeBack_of_scoring h]
    split <;> rfl
  have hu : tookBack a v = notifyState a.number a.round a.bib (some a.state) .voided
      { stopWait a.number (returnedToHead a v) with wln := (takeBack a (returnedToHead a v)).wln } := by
    rw [← hrest]; rfl
  have htells := ((returnedToHead_tells a v).frame
    (u := { stopWait a.number (returnedToHead a v) with wln := (takeBack a (returnedToHead a v)).wln }) rfl rfl rfl).notifyState
      a.number a.round a.bib (some a.state) .voided
  rw [← hu] at htells
  refine ⟨⟨?_, ?_, ?_, ?_, fun _ => ⟨?_, ?_, ?_⟩, fun hc => ?_, fun hc => ?_, ?_, ?_, LinkKept.of_core htells.core⟩, ?_, ?_, ?_, ?_⟩
  · rw [hu]; rfl
  · rw [hu]; rfl
  · rw [hu]; rfl
  · rw [hu]; rfl
  · rw [hu]; rfl
  · rw [hu]; rfl
  · rw [hu]; rfl
  · rw [h] at hc; cases hc
  · rw [h] at hc; cases hc
  · rw [if_pos h, htells.subjects]
  · rw [hu, notifyState_wln, hwln]
    simp only [h, true_and]
  · rw [hu]; rfl
  · rw [hu]; rfl
  · rw [hu]
    exact ⟨fun b hb => by cases b <;> simp [SameBlock, stopWait, returnedToHead] at hb ⊢, rfl, rfl⟩
  · rw [takenBackKeys, if_pos h, if_pos h]
    exact htells

/-- The void of an attempt that had a place in the ranking, by the change of its competitor's record. -/
theorem tookBack_of_ranked {f : Competitor → Competitor} (h : a.state ≠ .scoring)
    (hback : ∀ s, takeBack a s = reRankAfter a.bib (setCompetitor a.bib f) s)
    (hcomplete : a.state = .complete → f = withTotal a.round none)
    (hlapsed : a.state = .lapsed → f = fun c => { c with disqualified := false }) (v : State) : GaveBack a v (tookBack a v) := by
  have hu : tookBack a v = notifyState a.number a.round a.bib (some a.state) .voided
      (reRankAfter a.bib (setCompetitor a.bib f) (returnedToHead a v)) := by
    rw [tookBack, hback]
  have htells := ((returnedToHead_tells a v).reRankAfter a.bib f).notifyState a.number a.round a.bib (some a.state) .voided
  have htop : topTen (returnedToHead a v) = topTen v := topTen_congr rfl rfl
  have htop' : topTen (reRankAfter a.bib (setCompetitor a.bib f) (returnedToHead a v)) = topTen (tookBack a v) :=
    topTen_congr (by rw [hu, notifyState_cst]) (by rw [hu, notifyState_scr])
  rw [htop, htop', ← hu] at htells
  have hcst : (tookBack a v).cst = directoryWith a.bib f (returnedToHead a v).cst := by
    rw [hu, notifyState_cst, reRankAfter_cst]
  have hranking : (tookBack a v).scr.ranking = reRanked (tookBack a v).cst.directory a.bib v.scr.ranking := by
    rw [hcst, hu, notifyState_scr, reRankAfter_scr]; rfl
  have hmeas : (tookBack a v).meas = v.meas := by
    rw [hu, notifyState_meas]
    exact (reRankAfter_only a.bib f (returnedToHead a v) _ (List.Subset.refl _)).1 .meas (by simp)
  have hwln : (tookBack a v).wln = v.wln := by
    rw [hu, notifyState_wln]
    exact (reRankAfter_only a.bib f (returnedToHead a v) _ (List.Subset.refl _)).1 .wln (by simp)
  refine ⟨⟨by rw [hcst]; rfl, by rw [hcst]; rfl, by rw [hcst]; rfl, by rw [hcst]; rfl, fun hc => absurd hc h, fun hc => ⟨?_, hranking, hmeas⟩,
    fun hc => ⟨?_, hranking, hmeas⟩, ?_, ?_, LinkKept.of_core htells.core⟩, ?_, ?_, ?_, ?_⟩
  · rw [hcst, hcomplete hc]; rfl
  · rw [hcst, hlapsed hc]; rfl
  · rw [if_neg h, htells.subjects]
  · rw [if_neg fun hc => h hc.1, hwln]
  · rw [hu, notifyState_stc, reRankAfter_stc]; rfl
  · rw [hu, notifyState_gate, reRankAfter_gate]; rfl
  · rw [hu]
    exact ((returnedToHead_only a v).mono (by simp)).trans ((reRankAfter_only a.bib f _ _ (by simp)).trans
      ⟨fun b hb => by cases b <;> simp [SameBlock] at hb ⊢, rfl, rfl⟩)
  · rw [takenBackKeys, if_neg h, if_neg h]
    exact htells

theorem tookBack_gaveBack (h : a.state = .scoring ∨ a.state = .complete ∨ a.state = .lapsed) (v : State) :
    GaveBack a v (tookBack a v) := by
  rcases h with h | h | h
  · exact tookBack_of_scoring h v
  · exact tookBack_of_ranked (f := withTotal a.round none) (by rw [h]; decide) (fun s => by simp only [takeBack, h]; rfl)
      (fun _ => rfl) (fun hl => by rw [h] at hl; cases hl) v
  · exact tookBack_of_ranked (f := fun c => { c with disqualified := false }) (by rw [h]; decide)
      (fun s => by simp only [takeBack, h]; rfl) (fun hc => by rw [h] at hc; cases hc) (fun _ => rfl) v

theorem TakenBack.transport (h : TakenBack a v u) (hv : Given s v) (hcst : t.cst = u.cst) (hscr : t.scr = u.scr)
    (hmeas : t.meas = u.meas) (hwln : t.wln = u.wln) (hsub : t.brd.subjects = u.brd.subjects) (hlink : LinkKept s t) :
    TakenBack a s t := by
  obtain ⟨h1, h2, h3, h4, h5, h6, h7, h8, h9, -⟩ := h
  rw [hv.cst] at h1 h2 h3 h4 h5 h6 h7
  rw [hv.scr, hv.meas] at h5 h6 h7
  rw [hv.brd] at h8
  rw [hv.wln] at h9
  unfold TakenBack
  rw [hcst, hscr, hmeas, hwln, hsub]
  exact ⟨h1, h2, h3, h4, h5, h6, h7, h8, h9, hlink⟩

theorem takenBackKeys_congr (hv : Given s v) (hcst : t.cst = u.cst) (hscr : t.scr = u.scr) :
    takenBackKeys a v u = takenBackKeys a s t := by
  unfold takenBackKeys
  rw [topTen_congr (u := v) (s := s) (by rw [hv.cst]) (by rw [hv.scr]),
    topTen_congr (u := t) (s := u) (by rw [hcst]) (by rw [hscr])]

theorem takenBackKeys_length_le (a : Attempt) (s t : State) : (takenBackKeys a s t).length ≤ 11 := by
  have := changedLines_length_le s (topTen t)
  unfold takenBackKeys
  split
  · simp
  · rw [List.length_cons]; omega

/-! ## An attempt that has left the bar -/

theorem freedKeys_congr (h : u.gate = s.gate) : freedKeys a u = freedKeys a s := by unfold freedKeys; rw [h]

theorem freedNotices_congr (h : u.gate = s.gate) : freedNotices a u = freedNotices a s := by unfold freedNotices; rw [h]

theorem takeBack_inAir (h : a.state = .inRun ∨ a.state = .flight) (s : State) :
    takeBack a s = updateLight (dropWindow (stopMeasuring s)) := by
  rcases h with h | h <;> simp only [takeBack, h]

/-- After its leave the light is red (R40). -/
theorem LightOk.red_of_left (h : LightOk s) (hill : HillOk s) (ha : onHill? s = some a) (hleft : a.state = .inRun ∨ a.state = .flight) :
    s.stc.light = .red := by
  unfold LightOk at h
  rw [(hill.round_of_onHill ha).2, ha, Option.map_some] at h
  rcases hleft with hstate | hstate <;> rw [hstate] at h <;> exact h

/-- The records, the wind window and MEAS after the void of an attempt in the air. -/
def droppedFromAir (a : Attempt) (s : State) : State := dropWindow (stopMeasuring (returnedToHead a s))

theorem droppedFromAir_only (a : Attempt) (v : State) : OnlyChanges [.cst, .wln, .meas] v (droppedFromAir a v) :=
  ⟨fun b hb => by cases b <;> simp [SameBlock, droppedFromAir, dropWindow, stopMeasuring, returnedToHead] at hb ⊢, rfl, rfl⟩

theorem voidAttempt_inAir (hill : HillLaws v) (hlight : LightOk v) (ha : onHill? v = some a)
    (hair : a.state = .inRun ∨ a.state = .flight) : voidAttempt a v =
      coachReturn a (notifyState a.number a.round a.bib (some a.state) .voided (droppedFromAir a v)) := by
  obtain ⟨hok, hcoach, -⟩ := hill
  have hopen := (hok.round_of_onHill ha).2
  have hnone : onHill? (droppedFromAir a v) = none := hok.none_of_changed (f := voided) ha rfl rfl
  have hshown : updateLight (droppedFromAir a v) = droppedFromAir a v := by
    refine updateLight_of_shown ?_
    have hrstate : (droppedFromAir a v).cst.rstate = .opened := by
      change (if v.cst.rstate = .ended then .opened else v.cst.rstate) = _
      rw [hopen]; rfl
    rw [lightFor_of_none hnone, hrstate]
    exact (hlight.red_of_left hok ha hair).symm
  rw [← hshown]
  have hback : takeBack a (returnedToHead a v) = updateLight (droppedFromAir a v) := takeBack_inAir hair _
  rw [← hback]
  refine afterHeadChange_of_kept _ ?_
  refine coachOff_of_none ?_ _
  rw [coachReturn_stc, notifyState_stc]
  change (takeBack a (returnedToHead a v)).stc.coach = none
  rw [hback, hshown]
  exact hcoach.none_of_onHill ha

section Requests

variable (hF : Free s) (hlo : 1 ≤ a.number) (hhi : a.number ≤ 400) (ha : attempt? s a.number = some a)
  (hfree : ofConfirmedRound s a = false)

include hlo hhi ha hfree in
theorem serveVoidAttempt_eq (hkept : a.state ≠ .voided) (hkept' : a.state ≠ .cancelled) :
    serveVoidAttempt a.number s =
      if (a.state = .scoring ∨ a.state = .complete ∨ a.state = .lapsed) ∧ 80 ≤ placesHeld s then refuse .full s
      else done (voidAttempt a s) := by
  have hnot : ¬(a.state = .voided ∨ a.state = .cancelled) := fun h => h.elim hkept hkept'
  simp only [serveVoidAttempt, attemptOk_eq_true hlo hhi, ha, hfree, Bool.not_true, Bool.false_eq_true, if_false, if_neg hnot]

include hF hlo hhi ha hfree

theorem voidAttempt_refused (h : a.state = .voided ∨ a.state = .cancelled) : Refuses (.voidAttempt tag a.number) .state s := by
  have hv := Given.taken 0x44 tag s
  have hlocked : ofConfirmedRound (taken 0x44 tag s) a = false := hv.ofConfirmedRound.trans hfree
  refine refuses_of_block hF rfl rfl ?_
  simp only [serveVoidAttempt, attemptOk_eq_true hlo hhi, (hv.attempt a.number).trans ha, hlocked, Bool.not_true,
    Bool.false_eq_true, if_false, if_pos h]

theorem voidAttempt_full (h : a.state = .scoring ∨ a.state = .complete ∨ a.state = .lapsed) (hfull : 80 ≤ placesHeld s) :
    Refuses (.voidAttempt tag a.number) .full s := by
  have hv := Given.taken 0x44 tag s
  have hserve := serveVoidAttempt_eq hlo hhi ((hv.attempt _).trans ha) (hv.ofConfirmedRound.trans hfree)
    (by rcases h with h | h | h <;> rw [h] <;> decide) (by rcases h with h | h | h <;> rw [h] <;> decide)
  rw [taken_placesHeld, if_pos ⟨h, hfull⟩] at hserve
  exact refuses_of_block hF rfl rfl hserve

omit hF in
theorem serveVoidAttempt_offHill (h : a.state = .scoring ∨ a.state = .complete ∨ a.state = .lapsed) (hroom : placesHeld s < 80) :
    serveVoidAttempt a.number s = done (afterHeadChange (tookBack a s)) := by
  rw [serveVoidAttempt_eq hlo hhi ha hfree (by rcases h with h | h | h <;> rw [h] <;> decide)
    (by rcases h with h | h | h <;> rw [h] <;> decide), if_neg fun hc => by omega, voidAttempt_offHill h]

theorem voidAttempt_offHill_kept (h : a.state = .scoring ∨ a.state = .complete ∨ a.state = .lapsed) (hroom : placesHeld s < 80)
    (hoff : coachOff s (a.bib :: s.cst.startList) = false) :
    Completes (.voidAttempt tag a.number) .done .none [.cst, .wln, .meas, .scr, .diag] s fun t =>
      TakenBack a s t ∧ Boards (takenBackKeys a s t) s t ∧ (Room 11 s → t.diag = s.diag
        ∧ Sends [.stateChange a.number a.round a.bib (some a.state) .voided] s t) := by
  have hv := Given.taken 0x44 tag s
  obtain ⟨hback, hstc, -, honly, htells⟩ := tookBack_gaveBack h (taken 0x44 tag s)
  have hhead : coachOff (tookBack a (taken 0x44 tag s)) (tookBack a (taken 0x44 tag s)).cst.startList = false := by
    rw [hback.2.1, hv.cst, ← hoff]
    exact coachOff_congr (by rw [hstc, hv.stc]) _
  have hserve := serveVoidAttempt_offHill hlo hhi ((hv.attempt _).trans ha) (hv.ofConfirmedRound.trans hfree) h
    (by rw [taken_placesHeld]; exact hroom)
  rw [afterHeadChange_of_kept _ hhead] at hserve
  refine Completes.of_block hF rfl rfl hserve htells.core honly fun t ht => ?_
  obtain ⟨hlink, hsub, hboards, hsaid⟩ := told ht htells hv.brd
  rw [takenBackKeys_congr hv ht.cst ht.scr] at hboards hsaid
  refine ⟨hback.transport hv ht.cst ht.scr ht.meas ht.wln ht.subjects hlink, hboards, fun hroom => ?_⟩
  rw [← hv.diag]
  exact hsaid (Room.fits hroom (takenBackKeys_length_le a s t) hv.brd)

theorem voidAttempt_offHill_off (h : a.state = .scoring ∨ a.state = .complete ∨ a.state = .lapsed) (hroom : placesHeld s < 80)
    (hoff : coachOff s (a.bib :: s.cst.startList) = true) :
    Completes (.voidAttempt tag a.number) .done .none [.cst, .stc, .gate, .wln, .meas, .scr, .diag] s fun t =>
      TakenBack a s t ∧ CoachEnds s t ∧ Boards (takenBackKeys a s t ++ returnKeys s.gate) s t ∧ (Room 12 s → t.diag = s.diag
        ∧ Sends (.stateChange a.number a.round a.bib (some a.state) .voided :: returnNotices s.gate) s t) := by
  have hv := Given.taken 0x44 tag s
  obtain ⟨hback, hstc, hgate, honly, htells⟩ := tookBack_gaveBack h (taken 0x44 tag s)
  have hhead : coachOff (tookBack a (taken 0x44 tag s)) (tookBack a (taken 0x44 tag s)).cst.startList = true := by
    rw [hback.2.1, hv.cst, ← hoff]
    exact coachOff_congr (by rw [hstc, hv.stc]) _
  have hserve := serveVoidAttempt_offHill hlo hhi ((hv.attempt _).trans ha) (hv.ofConfirmedRound.trans hfree) h
    (by rw [taken_placesHeld]; exact hroom)
  rw [afterHeadChange_of_off _ hhead] at hserve
  have hchain := (htells.onStc fun c => { c with coach := none }).requestReturn
  rw [State.onStc_gate, hgate, hv.gate] at hchain
  refine Completes.of_block hF rfl rfl hserve hchain.core
    ((honly.mono (by simp)).trans ⟨fun b hb => by cases b <;> simp [SameBlock] at hb ⊢, by simp, by simp⟩) fun t ht => ?_
  obtain ⟨hlink, hsub, hboards, hsaid⟩ := told ht hchain hv.brd
  have hcst : t.cst = (tookBack a (taken 0x44 tag s)).cst := by rw [ht.cst]; simp
  have hscr : t.scr = (tookBack a (taken 0x44 tag s)).scr := by rw [ht.scr]; simp
  rw [takenBackKeys_congr hv hcst hscr] at hboards hsaid
  refine ⟨hback.transport hv hcst hscr (by rw [ht.meas]; simp) (by rw [ht.wln]; simp) (hsub.trans htells.subjects.symm) hlink,
    ⟨?_, ?_⟩, hboards, fun hroom => ?_⟩
  · rw [ht.stc, requestReturn_stc, State.onStc_stc, hstc, hv.stc]
  · rw [ht.gate, requestReturn_gate, requestReturn_gate, State.onStc_gate, hgate, hv.gate, State.onStc_prof, honly.1 .prof (by simp), hv.prof]
  · have hkeys := takenBackKeys_length_le a s t
    have hreturn := returnKeys_length_le s.gate
    rw [← hv.diag]
    exact hsaid (Room.fits hroom (by rw [List.length_append]; omega) hv.brd)

omit hF in
/-- An attempt on the hill is never without a place. -/
theorem serveVoidAttempt_onHill (hon : a.state.onHill = true) : serveVoidAttempt a.number s = done (voidAttempt a s) := by
  rw [serveVoidAttempt_eq hlo hhi ha hfree (fun h => by rw [h] at hon; cases hon) (fun h => by rw [h] at hon; cases hon), if_neg]
  rintro ⟨h | h | h, -⟩ <;> rw [h] at hon <;> cases hon

theorem voidAttempt_atTheBar (hill : HillLaws s) (hlight : LightOk s) (hon : onHill? s = some a)
    (hbar : a.state = .waiting ∨ a.state = .cleared) :
    Completes (.voidAttempt tag a.number) .done .none [.cst, .stc, .gate, .diag] s (VoidedAtBar a s.cst.rstate s) := by
  have hv := Given.taken 0x44 tag s
  have hserve := serveVoidAttempt_onHill hlo hhi ((hv.attempt _).trans ha) (hv.ofConfirmedRound.trans hfree) (onHill_mem hon).2
  have hvoided := voidAttempt_atBar (hv.laws hill) (hlight.congr hv.cst hv.stc) (hv.onHill.trans hon) hbar
  rw [(hill.1.round_of_onHill hon).2]
  exact Completes.of_block hF rfl rfl hserve hvoided.tells.core hvoided.only
    fun t ht => VoidedAtBar.of_barVoided ht hv hvoided hill hon

theorem voidAttempt_inTheAir (hill : HillLaws s) (hlight : LightOk s) (hon : onHill? s = some a)
    (hair : a.state = .inRun ∨ a.state = .flight) :
    Completes (.voidAttempt tag a.number) .done .none [.cst, .stc, .gate, .wln, .meas, .diag] s fun t =>
      t.cst = { changed a.number voided s.cst with startList := a.bib :: s.cst.startList }
      ∧ t.wln = { s.wln with window := none }
      ∧ t.meas = { s.meas with trap := .off, trapAttempt := none, trapTimer := none, markLimit := none }
      ∧ t.stc = s.stc ∧ GateFreed a s t ∧ LinkKept s t ∧ Boards (freedKeys a s) s t ∧ t.brd.subjects = s.brd.subjects
      ∧ (Room 1 s → t.diag = s.diag
          ∧ Sends (.stateChange a.number a.round a.bib (some a.state) .voided :: freedNotices a s) s t) := by
  have hv := Given.taken 0x44 tag s
  have hin := (onHill_mem hon).2
  have hopen := (hill.1.round_of_onHill hon).2
  have hserve := serveVoidAttempt_onHill hlo hhi ((hv.attempt _).trans ha) (hv.ofConfirmedRound.trans hfree) hin
  rw [voidAttempt_inAir (hv.laws hill) (hlight.congr hv.cst hv.stc) (hv.onHill.trans hon) hair] at hserve
  have hchain := (((Tells.refl (taken 0x44 tag s)).frame (u := droppedFromAir a (taken 0x44 tag s)) rfl rfl rfl).notifyState
    a.number a.round a.bib (some a.state) .voided).coachReturn hin
  have hgate : (notifyState a.number a.round a.bib (some a.state) .voided (droppedFromAir a (taken 0x44 tag s))).gate = s.gate :=
    hv.gate
  rw [freedKeys_congr hgate, freedNotices_congr hgate] at hchain
  refine Completes.of_block hF rfl rfl hserve hchain.core
    (((droppedFromAir_only a _).mono (by simp)).trans ⟨fun b hb => by cases b <;> simp [SameBlock] at hb ⊢, by simp, by simp⟩)
    fun t ht => ?_
  obtain ⟨hlink, hsub, hboards, hsaid⟩ := told ht hchain hv.brd
  refine ⟨?_, ?_, ?_, ?_, .of_gate ?_, hlink, hboards, hsub.trans (by rw [hv.brd]), fun hroom => ?_⟩
  · have hkept : (if s.cst.rstate = .ended then .opened else s.cst.rstate) = s.cst.rstate := if_neg (by rw [hopen]; decide)
    have hcst : (droppedFromAir a (taken 0x44 tag s)).cst = { changed a.number voided s.cst with
        startList := a.bib :: s.cst.startList, rstate := if s.cst.rstate = .ended then .opened else s.cst.rstate } := by
      rw [← hv.cst]; rfl
    rw [hkept] at hcst
    rw [ht.cst, coachReturn_cst, notifyState_cst]
    exact hcst
  · rw [ht.wln, coachReturn_wln, notifyState_wln, ← hv.wln]; rfl
  · rw [ht.meas, coachReturn_meas, notifyState_meas, ← hv.meas]; rfl
  · rw [ht.stc, coachReturn_stc, notifyState_stc, ← hv.stc]; rfl
  · rw [ht.gate, coachReturn_gate hin, hgate, ← hv.prof]
    rfl
  · rw [← hv.diag]
    exact hsaid (Room.fits hroom (freedKeys_length_le a s) hv.brd)

end Requests

/-- Settles O47: the refusals, and the void by the attempt's state. -/
theorem aVoidTakesBackWhatWasGiven : Obligations.AVoidTakesBackWhatWasGiven := fun _ _ _ hF hlo hhi ha hfree =>
  ⟨voidAttempt_refused hF hlo hhi ha hfree, fun hoff => ⟨voidAttempt_full hF hlo hhi ha hfree hoff,
    voidAttempt_offHill_kept hF hlo hhi ha hfree hoff, voidAttempt_offHill_off hF hlo hhi ha hfree hoff⟩,
    voidAttempt_atTheBar hF hlo hhi ha hfree, voidAttempt_inTheAir hF hlo hhi ha hfree⟩

end Sys2Proof

/-! PROOFS. Records on the consoles' lines: their assembly, their tests, and the arrival that a valid one is (R109, R110, R111). -/

namespace Sys2Proof

open Machine

variable {s t u v w : State} {c : Console} {x : RxChar} {r : List RxChar}

/-! ## A console's part of MEAS -/

section Fields

variable (c : Console) (m : Meas)

@[simp] theorem assembly_withAssembly (y : List RxChar) : assembly c (m.withAssembly c y) = y := by cases c <;> rfl
@[simp] theorem assembly_withSilence (y : Option Nat) : assembly c (m.withSilence c y) = assembly c m := by cases c <;> rfl
@[simp] theorem assembly_withState (y : ConsoleState) : assembly c (m.withState c y) = assembly c m := by cases c <;> rfl
@[simp] theorem consoleState_withAssembly (y : List RxChar) : consoleState c (m.withAssembly c y) = consoleState c m := by
  cases c <;> rfl
@[simp] theorem consoleState_withSilence (y : Option Nat) : consoleState c (m.withSilence c y) = consoleState c m := by
  cases c <;> rfl
@[simp] theorem consoleState_withState (y : ConsoleState) : consoleState c (m.withState c y) = y := by cases c <;> rfl
@[simp] theorem withAssembly_withAssembly (y z : List RxChar) : (m.withAssembly c y).withAssembly c z = m.withAssembly c z := by
  cases c <;> rfl

theorem withAssembly_self {m : Meas} {y : List RxChar} (h : assembly c m = y) : m.withAssembly c y = m := by
  subst h; cases c <;> rfl

theorem withState_self {m : Meas} {y : ConsoleState} (h : consoleState c m = y) : m.withState c y = m := by
  subst h; cases c <;> rfl

end Fields

/-! ## The assembly of a record (R109) -/

/-- The state with a partial record on a console's line. -/
def assembling (c : Console) (r : List RxChar) (s : State) : State := s.onMeas fun m => m.withAssembly c r

theorem assembling_assembling (c : Console) (r r' : List RxChar) (s : State) :
    assembling c r' (assembling c r s) = assembling c r' s := by
  simp only [assembling, State.onMeas, withAssembly_withAssembly]

theorem assembling_self (h : assembly c s.meas = r) : assembling c r s = s := by
  simp only [assembling, State.onMeas, withAssembly_self c h]

theorem recordLength_isSome (b : Byte) : (recordLength b).isSome = true ↔ b = 0xE5 ∨ b = 0xE6 := by
  unfold recordLength
  split
  next h5 => exact ⟨fun _ => .inl h5, fun _ => rfl⟩
  next h5 =>
    split
    next h6 => exact ⟨fun _ => .inr h6, fun _ => rfl⟩
    next h6 => exact ⟨fun h => (nomatch h), fun h => absurd h (not_or.mpr ⟨h5, h6⟩)⟩

theorem consoleByte_of_disabled (h : consoleState c s.meas = .disabled) (x : RxChar) : consoleByte c s x = s := if_pos h

/-- A byte on a line without a partial record is a lead or falls away. -/
theorem consoleByte_of_none (hon : consoleState c s.meas ≠ .disabled) (hnone : assembly c s.meas = []) (x : RxChar) :
    consoleByte c s x = assembling c (if x.byte = 0xE5 ∨ x.byte = 0xE6 then [x] else []) s := by
  unfold consoleByte
  rw [if_neg hon, hnone]
  by_cases hlead : x.byte = 0xE5 ∨ x.byte = 0xE6
  · rw [if_pos hlead]
    exact if_pos ((recordLength_isSome x.byte).mpr hlead)
  · rw [if_neg hlead, assembling_self hnone]
    exact if_neg fun h => hlead ((recordLength_isSome x.byte).mp h)

theorem consoleByte_of_partial {lead : RxChar} {rest : List RxChar} (hon : consoleState c s.meas ≠ .disabled) (x : RxChar) :
    consoleByte c (assembling c (lead :: rest) s) x =
      if (lead :: (rest ++ [x])).length < (recordLength lead.byte).getD 0 then assembling c (lead :: (rest ++ [x])) s
      else judgeRecord c (lead :: (rest ++ [x])) (assembling c [] s) := by
  have hstate : consoleState c (assembling c (lead :: rest) s).meas ≠ .disabled := by simpa [assembling] using hon
  have hasm : assembly c (assembling c (lead :: rest) s).meas = lead :: rest := by simp [assembling]
  unfold consoleByte
  rw [if_neg hstate, hasm]
  refine if_congr Iff.rfl ?_ ?_
  · exact assembling_assembling c _ _ s
  · exact congrArg (judgeRecord c _) (assembling_assembling c _ _ s)

/-- The bytes that complete a partial record. -/
theorem consoleBytes_of_partial (hon : consoleState c s.meas ≠ .disabled) {lead : RxChar} {n : Nat}
    (hn : recordLength lead.byte = some n) {xs : List RxChar} (hxs : xs ≠ []) {rest : List RxChar}
    (hlen : (lead :: (rest ++ xs)).length = n) :
    consoleBytes c xs (assembling c (lead :: rest) s) = judgeRecord c (lead :: (rest ++ xs)) (assembling c [] s) := by
  induction xs generalizing rest with
  | nil => exact absurd rfl hxs
  | cons x xs ih =>
    change consoleBytes c xs (consoleByte c (assembling c (lead :: rest) s) x) = _
    rw [consoleByte_of_partial hon, hn, Option.getD_some]
    simp only [List.length_cons, List.length_append, List.length_nil] at hlen ⊢
    cases xs with
    | nil =>
      rw [if_neg (by simp at hlen; omega)]
      rfl
    | cons y ys =>
      have hassoc : rest ++ x :: y :: ys = (rest ++ [x]) ++ y :: ys := by simp
      rw [if_pos (by simp at hlen; omega), ih (List.cons_ne_nil y ys) (by simp at hlen ⊢; omega), hassoc]

/-- A whole record on a line without a partial one is judged. -/
theorem consoleBytes_of_record (hon : consoleState c s.meas ≠ .disabled) (hnone : assembly c s.meas = []) {lead id : RxChar}
    {rest : List RxChar} (hlen : recordLength lead.byte = some (lead :: id :: rest).length) :
    consoleBytes c (lead :: id :: rest) s = judgeRecord c (lead :: id :: rest) s := by
  change consoleBytes c (id :: rest) (consoleByte c s lead) = _
  have hlead : lead.byte = 0xE5 ∨ lead.byte = 0xE6 := (recordLength_isSome _).mp (by rw [hlen]; rfl)
  rw [consoleByte_of_none hon hnone, if_pos hlead,
    consoleBytes_of_partial (rest := []) hon hlen (List.cons_ne_nil id rest) rfl, assembling_self hnone]
  rfl

theorem consoleBytes_of_disabled (h : consoleState c s.meas = .disabled) (xs : List RxChar) : consoleBytes c xs s = s := by
  induction xs with
  | nil => rfl
  | cons x xs ih =>
    change consoleBytes c xs (consoleByte c s x) = s
    rw [consoleByte_of_disabled h, ih]

/-! ## The tests of a record (R109) -/

theorem recordOk_clean {bs : List Byte} (hsum : bs.sum = 0) (hid : bs[1]? = some (consoleId c)) : recordOk c (clean bs) = true := by
  have hbytes : (clean bs).map RxChar.byte = bs := by simp [clean, Function.comp_def]
  have hall : (clean bs).all (fun x => !x.framing) = true := by simp [clean]
  have hget : (clean bs)[1]?.map RxChar.byte = bs[1]? := by simp [clean, Function.comp_def]
  simp [recordOk, hall, hbytes, hsum, hget, hid]

theorem sum_sumCheck (bs : List Byte) : (bs ++ [sumCheck bs]).sum = 0 := by
  simp [sumCheck]

theorem heartbeatOk (c : Console) : recordOk c (clean (heartbeatBytes c)) = true :=
  recordOk_clean (sum_sumCheck [0xE6#8, consoleId c]) rfl

theorem markRecordOk (c : Console) (bib raw edit : Nat) : recordOk c (clean (markRecordBytes c bib raw edit)) = true :=
  recordOk_clean (sum_sumCheck _) rfl

theorem recordOk_false {lead id : RxChar} {rest : List RxChar} (h : (∃ x ∈ lead :: id :: rest, x.framing = true) ∨
    ((lead :: id :: rest).map RxChar.byte).sum ≠ 0 ∨ id.byte ≠ consoleId c) : recordOk c (lead :: id :: rest) = false := by
  rw [Bool.eq_false_iff]
  intro hok
  simp only [recordOk, Bool.and_eq_true, List.all_eq_true, beq_iff_eq, List.getElem?_cons_succ, List.getElem?_cons_zero,
    Option.map_some, Option.some.injEq, Bool.not_eq_true'] at hok
  obtain ⟨⟨hframing, hsum⟩, hid⟩ := hok
  rcases h with ⟨x, hx, herr⟩ | hbad | hbad
  · rw [hframing x hx] at herr
    cases herr
  · exact hbad hsum
  · exact hbad hid

/-! ## A valid arrival (R110) -/

theorem heardFrom_of_active (h : consoleState c s.meas = .active) : heardFrom c s.meas = s.meas.withSilence c (some 5000) :=
  withState_self c ((consoleState_withSilence c s.meas _).trans h)

theorem validArrival_eq (hon : consoleState c s.meas ≠ .disabled) : validArrival c s =
    (wakes c s).foldl (fun s b => notify b s) (s.onMeas (heardFrom c)) := by
  unfold validArrival wakes
  cases hstate : consoleState c s.meas with
  | disabled => exact absurd hstate hon
  | silent =>
    simp only [State.onMeas_meas, consoleState_withSilence, hstate, if_true]
    rfl
  | active =>
    simp only [State.onMeas_meas, consoleState_withSilence, hstate, reduceCtorEq, if_false, List.foldl_nil]
    simp only [State.onMeas, heardFrom_of_active hstate]

theorem validArrival_cases (hon : consoleState c s.meas ≠ .disabled) : validArrival c s = s.onMeas (heardFrom c) ∨
    validArrival c s = notify (.console c .silent .active) (s.onMeas (heardFrom c)) := by
  rw [validArrival_eq hon]
  unfold wakes
  split
  · exact .inr rfl
  · exact .inl rfl

theorem Machine.Tells.validArrival {ks : List Key} {ns : List NoticeBody} {d : Diag} {sub : Subjects} (h : Tells v ks ns d sub w)
    (hon : consoleState c w.meas ≠ .disabled) : Tells v ks (ns ++ wakes c w) d sub (validArrival c w) := by
  rw [validArrival_eq hon]
  unfold wakes
  split
  · exact (h.onMeas _).notify _
  · rw [List.append_nil]
    exact h.onMeas _

theorem validArrival_meas (hon : consoleState c s.meas ≠ .disabled) : (validArrival c s).meas = heardFrom c s.meas := by
  rcases validArrival_cases hon with h | h <;> rw [h] <;> rfl

theorem validArrival_only (hon : consoleState c s.meas ≠ .disabled) : OnlyChanges [.link, .meas] s (validArrival c s) := by
  rcases validArrival_cases hon with h | h <;> rw [h] <;>
    exact ⟨fun b hb => by cases b <;> simp [SameBlock] at hb ⊢, rfl, rfl⟩

theorem judgeRecord_heartbeat (c : Console) (s : State) : judgeRecord c (clean (heartbeatBytes c)) s = validArrival c s :=
  if_pos (heartbeatOk c)

/-- A mark record carries its bib, its raw coordinate and its edit count. -/
theorem judgeRecord_mark {bib raw edit : Nat} (hbib : bib < 1024) (hraw : raw < 65536) (hedit : edit < 64) (c : Console) (s : State) :
    judgeRecord c (clean (markRecordBytes c bib raw edit)) s = handleMark c bib raw edit (validArrival c s) := by
  have hhead : u16 (byte ((edit * 1024 + bib) / 256)) (byte (edit * 1024 + bib)) = edit * 1024 + bib := u16_bytes (by omega)
  have htail : u16 (byte (raw / 256)) (byte raw) = raw := u16_bytes hraw
  have hmod : (edit * 1024 + bib) % 1024 = bib := by omega
  have hdiv : (edit * 1024 + bib) / 1024 = edit := by omega
  have hbytes : (clean (markRecordBytes c bib raw edit)).map RxChar.byte = markRecordBytes c bib raw edit := by
    simp [clean, Function.comp_def]
  rw [judgeRecord, if_pos (markRecordOk c bib raw edit), hbytes]
  change handleMark c (u16 (byte ((edit * 1024 + bib) / 256)) (byte (edit * 1024 + bib)) % 1024) (u16 (byte (raw / 256)) (byte raw))
    (u16 (byte ((edit * 1024 + bib) / 256)) (byte (edit * 1024 + bib)) / 1024) (validArrival c s) = _
  rw [hhead, htail, hmod, hdiv]

theorem judgeRecord_bad (h : recordOk c r = false) (s : State) : judgeRecord c r s = count .markBad s := by
  rw [judgeRecord, h]
  exact if_neg Bool.false_ne_true

/-! ## The commands (R109, R110, R111) -/

theorem Given.wakes (h : Given s v) (c : Console) : wakes c v = wakes c s := by unfold Sys2Proof.wakes; rw [h.meas]

theorem assembling_only (c : Console) (r : List RxChar) (v : State) : OnlyChanges [.meas] v (assembling c r v) :=
  ⟨fun b hb => by cases b <;> simp [SameBlock, assembling] at hb ⊢, rfl, rfl⟩

variable (hon : consoleState c s.meas ≠ .disabled) (hnone : assembly c s.meas = [])

include hon hnone

theorem heartbeat_arrives : Happens (.heartbeat c (clean (heartbeatBytes c))) [.meas] s fun t =>
    t.meas = heardFrom c s.meas ∧ LinkKept s t ∧ Boards [] s t ∧ Sends (wakes c s) s t := by
  have hv := Given.startTx s
  have heffect : consoleBytes c (clean (heartbeatBytes c)) (startTx s) = validArrival c (startTx s) := by
    rw [← judgeRecord_heartbeat]
    exact consoleBytes_of_record (by rw [hv.meas]; exact hon) (by rw [hv.meas]; exact hnone) rfl
  have hon' : consoleState c (startTx s).meas ≠ .disabled := by rw [hv.meas]; exact hon
  have hchain := (Tells.refl (startTx s)).validArrival hon'
  rw [hv.wakes] at hchain
  refine Happens.of_block rfl heffect ((validArrival_only hon').mono (by simp)) fun t ht => ?_
  obtain ⟨hlink, -, hboards, hsaid⟩ := told ht hchain hv.brd
  exact ⟨by rw [ht.meas, validArrival_meas hon', hv.meas], hlink, hboards, (hsaid (.inl rfl)).2⟩

theorem markRecord_effect {bib raw edit : Nat} (hbib : bib < 1024) (hraw : raw < 65536) (hedit : edit < 64) :
    consoleBytes c (clean (markRecordBytes c bib raw edit)) (startTx s) = handleMark c bib raw edit (validArrival c (startTx s)) := by
  have hv := Given.startTx s
  rw [← judgeRecord_mark hbib hraw hedit]
  exact consoleBytes_of_record (by rw [hv.meas]; exact hon) (by rw [hv.meas]; exact hnone) rfl

/-- A mark that no attempt takes (R111). -/
theorem markRecord_stray {bib raw edit : Nat} (hbib : bib < 1024) (hraw : raw < 65536) (hedit : edit < 64)
    (hmatch : matchMark s bib = none) :
    Happens (.markRecord c (clean (markRecordBytes c bib raw edit))) [.meas, .diag] s fun t =>
      t.meas = heardFrom c s.meas ∧ t.diag = counted .markStray s ∧ LinkKept s t ∧ Boards [] s t
        ∧ Sends (wakes c s ++ overflows .markStray s ++ [.markStray c bib raw edit]) s t := by
  have hv := Given.startTx s
  have hon' : consoleState c (startTx s).meas ≠ .disabled := by rw [hv.meas]; exact hon
  have honly := validArrival_only hon'
  have hcst : (validArrival c (startTx s)).cst = s.cst := (honly.1 .cst (by simp)).trans hv.cst
  have heffect := markRecord_effect hon hnone hbib hraw hedit
  have hstray : matchMark (validArrival c (startTx s)) bib = none := by
    rw [← hmatch]
    unfold matchMark hasOpenRound takesMark
    rw [hcst]
  have hhandle : handleMark c bib raw edit (validArrival c (startTx s)) =
      notify (.markStray c bib raw edit) (count .markStray (validArrival c (startTx s))) := by
    simp only [handleMark, hstray]
  rw [hhandle] at heffect
  have hchain := (((Tells.refl (startTx s)).validArrival hon').count (hcst.trans hv.cst.symm ▸ rfl) .markStray).notify
    (.markStray c bib raw edit)
  rw [hv.wakes, hv.overflows, hv.counted] at hchain
  refine Happens.of_block rfl heffect ((honly.mono (by simp)).trans
    ⟨fun b hb => by cases b <;> simp [SameBlock] at hb ⊢, by simp, by simp⟩) fun t ht => ?_
  obtain ⟨hlink, -, hboards, hsaid⟩ := told ht hchain hv.brd
  obtain ⟨hdiag, hsends⟩ := hsaid (.inl rfl)
  exact ⟨by rw [ht.meas, notify_meas, count_meas, validArrival_meas hon', hv.meas], hdiag, hlink, hboards, hsends⟩

/-- A record that fails a test is counted, and leaves the console as it was (R109). -/
theorem badRecord_counted {lead id : RxChar} {rest : List RxChar} {i : Instr}
    (hi : i = .markRecord c (lead :: id :: rest) ∨ i = .heartbeat c (lead :: id :: rest))
    (hlen : recordLength lead.byte = some (lead :: id :: rest).length) (hbad : recordOk c (lead :: id :: rest) = false) :
    Happens i [.diag] s fun t => t.diag = counted .markBad s ∧ OnlySends (overflows .markBad s) s t := by
  have hv := Given.startTx s
  have heffect : consoleBytes c (lead :: id :: rest) (startTx s) = count .markBad (startTx s) := by
    rw [← judgeRecord_bad hbad]
    exact consoleBytes_of_record (by rw [hv.meas]; exact hon) (by rw [hv.meas]; exact hnone) hlen
  have hexec : exec i s = command (consoleBytes c (lead :: id :: rest)) s := by rcases hi with rfl | rfl <;> rfl
  have hchain := (Tells.refl (startTx s)).count rfl .markBad
  rw [hv.overflows, hv.counted] at hchain
  refine Happens.of_block hexec heffect ⟨fun b hb => by cases b <;> simp [SameBlock] at hb ⊢, by simp, by simp⟩ fun t ht => ?_
  obtain ⟨hlink, hsub, hboards, hsaid⟩ := told ht hchain hv.brd
  obtain ⟨hdiag, hsends⟩ := hsaid (.inl rfl)
  exact ⟨hdiag, hlink, hboards, hsub.trans (by rw [hv.brd]), hsends⟩

/-- A gap without a partial record: its byte begins one or falls away. -/
theorem recordGap_empty (x : RxChar) : Happens (.recordGap c x) [.meas] s fun t => Quiet s t
    ∧ assembly c t.meas = if x.byte = 0xE5 ∨ x.byte = 0xE6 then [x] else [] := by
  have hv := Given.startTx s
  have heffect : consoleByte c (dropPartialRecord c (startTx s)) x =
      assembling c (if x.byte = 0xE5 ∨ x.byte = 0xE6 then [x] else []) (startTx s) := by
    rw [dropPartialRecord, if_pos (.inr (by rw [hv.meas]; exact hnone))]
    exact consoleByte_of_none (by rw [hv.meas]; exact hon) (by rw [hv.meas]; exact hnone) x
  refine Happens.of_block (f := fun s => consoleByte c (dropPartialRecord c s) x) rfl heffect ((assembling_only c _ _).mono (by simp))
    fun t ht => ⟨ht.quiet rfl hv.brd, ?_⟩
  rw [ht.meas]
  exact assembly_withAssembly c _ _

omit hnone in
/-- A gap within a record counts it as bad (R109). -/
theorem recordGap_partial (hsome : assembly c s.meas ≠ []) (x : RxChar) :
    Happens (.recordGap c x) [.meas, .diag] s fun t =>
      assembly c t.meas = (if x.byte = 0xE5 ∨ x.byte = 0xE6 then [x] else []) ∧ t.diag = counted .markBad s
        ∧ LinkKept s t ∧ Boards [] s t ∧ Sends (overflows .markBad s) s t := by
  have hv := Given.startTx s
  have heffect : consoleByte c (dropPartialRecord c (startTx s)) x =
      assembling c (if x.byte = 0xE5 ∨ x.byte = 0xE6 then [x] else []) (count .markBad (assembling c [] (startTx s))) := by
    rw [dropPartialRecord, hv.meas, if_neg fun h => h.elim hon hsome]
    refine consoleByte_of_none ?_ ?_ x
    · rw [count_meas]
      simpa [assembling] using hon
    · rw [count_meas]
      exact assembly_withAssembly c _ _
  have hchain := (((Tells.refl (startTx s)).onMeas fun m => m.withAssembly c []).count rfl .markBad).onMeas fun m =>
    m.withAssembly c (if x.byte = 0xE5 ∨ x.byte = 0xE6 then [x] else [])
  rw [hv.overflows, hv.counted] at hchain
  refine Happens.of_block (f := fun s => consoleByte c (dropPartialRecord c s) x) rfl heffect
    ⟨fun b hb => by cases b <;> simp [SameBlock, assembling] at hb ⊢, by simp [assembling], by simp [assembling]⟩ fun t ht => ?_
  obtain ⟨hlink, -, hboards, hsaid⟩ := told ht hchain hv.brd
  obtain ⟨hdiag, hsends⟩ := hsaid (.inl rfl)
  refine ⟨?_, hdiag, hlink, hboards, hsends⟩
  rw [ht.meas]
  exact assembly_withAssembly c _ _

omit hon hnone in
/-- A DISABLED console's line is not received. -/
theorem consoleLine_disabled (hoff : consoleState c s.meas = .disabled) {i : Instr}
    (hi : (∃ xs, i = .markRecord c xs ∨ i = .heartbeat c xs) ∨ ∃ x, i = .recordGap c x) : Happens i [] s (Quiet s) := by
  have hv := Given.startTx s
  have hoff' : consoleState c (startTx s).meas = .disabled := by rw [hv.meas]; exact hoff
  have hquiet : ∀ t, After s (startTx s) (startTx s) t → Quiet s t := fun t ht => ht.quiet rfl hv.brd
  rcases hi with ⟨xs, rfl | rfl⟩ | ⟨x, rfl⟩
  · exact Happens.of_block rfl (consoleBytes_of_disabled hoff' xs) (.refl _ _) hquiet
  · exact Happens.of_block rfl (consoleBytes_of_disabled hoff' xs) (.refl _ _) hquiet
  · have heffect : consoleByte c (dropPartialRecord c (startTx s)) x = startTx s := by
      rw [dropPartialRecord, if_pos (.inl hoff')]
      exact consoleByte_of_disabled hoff' x
    exact Happens.of_block (f := fun s => consoleByte c (dropPartialRecord c s) x) rfl heffect (.refl _ _) hquiet

omit hon hnone in
/-- Settles O43: each record is assembled, judged and taken as an arrival or counted. -/
theorem consoleRecordsAreTakenOrCounted : Obligations.ConsoleRecordsAreTakenOrCounted := by
  refine ⟨fun s c hnone hon => ⟨?_, fun bib raw edit hbib hraw hedit hmatch => markRecord_stray hon hnone hbib hraw hedit hmatch,
    recordGap_empty hon hnone, fun i r rest lead id hi hr hlen hbad => ?_⟩, fun s c i hoff hi => consoleLine_disabled hoff hi,
    fun s c x hsome hon => recordGap_partial hon hsome x⟩
  · obtain ⟨t, hexec, honly, hmeas, hlink, hboards, hsends⟩ := heartbeat_arrives hon hnone
    refine ⟨t, hexec, honly, hlink, hboards, fun hactive => ?_, fun hsilent => ?_⟩
    · rw [hmeas, heardFrom_of_active hactive]
      rw [wakes, hactive] at hsends
      exact ⟨rfl, hsends⟩
    · rw [wakes, hsilent] at hsends
      exact ⟨hmeas, hsends⟩
  · subst hr
    refine badRecord_counted hon hnone hi ?_ (recordOk_false hbad)
    rcases hlen with ⟨hlead, hlen⟩ | ⟨hlead, hlen⟩ <;> rw [hlead, hlen] <;> rfl

end Sys2Proof

/-! PROOFS. An attempt leaves the hill into SCORING, and MEAS resolves its distance (R101, R102, R108, R114, R116). -/

namespace Sys2Proof

open Machine

variable {s t u v w x : State} {a b r : Attempt} {n : Nat} {f g : Attempt → Attempt} {cause : EndCause}

/-! ## The steps of the end of the on-hill phase, each as one change of the record -/

/-- MEAS with its trap off. -/
def trapOff (m : Meas) : Meas := { m with trap := .off, trapAttempt := none, trapTimer := none }

/-- The record after the trap has ended (R108). -/
def trapEnded (trap : TrapState) (r : Attempt) : Attempt :=
  { r with faults := if trap = .ready ∨ trap = .counting then joined .speedMissing r.faults else r.faults }

/-- The record after its wind window has closed with a figure of the samples (R101, R102). -/
def windClosed (samples : List Int) (r : Attempt) : Attempt :=
  { r with windStatus := some (if samples = [] then .absent else .computed), wind := windFigure samples,
           faults := if samples = [] then joined .noWind r.faults else r.faults }

/-- The record of an attempt that leaves the hill. -/
def offHillRecord (samples : List Int) (trap : TrapState) (r : Attempt) : Attempt := windClosed samples (trapEnded trap r)

theorem changed_id (n : Nat) (c : Cst) : changed n (fun r => r) c = c := by
  simp [changed]

theorem endTrap_eq (n : Nat) (s : State) :
    endTrap n s = (s.onCst (changed n (trapEnded s.meas.trap))).onMeas trapOff := by
  unfold endTrap
  by_cases h : s.meas.trap = .ready ∨ s.meas.trap = .counting
  · have hf : trapEnded s.meas.trap = fun r => { r with faults := joined .speedMissing r.faults } := by
      funext r; simp only [trapEnded, if_pos h]
    simp only [if_pos h, addFault_eq, hf]
    rfl
  · have hf : trapEnded s.meas.trap = fun r => r := by
      funext r; simp only [trapEnded, if_neg h]
    simp only [if_neg h, hf, State.onCst, changed_id]
    rfl

theorem closeWindow_eq (hb : attempt? s n = some b) :
    closeWindow n s = checkCompletion n ((dropWindow s).onCst (changed n (windClosed b.samples))) := by
  have hb' : attempt? (dropWindow s) n = some b := hb
  unfold closeWindow
  simp only [hb']
  by_cases hsamples : b.samples = []
  · have hnone : windFigure b.samples = none := if_pos hsamples
    have hf : windClosed b.samples = fun r => { r with windStatus := some .absent, wind := none, faults := joined .noWind r.faults } := by
      funext r; simp only [windClosed, if_pos hsamples, hnone]
    simp only [hnone, addFault_eq, hf]
    exact congrArg (checkCompletion n) (setAttempt_onCst_changed (f := fun r => { r with windStatus := some .absent, wind := none })
      (fun _ => rfl) (dropWindow s))
  · have hsome := windFigure_of_ne_nil hsamples
    have hf : windClosed b.samples = fun r => { r with windStatus := some .computed, wind := windFigure b.samples } := by
      funext r; simp only [windClosed, if_neg hsamples]
    rw [hf, hsome]
    rfl

/-- The records, MEAS and WLN once an attempt is off the hill. -/
def offHill (n : Nat) (samples : List Int) (s : State) : State :=
  dropWindow ((s.onCst (changed n (offHillRecord samples s.meas.trap))).onMeas trapOff)

/-- A record's distance is open. -/
def DistanceOpen (r : Attempt) : Prop := r.distanceStatus ≠ .agreed ∧ r.distanceStatus ≠ .single ∧ r.distanceStatus ≠ .jury

theorem DistanceOpen.not_settled (h : DistanceOpen r) : settled r = false := by
  obtain ⟨hagreed, hsingle, hjury⟩ := h
  exact Bool.eq_false_iff.mpr fun hs => by
    rcases ((settled_iff r).mp hs).1 with hd | hd | hd
    exacts [hagreed hd, hsingle hd, hjury hd]

theorem closeWindow_endTrap (hb : attempt? x n = some b) (hopen : DistanceOpen b) :
    closeWindow n (endTrap n x) = offHill n b.samples x := by
  have hx : attempt? (endTrap n x) n = some (trapEnded x.meas.trap b) := by
    rw [endTrap_eq]
    exact attempt_changed_same (f := trapEnded x.meas.trap) (fun _ => rfl) rfl hb
  have hrecord : (dropWindow (endTrap n x)).onCst (changed n (windClosed b.samples)) = offHill n b.samples x := by
    rw [endTrap_eq]
    exact congrArg (fun c => { dropWindow (x.onMeas trapOff) with cst := c })
      (changed_changed (f := trapEnded x.meas.trap) (fun _ => rfl) x.cst)
  rw [closeWindow_eq hx]
  change checkCompletion n ((dropWindow (endTrap n x)).onCst (changed n (windClosed b.samples))) = _
  rw [hrecord]
  refine checkCompletion_of_not (a := offHillRecord b.samples x.meas.trap b)
    (attempt_changed_same (fun _ => rfl) rfl hb) (.inr (DistanceOpen.not_settled hopen))

theorem reportFaults_eq (hb : attempt? s n = some b) (cause : EndCause) :
    reportFaults n cause s = if b.faults = [] then s else notify (.attemptFaults n b.bib cause b.faults) s := by
  simp only [reportFaults, hb]

/-- An attempt `a` has left the hill, with `b` its record before: from `x` to `w`. -/
structure LeftHill (a b : Attempt) (cause : EndCause) (x w : State) : Prop where
  cst : w.cst = changed a.number (offHillRecord b.samples x.meas.trap) x.cst
  meas : w.meas = trapOff x.meas
  wln : w.wln = { x.wln with window := none }
  gate : w.gate = if a.coach.isSome then returned x.prof.profile.hill x.gate else x.gate
  only : OnlyChanges [.brd, .link, .cst, .gate, .wln, .meas, .diag] x w
  tells : Tells x (freedKeys a x) (endNotices a cause (offHillRecord b.samples x.meas.trap b).faults x) x.diag x.brd.subjects w

theorem leaveHill_left (hb : attempt? x a.number = some b) (hopen : DistanceOpen b) (hon : a.state.onHill = true)
    (hbib : b.bib = a.bib) (cause : EndCause) : LeftHill a b cause x (leaveHill a cause x) := by
  have hrecord : attempt? (notifyState a.number a.round a.bib (some a.state) .scoring (coachReturn a (offHill a.number b.samples x)))
      a.number = some (offHillRecord b.samples x.meas.trap b) :=
    attempt_changed_same (f := offHillRecord b.samples x.meas.trap) (fun _ => rfl)
      (by rw [notifyState_cst, coachReturn_cst]; rfl) hb
  have hw : leaveHill a cause x = reportFaults a.number cause
      (notifyState a.number a.round a.bib (some a.state) .scoring (coachReturn a (offHill a.number b.samples x))) := by
    rw [← closeWindow_endTrap hb hopen]
    rfl
  have hoff : (offHill a.number b.samples x).gate = x.gate := rfl
  have hchain := (((Tells.refl x).frame (u := offHill a.number b.samples x) rfl rfl rfl).coachReturn hon).notifyState
    a.number a.round a.bib (some a.state) .scoring
  rw [freedKeys_congr hoff, freedNotices_congr hoff] at hchain
  rw [hw]
  refine ⟨?_, ?_, ?_, ?_, ⟨fun b hb => ?_, ?_, ?_⟩, ?_⟩
  · rw [reportFaults_cst, notifyState_cst, coachReturn_cst]; rfl
  · rw [reportFaults_meas, notifyState_meas, coachReturn_meas]; rfl
  · rw [reportFaults_wln, notifyState_wln, coachReturn_wln]; rfl
  · rw [reportFaults_gate, notifyState_gate, coachReturn_gate hon]; rfl
  · cases b <;> simp [SameBlock, offHill, dropWindow] at hb ⊢
  · simp [offHill, dropWindow]
  · simp [offHill, dropWindow]
  · rw [reportFaults_eq hrecord]
    have hbib' : (offHillRecord b.samples x.meas.trap b).bib = a.bib := hbib
    unfold endNotices
    split
    · exact hchain
    · have hall := hchain.notify (.attemptFaults a.number (offHillRecord b.samples x.meas.trap b).bib cause
        (offHillRecord b.samples x.meas.trap b).faults)
      rw [hbib', List.append_assoc] at hall
      rw [hbib']
      simpa using hall

end Sys2Proof

/-! PROOFS. MEAS resolves an attempt's distance from its marks, as an input to its scoring (R112, R116, R117). -/

namespace Sys2Proof

open Machine

variable {s t u v w x : State} {a b r : Attempt} {n : Nat} {f g : Attempt → Attempt} {ks : List Key} {ns : List NoticeBody}

/-- The record with a resolution of its distance, and CONSOLE_DISAGREE where it enters HELD by it. -/
def resolvedAs (res : Option Nat × DistanceStatus) (held : Bool) (r : Attempt) : Attempt :=
  { r with distance := res.1, distanceStatus := res.2,
           faults := if held then joined .consoleDisagree r.faults else r.faults }

/-- The second-mark waits after a resolution (R116, R117). -/
def waitsAfter (n wait : Nat) (old new : DistanceStatus) (ws : List (Nat × Nat)) : List (Nat × Nat) :=
  if new = .pendingSecond then if old = .pendingSecond then ws else ws ++ [(n, wait)] else ws.filter fun w => w.1 != n

/-- A resolution enters HELD from another status. -/
def entersHeld (res : Option Nat × DistanceStatus) (b : Attempt) : Bool := res.2 == .held && b.distanceStatus != .held

theorem entersHeld_iff (res : Option Nat × DistanceStatus) (b : Attempt) :
    entersHeld res b = true ↔ res.2 = .held ∧ b.distanceStatus ≠ .held := by simp [entersHeld]

theorem followWait_eq (n : Nat) (old new : DistanceStatus) (s : State) : followWait n old new s =
    s.onMeas fun m => { m with waits := waitsAfter n s.prof.profile.hill.secondMarkWait old new m.waits } := by
  unfold followWait waitsAfter
  by_cases hnew : new = .pendingSecond
  · by_cases hold : old = .pendingSecond
    · simp only [if_pos hnew, if_pos hold, State.onMeas]
    · simp only [if_pos hnew, if_neg hold, State.onMeas]
  · simp only [if_neg hnew]
    rfl

/-- The DISTANCE_HELD notice by the marks of a record. -/
def heldNotice (b : Attempt) : NoticeBody :=
  .distanceHeld b.number b.bib ((b.markA.map ConsoleMark.d).getD 0) ((b.markB.map ConsoleMark.d).getD 0)

/-- The records, the waits and the notice of a resolution, before the announcement and SCR's check. -/
def resolving (b : Attempt) (res : Option Nat × DistanceStatus) (x : State) : State :=
  followWait b.number b.distanceStatus res.2
    (if entersHeld res b then notify (heldNotice b) (x.onCst (changed b.number (resolvedAs res true)))
      else x.onCst (changed b.number (resolvedAs res false)))

theorem resolve_eq (hb : attempt? x n = some b) : resolve n x = checkCompletion n (announceDistance n b.distance
    (resolution x.prof.profile.hill x.meas b).1 (resolving b (resolution x.prof.profile.hill x.meas b) x)) := by
  have hn := attempt_number hb
  subst hn
  generalize hres : resolution x.prof.profile.hill x.meas b = res
  have hheld : reportHeld b (setAttempt b.number (fun y => { y with distance := res.1, distanceStatus := res.2 }) x) =
      notify (heldNotice b) (x.onCst (changed b.number (resolvedAs res true))) := by
    rw [reportHeld, addFault_eq]
    exact congrArg (notify (heldNotice b)) (setAttempt_onCst_changed
      (f := fun y => { y with distance := res.1, distanceStatus := res.2 }) (fun _ => rfl) x)
  unfold resolve resolving
  simp only [hb, hres, ← hheld, entersHeld_iff]
  rfl

theorem resolving_cst (b : Attempt) (res : Option Nat × DistanceStatus) (x : State) :
    (resolving b res x).cst = changed b.number (resolvedAs res (entersHeld res b)) x.cst := by
  unfold resolving
  rw [followWait_cst]
  cases entersHeld res b <;> rfl

theorem resolving_meas (b : Attempt) (res : Option Nat × DistanceStatus) (x : State) : (resolving b res x).meas =
    { x.meas with waits := waitsAfter b.number x.prof.profile.hill.secondMarkWait b.distanceStatus res.2 x.meas.waits } := by
  unfold resolving
  rw [followWait_eq]
  cases entersHeld res b <;> rfl

theorem resolving_only (b : Attempt) (res : Option Nat × DistanceStatus) (x : State) :
    OnlyChanges [.link, .cst, .meas] x (resolving b res x) := by
  unfold resolving
  rw [followWait_eq]
  cases entersHeld res b <;> exact ⟨fun b hb => by cases b <;> simp [SameBlock] at hb ⊢, rfl, rfl⟩

theorem resolving_tells {d : Diag} {sub : Subjects} (h : Tells v ks ns d sub x) (b : Attempt) (res : Option Nat × DistanceStatus) :
    Tells v ks (ns ++ if entersHeld res b then [heldNotice b] else []) d sub (resolving b res x) := by
  unfold resolving
  rw [followWait_eq]
  cases entersHeld res b
  · rw [if_neg Bool.false_ne_true, if_neg Bool.false_ne_true, List.append_nil]
    exact (h.onCst _).onMeas _
  · rw [if_pos rfl, if_pos rfl]
    exact ((h.onCst _).notify _).onMeas _

/-- Before a resolution the record has changed by `g`, which leaves what the resolution does not write. -/
structure Before (a : Attempt) (g : Attempt → Attempt) (ks : List Key) (ns : List NoticeBody) (v x : State) : Prop where
  keeps : ∀ y, (g y).number = y.number ∧ (g y).round = y.round ∧ (g y).bib = y.bib ∧ (g y).points = y.points
  unscored : a.state ≠ .complete ∧ (g a).state ≠ .complete
  distance : (g a).distance = a.distance
  cst : x.cst = changed a.number g v.cst
  scr : x.scr = v.scr
  prof : x.prof = v.prof
  reference : x.gate.reference = v.gate.reference
  tells : Tells v ks ns v.diag v.brd.subjects x

theorem Before.attempt (h : Before a g ks ns v x) (ha : attempt? v a.number = some a) : attempt? x a.number = some (g a) :=
  attempt_changed_same (fun y => (h.keeps y).1) (by rw [h.cst]) ha

/-- A resolution after the change is an input to the attempt's scoring, followed by SCR's check. -/
theorem Before.resolve (h : Before a g ks ns v x) (ha : attempt? v a.number = some a) {res : Option Nat × DistanceStatus}
    (hres : resolution x.prof.profile.hill x.meas (g a) = res) :
    Machine.resolve a.number x = checkCompletion a.number (announceDistance a.number a.distance res.1 (resolving (g a) res x))
      ∧ Input a (fun y => resolvedAs res (entersHeld res (g a)) (g y)) ks
        (ns ++ if entersHeld res (g a) then [heldNotice (g a)] else []) v.brd.subjects v
        (announceDistance a.number a.distance res.1 (resolving (g a) res x)) := by
  have honly := resolving_only (g a) res x
  refine ⟨?_, .of_announced (f := fun y => resolvedAs res (entersHeld res (g a)) (g y)) h.keeps
    ⟨fun hc => absurd hc h.unscored.2, fun hc => absurd hc h.unscored.1⟩ ?_ ?_ ?_ ?_ (resolving_tells h.tells (g a) res)⟩
  · rw [resolve_eq (h.attempt ha), hres, h.distance]
  · rw [resolving_cst, (h.keeps a).1, h.cst]
    exact changed_changed (fun y => (h.keeps y).1) v.cst
  · exact (honly.1 .scr (by simp)).trans h.scr
  · exact (honly.1 .prof (by simp)).trans h.prof
  · rw [show (resolving (g a) res x).gate = x.gate from honly.1 .gate (by simp)]
    exact h.reference

/-- An event that gives an attempt an input, by the check that SCR does after it. -/
theorem Happens.of_input {i : Instr} {e : State → State} {bs : List Block} {base : Subjects} {P : State → Prop}
    (he : exec i s = command e s) (ha : attempt? s a.number = some a) (h : Input a f ks ns base (startTx s) w)
    (hu : Followed (f a) w r u) (hr : e (startTx s) = u) (hlen : ks.length ≤ 3)
    (honly : OnlyChanges (.brd :: .link :: bs) (startTx s) w) (hbs : [.cst, .scr, .diag] ⊆ bs)
    (hP : ∀ t, After s (startTx s) u t → attempt? t a.number = some r → Announces ks ns a r s t →
      t.brd.subjects = scoredSubjects a r base → LinkKept s t → P t) : Happens i bs s P := by
  have hv := Given.startTx s
  have hattempt : attempt? (startTx s) a.number = some a := (hv.attempt _).trans ha
  refine Happens.of_block he hr
    (honly.trans ((hu.only (h.attempt hattempt)).mono (List.cons_subset_cons _ (List.cons_subset_cons _ hbs)))) fun t ht => ?_
  obtain ⟨hrecord, hannounces, hsub, hkept⟩ := h.announces hattempt hu ht hv hlen
  exact hP t ht hrecord hannounces hsub hkept

end Sys2Proof

/-! PROOFS. A mark that an attempt takes: the first one ends the on-hill phase, a further one is resolved (R111 to R116). -/

namespace Sys2Proof

open Machine

variable {s t u v w x y : State} {a b r : Attempt} {c : Console} {m o old : ConsoleMark} {beyond : Bool}
  {bib raw edit : Nat}

/-! ## The mark in its slot (R112, R113) -/

/-- The record with a mark stored, and BEYOND_SURVEY with a mark outside the survey. -/
def storedMark (c : Console) (m : ConsoleMark) (beyond : Bool) (r : Attempt) : Attempt :=
  { withConsoleMark c m r with faults := if beyond then joined .beyondSurvey r.faults else r.faults }

/-- The mark of a record on a console's line, with its converted distance. -/
def markFrom (s : State) (raw edit : Nat) : ConsoleMark :=
  { raw, edit, d := (convertMark (s.prof.profile.survey.getD []) raw).1 }

/-- The mark lies beyond the survey. -/
def markBeyond (s : State) (raw : Nat) : Bool := (convertMark (s.prof.profile.survey.getD []) raw).2

theorem storeMark_eq (c : Console) (n raw edit : Nat) (s : State) :
    storeMark c n raw edit s = s.onCst (changed n (storedMark c (markFrom s raw edit) (markBeyond s raw))) := by
  unfold storeMark
  cases hbeyond : markBeyond s raw with
  | false =>
    have hstored : storedMark c (markFrom s raw edit) false = withConsoleMark c (markFrom s raw edit) := by
      funext r; cases c <;> rfl
    rw [hstored]
    exact if_neg (by rw [← Bool.not_eq_true] at hbeyond; exact hbeyond)
  | true =>
    have hstored : (fun r => { withConsoleMark c (markFrom s raw edit) r with
        faults := joined .beyondSurvey (withConsoleMark c (markFrom s raw edit) r).faults }) =
          storedMark c (markFrom s raw edit) true := by
      funext r; cases c <;> rfl
    rw [← hstored]
    refine (if_pos hbeyond).trans ?_
    rw [addFault_eq]
    exact setAttempt_onCst_changed (f := withConsoleMark c (markFrom s raw edit)) (fun r => by cases c <;> rfl) s

section Stored

variable (c : Console) (m : ConsoleMark) (beyond : Bool) (r : Attempt)

theorem storedMark_keeps : (storedMark c m beyond r).number = r.number ∧ (storedMark c m beyond r).round = r.round
    ∧ (storedMark c m beyond r).bib = r.bib ∧ (storedMark c m beyond r).points = r.points := by
  cases c <;> exact ⟨rfl, rfl, rfl, rfl⟩

theorem storedMark_state : (storedMark c m beyond r).state = r.state := by cases c <;> rfl
theorem storedMark_samples : (storedMark c m beyond r).samples = r.samples := by cases c <;> rfl
theorem storedMark_distance : (storedMark c m beyond r).distance = r.distance := by cases c <;> rfl
theorem storedMark_status : (storedMark c m beyond r).distanceStatus = r.distanceStatus := by cases c <;> rfl
theorem storedMark_mark : markOf c (storedMark c m beyond r) = some m := by cases c <;> rfl
theorem storedMark_other : markOf (otherConsole c) (storedMark c m beyond r) = markOf (otherConsole c) r := by cases c <;> rfl

end Stored

theorem markOf_congr {r r' : Attempt} (hA : r.markA = r'.markA) (hB : r.markB = r'.markB) (c : Console) : markOf c r = markOf c r' := by
  cases c
  · exact hA
  · exact hB

/-! ## The resolution by the marks (R116) -/

theorem resolution_one (h : HillSection) (ms : Meas) (hm : markOf c b = some m) (ho : markOf (otherConsole c) b = none) :
    resolution h ms b = resolveOne h.consoleBInUse (consoleState (otherConsole c) ms) b.distanceStatus m.d := by
  cases c <;> simp only [markOf, otherConsole] at hm ho <;> simp only [resolution, hm, ho] <;> rfl

theorem resolution_two (h : HillSection) (ms : Meas) (hm : markOf c b = some m) (ho : markOf (otherConsole c) b = some o) :
    resolution h ms b = resolveTwo h.tolerance (if c = .a then m.d else o.d) (if c = .a then o.d else m.d) := by
  cases c <;> simp only [markOf, otherConsole] at hm ho <;> simp only [resolution, hm, ho] <;> rfl

theorem resolveOne_not_held (inUse : Bool) (other : ConsoleState) (status : DistanceStatus) (d : Nat) (b : Attempt) :
    entersHeld (resolveOne inUse other status d) b = false := by
  unfold resolveOne
  split <;> rfl

theorem resolveOne_single {inUse : Bool} {other : ConsoleState} {status : DistanceStatus}
    (h : status = .single ∨ inUse = false ∨ other ≠ .active) (d : Nat) : resolveOne inUse other status d = (some d, .single) :=
  if_pos h

theorem resolveOne_pending {inUse : Bool} {other : ConsoleState} {status : DistanceStatus} (hs : status ≠ .single)
    (hu : inUse = true) (ho : other = .active) (d : Nat) : resolveOne inUse other status d = (none, .pendingSecond) :=
  if_neg fun h => by rcases h with h | h | h <;> simp_all

/-! ## The arrival of the mark (R111) -/

theorem matchMark_some (h : matchMark s bib = some a) : a ∈ s.cst.attempts
    ∧ (a.state = .inRun ∨ a.state = .flight ∨ a.state = .scoring) := by
  unfold matchMark at h
  split at h
  · have htakes := List.find?_some h
    simp only [takesMark, Bool.and_eq_true, Bool.or_eq_true, beq_iff_eq, or_assoc] at htakes
    exact ⟨List.mem_of_find?_eq_some h, htakes.1.2⟩
  · cases h

/-- A mark record with a matching attempt reaches it in the state that its arrival leaves. -/
theorem markRecord_matched (hon : consoleState c s.meas ≠ .disabled) (hnone : assembly c s.meas = []) (hbib : bib < 1024)
    (hraw : raw < 65536) (hedit : edit < 64) (hmatch : matchMark s bib = some a) :
    consoleBytes c (clean (markRecordBytes c bib raw edit)) (startTx s) = matchedMark c raw edit a (validArrival c (startTx s)) := by
  have hv := Given.startTx s
  have hon' : consoleState c (startTx s).meas ≠ .disabled := by rw [hv.meas]; exact hon
  have hcst : (validArrival c (startTx s)).cst = s.cst := ((validArrival_only hon').1 .cst (by simp)).trans hv.cst
  have hsame : matchMark (validArrival c (startTx s)) bib = some a := by
    rw [← hmatch]
    unfold matchMark hasOpenRound takesMark
    rw [hcst]
  rw [markRecord_effect hon hnone hbib hraw hedit]
  simp only [handleMark, hsame]

/-- The state after the arrival of a record, against the one that its command began in. -/
structure Heard (c : Console) (s y : State) : Prop where
  prof : y.prof = s.prof
  cst : y.cst = s.cst
  gate : y.gate = s.gate
  wln : y.wln = s.wln
  scr : y.scr = s.scr
  meas : y.meas = heardFrom c s.meas
  only : OnlyChanges [.link, .meas] (startTx s) y
  tells : Tells (startTx s) [] (wakes c s) (startTx s).diag (startTx s).brd.subjects y

theorem validArrival_heard (hon : consoleState c s.meas ≠ .disabled) : Heard c s (validArrival c (startTx s)) := by
  have hv := Given.startTx s
  have hon' : consoleState c (startTx s).meas ≠ .disabled := by rw [hv.meas]; exact hon
  have honly := validArrival_only hon'
  have htells := (Tells.refl (startTx s)).validArrival hon'
  rw [hv.wakes] at htells
  exact ⟨(honly.1 .prof (by simp)).trans hv.prof, (honly.1 .cst (by simp)).trans hv.cst, (honly.1 .gate (by simp)).trans hv.gate,
    (honly.1 .wln (by simp)).trans hv.wln, (honly.1 .scr (by simp)).trans hv.scr,
    by rw [validArrival_meas hon', hv.meas], honly, htells⟩

theorem Heard.mark (h : Heard c s y) (raw edit : Nat) : markFrom y raw edit = markFrom s raw edit ∧ markBeyond y raw = markBeyond s raw := by
  unfold markFrom markBeyond
  rw [h.prof]
  exact ⟨rfl, rfl⟩

theorem heardFrom_other (c : Console) (m : Meas) : consoleState (otherConsole c) (heardFrom c m) = consoleState (otherConsole c) m := by
  cases c <;> rfl

theorem heardFrom_rest (c : Console) (m : Meas) : (heardFrom c m).trap = m.trap ∧ (heardFrom c m).waits = m.waits := by
  cases c <;> exact ⟨rfl, rfl⟩

end Sys2Proof

/-! PROOFS. The first mark of an attempt in the air (R108, R111 to R116). -/

namespace Sys2Proof

open Machine

variable {s t u v w x y : State} {a b r : Attempt} {c : Console} {bib raw edit : Nat}

/-- The record that enters SCORING by its first mark. -/
def firstMarked (c : Console) (m : ConsoleMark) (beyond : Bool) (r : Attempt) : Attempt :=
  { storedMark c m beyond r with state := .scoring, endCause := some .mark }

/-- The state that the end of the on-hill phase begins in: the mark is stored, and the mark limit stopped. -/
def marked (c : Console) (raw edit : Nat) (a : Attempt) (y : State) : State :=
  stopMarkLimit (y.onCst (changed a.number (firstMarked c (markFrom y raw edit) (markBeyond y raw))))

theorem enterScoring_storeMark (c : Console) (raw edit : Nat) (a : Attempt) (y : State) :
    enterScoring a (storeMark c a.number raw edit y) = leaveHill a .mark (marked c raw edit a y) := by
  have hfirst : (storeMark c a.number raw edit y).onCst (changed a.number fun r => { r with state := .scoring, endCause := some .mark }) =
      y.onCst (changed a.number (firstMarked c (markFrom y raw edit) (markBeyond y raw))) := by
    rw [storeMark_eq]
    exact setAttempt_onCst_changed (fun r => (storedMark_keeps c _ _ r).1) y
  rw [marked, ← hfirst]
  rfl

theorem marked_only (c : Console) (raw edit : Nat) (a : Attempt) (y : State) : OnlyChanges [.cst, .meas] y (marked c raw edit a y) :=
  ⟨fun b hb => by cases b <;> simp [SameBlock, marked, stopMarkLimit] at hb ⊢, rfl, rfl⟩

theorem firstMarked_keeps (c : Console) (m : ConsoleMark) (beyond : Bool) (r : Attempt) :
    (firstMarked c m beyond r).number = r.number ∧ (firstMarked c m beyond r).round = r.round
      ∧ (firstMarked c m beyond r).bib = r.bib ∧ (firstMarked c m beyond r).points = r.points :=
  storedMark_keeps c m beyond r

theorem returned_reference (h : HillSection) (g : Gate) : (returned h g).reference = g.reference := by
  unfold returned
  repeat' split
  all_goals rfl

/-- The record that the resolution of the first mark finds. -/
def airborneEnds (c : Console) (s : State) (raw edit : Nat) (a : Attempt) (r : Attempt) : Attempt :=
  offHillRecord a.samples s.meas.trap (firstMarked c (markFrom s raw edit) (markBeyond s raw) r)

/-- The end of the on-hill phase, after a change of the record. -/
theorem Before.leave {g : Attempt → Attempt} {ns : List NoticeBody} (h : Before a g [] ns v x) (ha : attempt? v a.number = some a)
    (hon : a.state.onHill = true) (hopen : DistanceOpen (g a)) (cause : EndCause) :
    LeftHill a (g a) cause x (leaveHill a cause x)
      ∧ Before a (fun r => offHillRecord (g a).samples x.meas.trap (g r)) (freedKeys a x)
        (ns ++ endNotices a cause (offHillRecord (g a).samples x.meas.trap (g a)).faults x) v (leaveHill a cause x) := by
  have hleft := leaveHill_left (h.attempt ha) hopen hon (h.keeps a).2.2.1 cause
  refine ⟨hleft, h.keeps, h.unscored, h.distance, ?_, ?_, ?_, ?_, ?_⟩
  · rw [hleft.cst, h.cst]
    exact changed_changed (fun r => (h.keeps r).1) v.cst
  · exact (hleft.only.1 .scr (by simp)).trans h.scr
  · exact (hleft.only.1 .prof (by simp)).trans h.prof
  · rw [hleft.gate, ← h.reference]
    split
    · exact returned_reference _ _
    · rfl
  · have htells := hleft.tells
    rw [h.tells.subjects] at htells
    exact h.tells.trans htells

theorem endNotices_congr (hgate : u.gate = s.gate) (a : Attempt) (cause : EndCause) (faults : List DeferredFault) :
    endNotices a cause faults u = endNotices a cause faults s := by
  unfold endNotices
  rw [freedNotices_congr hgate]

/-- Up to the resolution of the first mark. -/
theorem firstMark_before (hy : Heard c s y) (ha : attempt? s a.number = some a) (hair : a.state = .inRun ∨ a.state = .flight)
    (hopen : DistanceOpen a) :
    LeftHill a (firstMarked c (markFrom s raw edit) (markBeyond s raw) a) .mark (marked c raw edit a y)
        (leaveHill a .mark (marked c raw edit a y))
      ∧ Before a (airborneEnds c s raw edit a) (freedKeys a s)
        (wakes c s ++ endNotices a .mark (airborneEnds c s raw edit a a).faults s) (startTx s)
        (leaveHill a .mark (marked c raw edit a y)) := by
  have hv := Given.startTx s
  obtain ⟨hfrom, hbeyond⟩ := hy.mark raw edit
  have hcst : (marked c raw edit a y).cst = changed a.number (firstMarked c (markFrom s raw edit) (markBeyond s raw)) s.cst := by
    rw [← hfrom, ← hbeyond, ← hy.cst]; rfl
  have hbefore : Before a (firstMarked c (markFrom s raw edit) (markBeyond s raw)) [] (wakes c s) (startTx s)
      (marked c raw edit a y) :=
    ⟨firstMarked_keeps c _ _, ⟨by rcases hair with h | h <;> rw [h] <;> decide, fun h => nomatch h⟩,
      storedMark_distance c (markFrom s raw edit) (markBeyond s raw) a, by rw [hcst, hv.cst], hy.scr.trans hv.scr.symm,
      hy.prof.trans hv.prof.symm, congrArg Gate.reference (hy.gate.trans hv.gate.symm), hy.tells.frame rfl rfl rfl⟩
  have hopen' : DistanceOpen (firstMarked c (markFrom s raw edit) (markBeyond s raw) a) := by
    unfold DistanceOpen firstMarked
    rw [storedMark_status]
    exact hopen
  obtain ⟨hleft, hends⟩ := hbefore.leave ((hv.attempt _).trans ha) (by rcases hair with h | h <;> rw [h] <;> rfl) hopen' .mark
  have hgate : (marked c raw edit a y).gate = s.gate := hy.gate
  have htrap : (marked c raw edit a y).meas.trap = s.meas.trap := by
    have h := (heardFrom_rest c s.meas).1
    rw [← hy.meas] at h
    exact h
  have hsamples : (firstMarked c (markFrom s raw edit) (markBeyond s raw) a).samples = a.samples :=
    storedMark_samples c (markFrom s raw edit) (markBeyond s raw) a
  rw [htrap, hsamples, freedKeys_congr hgate, endNotices_congr hgate] at hends
  exact ⟨hleft, hends⟩

/-! ## The command -/

theorem Followed.state (h : Followed b w r u) : r.state = b.state ∨ r.state = .complete := by
  cases h with
  | idle => exact .inl rfl
  | completes _ _ => exact .inr rfl
  | recomputes _ => exact .inl rfl

theorem MarksOk.of_onHill (h : MarksOk s) (ha : a ∈ s.cst.attempts) (hon : a.state.onHill = true) :
    (∀ c, markOf c a = none) ∧ a.distance = none ∧ a.distanceStatus = .none := by
  obtain ⟨hA, hB, hdistance, hstatus⟩ := h.1 a ha hon
  refine ⟨fun c => ?_, hdistance, hstatus⟩
  cases c
  · exact hA
  · exact hB

theorem matchedMark_airborne (hmark : markOf c a = none) (hair : a.state = .inRun ∨ a.state = .flight) (y : State) :
    matchedMark c raw edit a y = resolve a.number (leaveHill a .mark (marked c raw edit a y)) := by
  have hnot : a.state ≠ .scoring := by rcases hair with h | h <;> rw [h] <;> decide
  have hfresh : staleMark (markOf c a) edit = false := by rw [hmark]; rfl
  simp only [matchedMark, hfresh, if_neg hnot, Bool.false_eq_true, if_false, enterScoring_storeMark]

/-- The distance that a first mark gives, with the other console's state. -/
def firstDistance (c : Console) (s : State) (d : Nat) : Option Nat × DistanceStatus :=
  resolveOne s.prof.profile.hill.consoleBInUse (consoleState (otherConsole c) s.meas) .none d

/-- MEAS once the attempt in the air has ended by its first mark, before the waits follow. -/
def airborneMeas (c : Console) (s : State) : Meas :=
  { heardFrom c s.meas with trap := .off, trapAttempt := none, trapTimer := none, markLimit := none }

theorem airborneMeas_console (c : Console) (s : State) :
    consoleState (otherConsole c) (airborneMeas c s) = consoleState (otherConsole c) s.meas := by
  rw [← heardFrom_other c s.meas]
  cases c <;> rfl

/-- The record after the resolution of the first mark. -/
def firstResolved (c : Console) (s : State) (raw edit : Nat) (a : Attempt) (r : Attempt) : Attempt :=
  resolvedAs (firstDistance c s (markFrom s raw edit).d) false (airborneEnds c s raw edit a r)

/-- What the first mark of an attempt in the air leaves, before SCR's check. -/
structure FirstMark (c : Console) (s : State) (raw edit : Nat) (a : Attempt) (w : State) : Prop where
  effect : matchedMark c raw edit a (validArrival c (startTx s)) = checkCompletion a.number w
  input : Input a (firstResolved c s raw edit a) (freedKeys a s)
    (wakes c s ++ endNotices a .mark (airborneEnds c s raw edit a a).faults s) s.brd.subjects (startTx s) w
  meas : w.meas = { airborneMeas c s with
    waits := waitsAfter a.number s.prof.profile.hill.secondMarkWait .none (firstDistance c s (markFrom s raw edit).d).2 s.meas.waits }
  gate : w.gate = if a.coach.isSome then returned s.prof.profile.hill s.gate else s.gate
  wln : w.wln = { s.wln with window := none }
  only : OnlyChanges [.brd, .link, .cst, .gate, .wln, .meas, .scr, .diag] (startTx s) w

theorem firstMark (hon : consoleState c s.meas ≠ .disabled) (ha : attempt? s a.number = some a)
    (hair : a.state = .inRun ∨ a.state = .flight) (hmarks : ∀ c, markOf c a = none) (hstatus : a.distanceStatus = .none) :
    ∃ w, FirstMark c s raw edit a w := by
  have hv := Given.startTx s
  have hy := validArrival_heard hon
  have hopen : DistanceOpen a := by unfold DistanceOpen; rw [hstatus]; decide
  obtain ⟨hleft, hbefore⟩ := firstMark_before (raw := raw) (edit := edit) hy ha hair hopen
  generalize hx : leaveHill a .mark (marked c raw edit a (validArrival c (startTx s))) = x at hleft hbefore
  have hmeas : x.meas = airborneMeas c s := by
    rw [hleft.meas]
    change trapOff { (validArrival c (startTx s)).meas with markLimit := none } = _
    rw [hy.meas]
    rfl
  have hprof : x.prof = s.prof := hbefore.prof.trans hv.prof
  have hown : markOf c (airborneEnds c s raw edit a a) = some (markFrom s raw edit) :=
    (markOf_congr rfl rfl c).trans (storedMark_mark c (markFrom s raw edit) (markBeyond s raw) a)
  have hother : markOf (otherConsole c) (airborneEnds c s raw edit a a) = none :=
    (markOf_congr rfl rfl _).trans ((storedMark_other c (markFrom s raw edit) (markBeyond s raw) a).trans (hmarks _))
  have hold : (airborneEnds c s raw edit a a).distanceStatus = .none :=
    (storedMark_status c (markFrom s raw edit) (markBeyond s raw) a).trans hstatus
  have hres : resolution x.prof.profile.hill x.meas (airborneEnds c s raw edit a a) = firstDistance c s (markFrom s raw edit).d := by
    rw [resolution_one _ _ hown hother, hmeas, airborneMeas_console, hprof, hold]
    rfl
  have hheld : entersHeld (firstDistance c s (markFrom s raw edit).d) (airborneEnds c s raw edit a a) = false :=
    resolveOne_not_held _ _ _ _ _
  obtain ⟨heffect, hinput⟩ := hbefore.resolve ((hv.attempt _).trans ha) hres
  rw [hheld, if_neg Bool.false_ne_true, List.append_nil, hv.brd] at hinput
  have honly := resolving_only (airborneEnds c s raw edit a a) (firstDistance c s (markFrom s raw edit).d) x
  refine ⟨_, ?_, hinput, ?_, ?_, ?_, ?_⟩
  · rw [matchedMark_airborne (hmarks c) hair, hx, heffect]
  · rw [announceDistance_meas, resolving_meas, hmeas, hprof, hold, show (airborneEnds c s raw edit a a).number = a.number from
      (hbefore.keeps a).1, show (airborneMeas c s).waits = s.meas.waits from (heardFrom_rest c s.meas).2]
  · rw [announceDistance_gate, show (resolving _ _ x).gate = x.gate from honly.1 .gate (by simp), hleft.gate,
      show (marked c raw edit a _).gate = s.gate from hy.gate, show (marked c raw edit a _).prof = s.prof from hy.prof]
  · rw [announceDistance_wln, show (resolving _ _ x).wln = x.wln from honly.1 .wln (by simp), hleft.wln,
      show (marked c raw edit a _).wln = s.wln from hy.wln]
  · exact (hy.only.mono (by simp)).trans (((marked_only c raw edit a _).mono (by simp)).trans ((hleft.only.mono (by simp)).trans
      ((honly.mono (by simp)).trans ⟨fun b hb => by cases b <;> simp [SameBlock] at hb ⊢, by simp, by simp⟩)))

theorem firstDistance_cases (c : Console) (s : State) (d : Nat) :
    (s.prof.profile.hill.consoleBInUse = false ∨ consoleState (otherConsole c) s.meas ≠ .active →
        firstDistance c s d = (some d, .single))
      ∧ (s.prof.profile.hill.consoleBInUse = true → consoleState (otherConsole c) s.meas = .active →
        firstDistance c s d = (none, .pendingSecond)) :=
  ⟨fun h => resolveOne_single (.inr h) d, fun hu ho => resolveOne_pending (by decide) hu ho d⟩

theorem airborneEnds_faults (c : Console) (s : State) (raw edit : Nat) (a : Attempt) : (airborneEnds c s raw edit a a).faults =
    faultsOf a s (if markBeyond s raw then joined .beyondSurvey a.faults else a.faults) := by
  cases c <;> rfl

theorem mem_joined (f : DeferredFault) (fs : List DeferredFault) : f ∈ joined f fs := by
  unfold joined
  split
  next h => exact h
  next h => simp

theorem noWind_mem_faultsOf (h : a.samples = []) (fs : List DeferredFault) : .noWind ∈ faultsOf a s fs := by
  unfold faultsOf
  rw [if_pos h]
  exact mem_joined _ _

theorem firstMark_happens (hmarksOk : MarksOk s) (hill : HillLaws s) (hnone : assembly c s.meas = [])
    (hon : consoleState c s.meas ≠ .disabled) (hbib : bib < 1024) (hraw : raw < 65536) (hedit : edit < 64)
    (hmatch : matchMark s bib = some a) (hair : a.state = .inRun ∨ a.state = .flight) :
    Happens (.markRecord c (clean (markRecordBytes c bib raw edit))) [.cst, .gate, .wln, .meas, .scr, .diag] s fun t =>
      (∃ r, attempt? t a.number = some r ∧ (r.state = .scoring ∨ r.state = .complete) ∧ r.endCause = some .mark
        ∧ markOf c r = some (markFrom s raw edit) ∧ markOf (otherConsole c) r = none
        ∧ (s.prof.profile.hill.consoleBInUse = false ∨ consoleState (otherConsole c) s.meas ≠ .active →
            r.distance = some (markFrom s raw edit).d ∧ r.distanceStatus = .single)
        ∧ (s.prof.profile.hill.consoleBInUse = true → consoleState (otherConsole c) s.meas = .active →
            r.distance = none ∧ r.distanceStatus = .pendingSecond
              ∧ t.meas.waits = s.meas.waits ++ [(a.number, s.prof.profile.hill.secondMarkWait)])
        ∧ (a.samples ≠ [] → r.windStatus = some .computed ∧ r.wind = windFigure a.samples)
        ∧ (a.samples = [] → r.windStatus = some .absent ∧ .noWind ∈ r.faults)
        ∧ r.faults = faultsOf a s (if markBeyond s raw then joined .beyondSurvey a.faults else a.faults)
        ∧ Announces (freedKeys a s) (wakes c s ++ endNotices a .mark r.faults s) a r s t
        ∧ t.brd.subjects = scoredSubjects a r s.brd.subjects)
      ∧ t.meas = { heardFrom c s.meas with trap := .off, trapAttempt := none, trapTimer := none, markLimit := none,
                                           waits := t.meas.waits }
      ∧ Scored a s t ∧ GateFreed a s t ∧ t.wln = { s.wln with window := none } ∧ LinkKept s t := by
  obtain ⟨hmem, -⟩ := matchMark_some hmatch
  have ha := hill.1.attempt hmem
  have hv := Given.startTx s
  obtain ⟨hmarks, -, hstatus⟩ := hmarksOk.of_onHill hmem (by rcases hair with h | h <;> rw [h] <;> rfl)
  obtain ⟨w, heffect, hinput, hmeas, hgate, hwln, honly⟩ := firstMark (raw := raw) (edit := edit) hon ha hair hmarks hstatus
  have hb := hinput.attempt ((hv.attempt _).trans ha)
  obtain ⟨r, hu⟩ := Followed.check hb
  have hr := hu.record
  have hdone : consoleBytes c (clean (markRecordBytes c bib raw edit)) (startTx s) =
      checkCompletion (firstResolved c s raw edit a a).number w := by
    rw [markRecord_matched hon hnone hbib hraw hedit hmatch, heffect, (hinput.keeps a).1]
  have hrest := (hu.only hb).1
  have hfaults : r.faults = (airborneEnds c s raw edit a a).faults := by rw [hr]; rfl
  have hA : r.markA = (storedMark c (markFrom s raw edit) (markBeyond s raw) a).markA := by rw [hr]; rfl
  have hB : r.markB = (storedMark c (markFrom s raw edit) (markBeyond s raw) a).markB := by rw [hr]; rfl
  have hdistance : r.distance = (firstDistance c s (markFrom s raw edit).d).1
      ∧ r.distanceStatus = (firstDistance c s (markFrom s raw edit).d).2 := by rw [hr]; exact ⟨rfl, rfl⟩
  rw [← hfaults] at hinput
  obtain ⟨hsingle, hpending⟩ := firstDistance_cases c s (markFrom s raw edit).d
  refine Happens.of_input rfl ha hinput hu hdone ((freedKeys_length_le a s).trans (by decide)) honly (by simp)
    fun t ht hattempt hannounces hsub hkept => ?_
  have htmeas : t.meas = w.meas := ht.meas.trans (hrest .meas (by simp))
  refine ⟨⟨r, hattempt, ?_, by rw [hr]; rfl, ?_, ?_, fun h => ?_, fun hin hact => ?_, fun hsamples => ?_, fun hsamples => ?_, ?_,
    hannounces, hsub⟩, ?_, hinput.scored (hu.scored hb (fun h => nomatch h)) ht hv, .of_gate ?_, ?_, hkept⟩
  · rcases hu.state with h | h
    · exact .inl h
    · exact .inr h
  · exact (markOf_congr hA hB c).trans (storedMark_mark c (markFrom s raw edit) (markBeyond s raw) a)
  · exact (markOf_congr hA hB _).trans ((storedMark_other c (markFrom s raw edit) (markBeyond s raw) a).trans (hmarks _))
  · rw [hdistance.1, hdistance.2, hsingle h]
    exact ⟨rfl, rfl⟩
  · rw [hdistance.1, hdistance.2, htmeas, hmeas, hpending hin hact]
    exact ⟨rfl, rfl, rfl⟩
  · rw [hr]
    exact ⟨congrArg some (if_neg hsamples), rfl⟩
  · rw [hfaults, airborneEnds_faults]
    refine ⟨?_, noWind_mem_faultsOf hsamples _⟩
    rw [hr]
    exact congrArg some (if_pos hsamples)
  · rw [hfaults, airborneEnds_faults]
  · rw [htmeas, hmeas]; rfl
  · rw [ht.gate, show _ = w.gate from hrest .gate (by simp), hgate]
  · rw [ht.wln, show _ = w.wln from hrest .wln (by simp), hwln]

end Sys2Proof

/-! PROOFS. A further mark of an attempt in SCORING: stale, or stored and resolved against the other console's (R112, R116). -/

namespace Sys2Proof

open Machine

variable {s t u v w x y : State} {a b r : Attempt} {c : Console} {bib raw edit : Nat} {m o old : ConsoleMark}

/-- A stale mark is ignored, but for its arrival (R110, R112). -/
theorem staleMark_ignored (hnone : assembly c s.meas = []) (hon : consoleState c s.meas ≠ .disabled) (hbib : bib < 1024)
    (hraw : raw < 65536) (hedit : edit < 64) (hmatch : matchMark s bib = some a) (hold : markOf c a = some old)
    (hstale : edit < old.edit) :
    Happens (.markRecord c (clean (markRecordBytes c bib raw edit))) [.meas] s fun t =>
      t.meas = heardFrom c s.meas ∧ OnlySends (wakes c s) s t := by
  have hv := Given.startTx s
  have hy := validArrival_heard hon
  have heffect : consoleBytes c (clean (markRecordBytes c bib raw edit)) (startTx s) = validArrival c (startTx s) := by
    rw [markRecord_matched hon hnone hbib hraw hedit hmatch]
    exact if_pos (by rw [hold]; exact decide_eq_true hstale)
  refine Happens.of_block rfl heffect (hy.only.mono (by simp)) fun t ht => ?_
  obtain ⟨hlink, hsub, hboards, hsaid⟩ := told ht hy.tells hv.brd
  exact ⟨by rw [ht.meas, hy.meas], hlink, hboards, hsub.trans (by rw [hv.brd]), (hsaid (.inl rfl)).2⟩

/-- The distance by a further mark, with the record as it stands. -/
def nextDistance (c : Console) (s : State) (d : Nat) (a : Attempt) : Option Nat × DistanceStatus :=
  match markOf (otherConsole c) a with
  | some o => resolveTwo s.prof.profile.hill.tolerance (if c = .a then d else o.d) (if c = .a then o.d else d)
  | none => resolveOne s.prof.profile.hill.consoleBInUse (consoleState (otherConsole c) s.meas) a.distanceStatus d

theorem nextDistance_two (ho : markOf (otherConsole c) a = some o) (d : Nat) : nextDistance c s d a =
    resolveTwo s.prof.profile.hill.tolerance (if c = .a then d else o.d) (if c = .a then o.d else d) := by
  simp only [nextDistance, ho]

theorem nextDistance_one (ho : markOf (otherConsole c) a = none) (d : Nat) : nextDistance c s d a =
    resolveOne s.prof.profile.hill.consoleBInUse (consoleState (otherConsole c) s.meas) a.distanceStatus d := by
  simp only [nextDistance, ho]

/-- The record after the resolution of a further mark. -/
def nextResolved (c : Console) (s : State) (raw edit : Nat) (a : Attempt) (r : Attempt) : Attempt :=
  resolvedAs (nextDistance c s (markFrom s raw edit).d a) (entersHeld (nextDistance c s (markFrom s raw edit).d a) a)
    (storedMark c (markFrom s raw edit) (markBeyond s raw) r)

/-- What a further mark leaves, before SCR's check. -/
structure NextMark (c : Console) (s : State) (raw edit : Nat) (a : Attempt) (w : State) : Prop where
  effect : matchedMark c raw edit a (validArrival c (startTx s)) = checkCompletion a.number w
  input : Input a (nextResolved c s raw edit a) [] (wakes c s ++
    if entersHeld (nextDistance c s (markFrom s raw edit).d a) a then
      [heldNotice (storedMark c (markFrom s raw edit) (markBeyond s raw) a)] else []) s.brd.subjects (startTx s) w
  meas : w.meas = { heardFrom c s.meas with
    waits := waitsAfter a.number s.prof.profile.hill.secondMarkWait a.distanceStatus
      (nextDistance c s (markFrom s raw edit).d a).2 s.meas.waits }
  only : OnlyChanges [.brd, .link, .cst, .meas, .scr, .diag] (startTx s) w

theorem matchedMark_scoring (hstate : a.state = .scoring) (hfresh : ∀ old, markOf c a = some old → old.edit ≤ edit) (y : State) :
    matchedMark c raw edit a y = resolve a.number (storeMark c a.number raw edit y) := by
  have hnot : staleMark (markOf c a) edit = false := by
    cases hold : markOf c a with
    | none => rfl
    | some old => exact decide_eq_false (not_lt.mpr (hfresh old hold))
  simp only [matchedMark, hnot, hstate, Bool.false_eq_true, if_false, if_true]

theorem nextMark (hon : consoleState c s.meas ≠ .disabled) (ha : attempt? s a.number = some a) (hstate : a.state = .scoring)
    (hfresh : ∀ old, markOf c a = some old → old.edit ≤ edit) : ∃ w, NextMark c s raw edit a w := by
  have hv := Given.startTx s
  have hy := validArrival_heard hon
  obtain ⟨hfrom, hbeyond⟩ := hy.mark raw edit
  have hkeeps := storedMark_keeps c (markFrom s raw edit) (markBeyond s raw)
  generalize hx : storeMark c a.number raw edit (validArrival c (startTx s)) = x
  have hxeq : x = (validArrival c (startTx s)).onCst (changed a.number (storedMark c (markFrom s raw edit) (markBeyond s raw))) := by
    rw [← hx, storeMark_eq, hfrom, hbeyond]
  have honlyx : OnlyChanges [.cst] (validArrival c (startTx s)) x := by
    rw [hxeq]
    exact ⟨fun b hb => by cases b <;> simp [SameBlock] at hb ⊢, rfl, rfl⟩
  have hbefore : Before a (storedMark c (markFrom s raw edit) (markBeyond s raw)) [] (wakes c s) (startTx s) x := by
    refine ⟨hkeeps, ⟨by rw [hstate]; decide, by rw [storedMark_state, hstate]; decide⟩, storedMark_distance _ _ _ a, ?_, ?_, ?_, ?_, ?_⟩
    · rw [hxeq, State.onCst_cst, hy.cst, hv.cst]
    · exact (honlyx.1 .scr (by simp)).trans (hy.scr.trans hv.scr.symm)
    · exact (honlyx.1 .prof (by simp)).trans (hy.prof.trans hv.prof.symm)
    · rw [hxeq, State.onCst_gate, hy.gate, hv.gate]
    · rw [hxeq]
      exact hy.tells.onCst _
  have hmeas : x.meas = heardFrom c s.meas := (honlyx.1 .meas (by simp)).trans hy.meas
  have hprof : x.prof = s.prof := (honlyx.1 .prof (by simp)).trans hy.prof
  have hown := storedMark_mark c (markFrom s raw edit) (markBeyond s raw) a
  have hother := storedMark_other c (markFrom s raw edit) (markBeyond s raw) a
  have hold := storedMark_status c (markFrom s raw edit) (markBeyond s raw) a
  have hres : resolution x.prof.profile.hill x.meas (storedMark c (markFrom s raw edit) (markBeyond s raw) a) =
      nextDistance c s (markFrom s raw edit).d a := by
    cases ho : markOf (otherConsole c) a with
    | none => rw [resolution_one _ _ hown (hother.trans ho), nextDistance_one ho, hmeas, heardFrom_other, hprof, hold]
    | some o => rw [resolution_two _ _ hown (hother.trans ho), nextDistance_two ho, hprof]
  have hheld : entersHeld (nextDistance c s (markFrom s raw edit).d a) (storedMark c (markFrom s raw edit) (markBeyond s raw) a) =
      entersHeld (nextDistance c s (markFrom s raw edit).d a) a := by
    simp only [entersHeld, hold]
  obtain ⟨heffect, hinput⟩ := hbefore.resolve ((hv.attempt _).trans ha) hres
  rw [hheld, hv.brd] at hinput
  have honly := resolving_only (storedMark c (markFrom s raw edit) (markBeyond s raw) a) (nextDistance c s (markFrom s raw edit).d a) x
  refine ⟨_, ?_, hinput, ?_, ?_⟩
  · rw [matchedMark_scoring hstate hfresh, hx, heffect]
  · rw [announceDistance_meas, resolving_meas, hmeas, hprof, hold, (hkeeps a).1, (heardFrom_rest c s.meas).2]
  · exact (hy.only.mono (by simp)).trans ((honlyx.mono (by simp)).trans ((honly.mono (by simp)).trans
      ⟨fun b hb => by cases b <;> simp [SameBlock] at hb ⊢, by simp, by simp⟩))

theorem resolveTwo_agreed {tolerance da db : Nat} (h : da ≤ db + tolerance) (h' : db ≤ da + tolerance) :
    resolveTwo tolerance da db = (some da, .agreed) := if_pos (by omega)

theorem resolveTwo_held {tolerance da db : Nat} (h : db + tolerance < da ∨ da + tolerance < db) :
    resolveTwo tolerance da db = (none, .held) := if_neg (by omega)

theorem resolveTwo_not_pending (tolerance da db : Nat) : (resolveTwo tolerance da db).2 ≠ .pendingSecond := by
  unfold resolveTwo
  split
  · exact fun h => nomatch h
  · exact fun h => nomatch h

/-- A record whose distance is open stays in SCORING. -/
theorem Followed.scoring_of_open (h : Followed b w r u) (hstate : b.state = .scoring) (hopen : DistanceOpen b) :
    r.state = .scoring := by
  cases h with
  | idle => exact hstate
  | completes _ hsettled => rw [hopen.not_settled] at hsettled; cases hsettled
  | recomputes _ => exact hstate

theorem nextMark_happens (hill : HillLaws s) (hnone : assembly c s.meas = []) (hon : consoleState c s.meas ≠ .disabled)
    (hbib : bib < 1024) (hraw : raw < 65536) (hedit : edit < 64) (hmatch : matchMark s bib = some a)
    (hstate : a.state = .scoring) (hfresh : ∀ old, markOf c a = some old → old.edit ≤ edit) :
    Happens (.markRecord c (clean (markRecordBytes c bib raw edit))) [.cst, .meas, .scr, .diag] s fun t =>
      (∃ r, attempt? t a.number = some r ∧ r.distance = (nextDistance c s (markFrom s raw edit).d a).1
        ∧ r.distanceStatus = (nextDistance c s (markFrom s raw edit).d a).2
        ∧ (DistanceOpen r → r.state = .scoring)
        ∧ markOf c r = some (markFrom s raw edit) ∧ markOf (otherConsole c) r = markOf (otherConsole c) a
        ∧ r.faults = (if entersHeld (nextDistance c s (markFrom s raw edit).d a) a then
            joined .consoleDisagree (if markBeyond s raw then joined .beyondSurvey a.faults else a.faults)
          else if markBeyond s raw then joined .beyondSurvey a.faults else a.faults)
        ∧ Announces [] (wakes c s ++ heldNotices a r) a r s t ∧ t.brd.subjects = scoredSubjects a r s.brd.subjects)
      ∧ t.meas = { heardFrom c s.meas with
          waits := waitsAfter a.number s.prof.profile.hill.secondMarkWait a.distanceStatus
            (nextDistance c s (markFrom s raw edit).d a).2 s.meas.waits }
      ∧ Scored a s t ∧ LinkKept s t := by
  have ha := hill.1.attempt (matchMark_some hmatch).1
  have hv := Given.startTx s
  obtain ⟨w, heffect, hinput, hmeas, honly⟩ := nextMark (raw := raw) (edit := edit) hon ha hstate hfresh
  generalize hres : nextDistance c s (markFrom s raw edit).d a = res at hinput hmeas
  have hb := hinput.attempt ((hv.attempt _).trans ha)
  obtain ⟨r, hu⟩ := Followed.check hb
  have hr := hu.record
  have hbstate : (nextResolved c s raw edit a a).state = .scoring := (storedMark_state c (markFrom s raw edit) (markBeyond s raw) a).trans hstate
  have hdone : consoleBytes c (clean (markRecordBytes c bib raw edit)) (startTx s) =
      checkCompletion (nextResolved c s raw edit a a).number w := by
    rw [markRecord_matched hon hnone hbib hraw hedit hmatch, heffect, (hinput.keeps a).1]
  have hA : r.markA = (storedMark c (markFrom s raw edit) (markBeyond s raw) a).markA := by rw [hr]; rfl
  have hB : r.markB = (storedMark c (markFrom s raw edit) (markBeyond s raw) a).markB := by rw [hr]; rfl
  have hdistance : r.distance = res.1 := by rw [hr, ← hres]; rfl
  have hstatus : r.distanceStatus = res.2 := by rw [hr, ← hres]; rfl
  have hfaults : r.faults = if entersHeld res a then
      joined .consoleDisagree (storedMark c (markFrom s raw edit) (markBeyond s raw) a).faults
      else (storedMark c (markFrom s raw edit) (markBeyond s raw) a).faults := by rw [hr, ← hres]; rfl
  have hnotices : (if entersHeld res a then [heldNotice (storedMark c (markFrom s raw edit) (markBeyond s raw) a)] else []) =
      heldNotices a r := by
    obtain ⟨hnumber, -, hbib, -⟩ := storedMark_keeps c (markFrom s raw edit) (markBeyond s raw) a
    simp only [heldNotices, heldNotice, hstatus, hA, hB, hnumber, hbib, entersHeld_iff]
  rw [hnotices] at hinput
  refine Happens.of_input rfl ha hinput hu hdone (by simp) honly (by simp) fun t ht hattempt hannounces hsub hkept =>
    ⟨⟨r, hattempt, hdistance, hstatus, fun hopen => ?_, ?_, ?_, hfaults, hannounces, hsub⟩, ?_,
      hinput.scored (hu.scored hb (by rw [hbstate]; decide)) ht hv, hkept⟩
  · have hsame : r.distanceStatus = (nextResolved c s raw edit a a).distanceStatus := by rw [hr]
    refine hu.scoring_of_open hbstate ?_
    unfold DistanceOpen at hopen ⊢
    rw [← hsame]
    exact hopen
  · exact (markOf_congr hA hB c).trans (storedMark_mark c (markFrom s raw edit) (markBeyond s raw) a)
  · exact (markOf_congr hA hB _).trans (storedMark_other c (markFrom s raw edit) (markBeyond s raw) a)
  · rw [ht.meas, checkCompletion_meas, hmeas]

/-- The two marks of a record in the order of their consoles. -/
theorem heldNotices_of_marks {m o : ConsoleMark} (hm : markOf c r = some m) (ho : markOf (otherConsole c) r = some o)
    (hheld : r.distanceStatus = .held) (hnot : a.distanceStatus ≠ .held) : heldNotices a r =
      [.distanceHeld a.number a.bib (if c = .a then m.d else o.d) (if c = .a then o.d else m.d)] := by
  rw [heldNotices, if_pos ⟨hheld, hnot⟩]
  cases c <;> simp only [markOf, otherConsole] at hm ho <;> rw [hm, ho] <;> rfl

/-- Settles O44: the arrival, then the end of the on-hill phase or the mark alone, and the resolution as an input to the scoring. -/
theorem theFirstMarkEndsTheFlight : Obligations.TheFirstMarkEndsTheFlight := by
  intro s c bib raw edit a hill hranking hmarks hnone hon hbib hraw hedit hmatch
  refine ⟨firstMark_happens hmarks hill hnone hon hbib hraw hedit hmatch,
    fun old _ hold hstale => staleMark_ignored hnone hon hbib hraw hedit hmatch hold hstale, fun hstate hfresh => ?_⟩
  obtain ⟨t, hexec, honly, ⟨r, hattempt, hdistance, hstatus, hopen, hown, hother, hfaults, hannounces, hsub⟩, hmeas, hscored, hkept⟩ :=
    nextMark_happens hill hnone hon hbib hraw hedit hmatch hstate hfresh
  have hwaits : t.meas.waits = waitsAfter a.number s.prof.profile.hill.secondMarkWait a.distanceStatus
      (nextDistance c s (markFrom s raw edit).d a).2 s.meas.waits := by rw [hmeas]
  refine ⟨t, hexec, honly, ⟨r, hattempt, hown, hother, fun hnot => ?_, fun o ho hle hle' => ?_, fun o ho hfar => ?_,
    fun ho => ⟨fun h => ?_, fun hp hin hact => ?_, fun hp hin hact => ?_⟩, hannounces, hsub⟩, fun ho => ?_,
    by rw [hwaits]; exact hmeas, hscored, hkept⟩
  · refine hfaults.trans (if_neg fun h => ?_)
    obtain ⟨hheld, hnew⟩ := (entersHeld_iff _ _).mp h
    exact hnot.elim (fun hn => hn (hstatus.trans hheld)) hnew
  · rw [hdistance, hstatus, nextDistance_two ho]
    cases c
    · rw [resolveTwo_agreed (by exact hle) (by exact hle')]; exact ⟨rfl, rfl⟩
    · rw [resolveTwo_agreed (by exact hle') (by exact hle)]; exact ⟨rfl, rfl⟩
  · have hres : nextDistance c s (markFrom s raw edit).d a = (none, .held) := by
      rw [nextDistance_two ho]
      cases c
      · exact resolveTwo_held hfar
      · exact resolveTwo_held hfar.symm
    rw [hres] at hdistance hstatus hfaults
    refine ⟨hopen (by unfold DistanceOpen; rw [hstatus]; decide), hdistance, hstatus, fun hnot => ?_⟩
    have henters : entersHeld (none, .held) a = true := (entersHeld_iff _ _).mpr ⟨rfl, hnot⟩
    rw [henters, if_pos rfl] at hfaults
    exact ⟨by rw [hfaults]; exact mem_joined _ _, hfaults, heldNotices_of_marks hown (hother.trans ho) hstatus hnot⟩
  · have hres := nextDistance_one (s := s) ho (markFrom s raw edit).d
    rw [resolveOne_single h] at hres
    rw [hdistance, hstatus, hres]
    exact ⟨rfl, rfl⟩
  · have hres := nextDistance_one (s := s) ho (markFrom s raw edit).d
    rw [resolveOne_pending (by rw [hp]; decide) hin hact] at hres
    rw [hdistance, hstatus, hwaits, hres, hp]
    exact ⟨rfl, rfl, rfl⟩
  · have hres := nextDistance_one (s := s) ho (markFrom s raw edit).d
    rw [resolveOne_pending (by rw [hp]; decide) hin hact] at hres
    have hpending : r.distanceStatus = .pendingSecond := by rw [hstatus, hres]
    refine ⟨hopen (by unfold DistanceOpen; rw [hpending]; decide), by rw [hdistance, hres], hpending, ?_⟩
    rw [hwaits, hres, hp]
    rfl
  · obtain ⟨o, ho⟩ := Option.ne_none_iff_exists'.mp ho
    rw [hwaits, waitsAfter, nextDistance_two ho, if_neg (resolveTwo_not_pending _ _ _)]

end Sys2Proof

/-! PROOFS. Marks that do not come: the mark limit, and the second-mark wait of an attempt (R115, R117). -/

namespace Sys2Proof

open Machine

variable {s t u v w x : State} {a b r : Attempt} {k n m : Nat} {ns : List NoticeBody}

/-! ## The mark limit (R115) -/

/-- The record that the mark limit ends. -/
def limited (r : Attempt) : Attempt :=
  { r with state := .scoring, endCause := some .limit, distance := none, distanceStatus := .missing,
           faults := joined .noMark r.faults }

/-- The state that the end of the on-hill phase by the mark limit begins in. -/
def pastLimit (a : Attempt) (s : State) : State := (stopMarkLimit s).onCst (changed a.number limited)

theorem limitReached_eq (a : Attempt) (s : State) : limitReached a s = leaveHill a .limit (pastLimit a s) := by
  have hrecord := setAttempt_onCst_changed (n := a.number) (g := fun r => { r with faults := joined .noMark r.faults })
    (f := fun r => { r with state := .scoring, endCause := some .limit, distance := none, distanceStatus := .missing })
    (fun _ => rfl) (stopMarkLimit s)
  simp only [limitReached, addFault_eq]
  exact congrArg (leaveHill a .limit) hrecord

theorem markLimitExpired_eq (hlimit : s.meas.markLimit = some (a.number, k)) (ha : attempt? s a.number = some a)
    (hair : a.state = .inRun ∨ a.state = .flight) : markLimitExpired s = leaveHill a .limit (pastLimit a s) := by
  unfold markLimitExpired
  simp only [hlimit, ha, if_pos hair, limitReached_eq]

/-- An input that the follow-up leaves tells no more than itself. -/
theorem scoredSubjects_idle (b : Subjects) (hdistance : a.distance = r.distance) (h : rescored a r = false) :
    scoredSubjects a r b = b := by
  simp only [scoredSubjects, hdistance, h, if_true, Bool.false_eq_true, if_false]

theorem pastLimit_before (hv : Given s v) (ha : attempt? s a.number = some a) (hair : a.state = .inRun ∨ a.state = .flight)
    (hdistance : a.distance = none) :
    LeftHill a (limited a) .limit (pastLimit a v) (leaveHill a .limit (pastLimit a v))
      ∧ Before a (fun r => offHillRecord a.samples s.meas.trap (limited r)) (freedKeys a s)
        (endNotices a .limit (faultsOf a s (joined .noMark a.faults)) s) v (leaveHill a .limit (pastLimit a v)) := by
  have hbefore : Before a limited [] [] v (pastLimit a v) :=
    ⟨fun _ => ⟨rfl, rfl, rfl, rfl⟩, ⟨by rcases hair with h | h <;> rw [h] <;> decide, fun h => nomatch h⟩, hdistance.symm, rfl, rfl,
      rfl, rfl, (Tells.refl v).frame rfl rfl rfl⟩
  obtain ⟨hleft, hends⟩ := hbefore.leave ((hv.attempt _).trans ha) (by rcases hair with h | h <;> rw [h] <;> rfl)
    (by unfold DistanceOpen limited; simp) .limit
  have hgate : (pastLimit a v).gate = s.gate := hv.gate
  have htrap : (pastLimit a v).meas.trap = s.meas.trap := by rw [← hv.meas]; rfl
  rw [htrap, freedKeys_congr hgate, endNotices_congr hgate] at hends
  exact ⟨hleft, hends⟩

theorem markLimit_happens (hmarks : MarksOk s) (ha : attempt? s a.number = some a)
    (hlimit : s.meas.markLimit = some (a.number, k)) (hair : a.state = .inRun ∨ a.state = .flight) :
    Happens .markLimitExpiry [.cst, .gate, .wln, .meas, .scr, .diag] s fun t =>
      (∃ r, attempt? t a.number = some r ∧ r.state = .scoring ∧ r.endCause = some .limit ∧ r.distance = none
        ∧ r.distanceStatus = .missing ∧ .noMark ∈ r.faults ∧ r.faults = faultsOf a s (joined .noMark a.faults)
        ∧ Announces (freedKeys a s) (endNotices a .limit r.faults s) a r s t)
      ∧ t.brd.subjects = s.brd.subjects
      ∧ t.meas = { s.meas with trap := .off, trapAttempt := none, trapTimer := none, markLimit := none }
      ∧ Scored a s t ∧ GateFreed a s t ∧ t.wln = { s.wln with window := none } ∧ LinkKept s t := by
  have hv := Given.startTx s
  have hva : attempt? (startTx s) a.number = some a := (hv.attempt _).trans ha
  obtain ⟨-, hdistance, -⟩ := hmarks.of_onHill (List.mem_of_find?_eq_some ha) (by rcases hair with h | h <;> rw [h] <;> rfl)
  obtain ⟨hleft, hbefore⟩ := pastLimit_before hv ha hair hdistance
  have heffect := markLimitExpired_eq (by rw [hv.meas]; exact hlimit) hva hair
  have hinput : Input a (fun r => offHillRecord a.samples s.meas.trap (limited r)) (freedKeys a s)
      (endNotices a .limit (faultsOf a s (joined .noMark a.faults)) s) s.brd.subjects (startTx s)
      (leaveHill a .limit (pastLimit a (startTx s))) := by
    rw [← hv.brd]
    exact .of_distance_kept hbefore.keeps ⟨fun h => absurd h hbefore.unscored.2, fun h => absurd h hbefore.unscored.1⟩
      hbefore.distance hbefore.cst hbefore.scr hbefore.prof hbefore.reference hbefore.tells
  have hb := hinput.attempt hva
  refine Happens.of_input rfl ha hinput .idle heffect ((freedKeys_length_le a s).trans (by decide)) ?_ (by simp)
    fun t ht hattempt hannounces hsub hkept => ⟨⟨_, hattempt, rfl, rfl, rfl, rfl, ?_, rfl, hannounces⟩, ?_, ?_,
      hinput.scored (Followed.scored .idle hb fun h => nomatch h) ht hv, .of_gate ?_, ?_, hkept⟩
  · refine OnlyChanges.trans (u := pastLimit a (startTx s)) ?_ (hleft.only.mono (by simp))
    exact ⟨fun b hb => by cases b <;> simp [SameBlock, pastLimit, stopMarkLimit] at hb ⊢, rfl, rfl⟩
  · change .noMark ∈ faultsOf a s (joined .noMark a.faults)
    have hmem : .noMark ∈ joined .noMark a.faults := mem_joined _ _
    have hjoined : ∀ (f : DeferredFault) fs, .noMark ∈ fs → .noMark ∈ joined f fs := fun f fs h => by
      unfold joined
      split
      · exact h
      · exact List.mem_append_left _ h
    unfold faultsOf
    dsimp only
    split <;> split <;> simp only [hjoined, hmem]
  · rw [hsub]
    exact scoredSubjects_idle _ hdistance (by simp [rescored, offHillRecord, windClosed, trapEnded, limited])
  · rw [ht.meas, hleft.meas, ← hv.meas]
    rfl
  · rw [ht.gate, hleft.gate, ← hv.gate, ← hv.prof]
    rfl
  · rw [ht.wln, hleft.wln, ← hv.wln]
    rfl

/-! ## The second-mark wait (R117, R118) -/

/-- The distance of a record's present mark. -/
def presentDistance (r : Attempt) : Option Nat := (r.markA.orElse fun _ => r.markB).map ConsoleMark.d

/-- The record that becomes SINGLE with a distance. -/
def singled (d : Option Nat) (r : Attempt) : Attempt := { r with distance := d, distanceStatus := .single }

/-- The state that SCR checks the attempt in. -/
def waitSettled (a : Attempt) (s : State) : State :=
  announceDistance a.number a.distance (presentDistance a) (stopWait a.number (setAttempt a.number (singled (presentDistance a)) s))

theorem settleSingle_eq (ha : attempt? s n = some a) : settleSingle n s = checkCompletion n (waitSettled a s) := by
  have hn := attempt_number ha
  subst hn
  simp only [settleSingle, ha]
  rfl

theorem waitSettled_cst (a : Attempt) (s : State) : (waitSettled a s).cst = changed a.number (singled (presentDistance a)) s.cst := by
  rw [waitSettled, announceDistance_cst]; rfl

theorem waitSettled_meas (a : Attempt) (s : State) :
    (waitSettled a s).meas = { s.meas with waits := s.meas.waits.filter fun w => w.1 != a.number } := by
  rw [waitSettled, announceDistance_meas]; rfl

theorem waitSettled_only (a : Attempt) (s : State) : OnlyChanges [.brd, .link, .cst, .meas, .diag] s (waitSettled a s) :=
  ⟨fun b hb => by cases b <;> simp [SameBlock, waitSettled, stopWait] at hb ⊢, by simp [waitSettled, stopWait],
    by simp [waitSettled, stopWait]⟩

/-- The end of a wait is an input to the attempt's scoring. -/
theorem waitSettled_input (hx : OnlyChanges [.link, .meas] v x) (hstate : a.state ≠ .complete)
    (htells : Tells v [] ns v.diag v.brd.subjects x) :
    Input a (singled (presentDistance a)) [] ns v.brd.subjects v (waitSettled a x) := by
  have hcst : x.cst = v.cst := hx.1 .cst (by simp)
  exact .of_announced (f := singled (presentDistance a)) (fun _ => ⟨rfl, rfl, rfl, rfl⟩)
    ⟨fun h => absurd h hstate, fun h => absurd h hstate⟩ (by rw [← hcst]; rfl) (hx.1 .scr (by simp)) (hx.1 .prof (by simp))
    (congrArg Gate.reference (hx.1 .gate (by simp))) (htells.frame rfl rfl rfl)

theorem MarksOk.of_waiting (h : MarksOk s) {q : Nat × Nat} (hq : q ∈ s.meas.waits) (ha : attempt? s q.1 = some a) :
    a.state = .scoring := by
  obtain ⟨b, hb, hstate, -⟩ := h.2 q hq
  rw [ha, Option.some.injEq] at hb
  rw [hb]
  exact hstate

theorem waitExpiry_happens (hmarks : MarksOk s) (ha : attempt? s a.number = some a) (hwait : (a.number, k) ∈ s.meas.waits) :
    Happens (.secondMarkWaitExpiry a.number) [.cst, .meas, .scr, .diag] s fun t =>
      (∃ r, attempt? t a.number = some r ∧ r.distance = presentDistance a ∧ r.distanceStatus = .single ∧ Announces [] [] a r s t
        ∧ t.brd.subjects = scoredSubjects a r s.brd.subjects)
      ∧ t.meas = { s.meas with waits := s.meas.waits.filter fun w => w.1 != a.number }
      ∧ Scored a s t ∧ LinkKept s t := by
  have hv := Given.startTx s
  have hva : attempt? (startTx s) a.number = some a := (hv.attempt _).trans ha
  have hstate : a.state ≠ .complete := by rw [hmarks.of_waiting hwait ha]; decide
  have hinput := waitSettled_input (.refl _ (startTx s)) hstate (Tells.refl (startTx s))
  have hb := hinput.attempt hva
  obtain ⟨r, hu⟩ := Followed.check hb
  have hr := hu.record
  have heffect : waitExpired a.number (startTx s) = checkCompletion (singled (presentDistance a) a).number (waitSettled a (startTx s)) := by
    have hany : (startTx s).meas.waits.any (fun w => w.1 == a.number) = true :=
      List.any_eq_true.mpr ⟨_, by rw [hv.meas]; exact hwait, beq_self_eq_true _⟩
    exact (if_pos hany).trans (settleSingle_eq hva)
  refine Happens.of_input rfl ha hinput hu heffect (by simp) ((waitSettled_only a _).mono (by simp)) (by simp)
    fun t ht hattempt hannounces hsub hkept => ⟨⟨r, hattempt, by rw [hr]; rfl, by rw [hr]; rfl, hannounces, ?_⟩, ?_,
      hinput.scored (hu.scored hb hstate) ht hv, hkept⟩
  · rw [hsub, hv.brd]
  · rw [ht.meas, checkCompletion_meas, waitSettled_meas, hv.meas]

end Sys2Proof

/-! PROOFS. A console that falls silent settles the attempts that wait for it, in the order of their waits (R110, R118). -/

namespace Sys2Proof

open Machine

variable {s t u v w x : State} {a b r : Attempt} {c : Console} {k n m : Nat} {ns : List Nat}

/-! ## One wait and several -/

/-- The waits of these attempts have ended, from `x` to `u`. -/
structure WaitsEnded (ns : List Nat) (x u : State) : Prop where
  others : ∀ m, m ∉ ns → attempt? u m = attempt? x m
  records : ∀ m a, attempt? x m = some a → ∃ r, attempt? u m = some r ∧ r.markA = a.markA ∧ r.markB = a.markB
    ∧ (m ∈ ns → r.distance = presentDistance a ∧ r.distanceStatus = .single)
  meas : u.meas = { x.meas with waits := x.meas.waits.filter fun w => decide (w.1 ∉ ns) }
  round : u.cst.round = x.cst.round
  list : u.cst.startList = x.cst.startList
  core : u.link.core = x.link.core
  only : OnlyChanges [.brd, .link, .cst, .meas, .scr, .diag] x u

theorem WaitsEnded.nil (x : State) : WaitsEnded [] x x where
  others _ _ := rfl
  records _ a ha := ⟨a, ha, rfl, rfl, fun h => absurd h List.not_mem_nil⟩
  meas := by simp
  round := rfl
  list := rfl
  core := rfl
  only := .refl _ _

theorem waitSettled_attempt (ha : attempt? x a.number = some a) :
    attempt? (waitSettled a x) a.number = some (singled (presentDistance a) a) :=
  attempt_changed_same (f := singled (presentDistance a)) (fun _ => rfl) (by rw [waitSettled_cst]) ha

theorem settleSingle_followed (ha : attempt? x a.number = some a) :
    ∃ r, Followed (singled (presentDistance a) a) (waitSettled a x) r (settleSingle a.number x) := by
  rw [settleSingle_eq ha]
  exact Followed.check (waitSettled_attempt ha)

theorem settleSingle_ends (n : Nat) (x : State) : WaitsEnded [n] x (settleSingle n x) := by
  have hwaits : ∀ ws : List (Nat × Nat), (ws.filter fun w => w.1 != n) = ws.filter fun w => decide (w.1 ∉ [n]) := fun ws => by
    simp only [List.mem_singleton]
    exact List.filter_congr fun w _ => by by_cases h : w.1 = n <;> simp [h]
  cases ha : attempt? x n with
  | none =>
    have heq : settleSingle n x = stopWait n x := by simp only [settleSingle, ha]
    rw [heq]
    refine ⟨fun m _ => rfl, fun m a ham => ⟨a, ham, rfl, rfl, fun hm => ?_⟩, ?_, rfl, rfl, rfl,
      ⟨fun b hb => by cases b <;> simp [SameBlock] at hb ⊢, rfl, rfl⟩⟩
    · rw [List.mem_singleton.mp hm, ha] at ham
      cases ham
    · rw [← hwaits]; rfl
  | some a =>
    have hn := attempt_number ha
    subst hn
    have hb := waitSettled_attempt ha
    obtain ⟨r, hu⟩ := settleSingle_followed ha
    have hr := hu.record
    obtain ⟨hround, hlist, -, hother⟩ := hu.onlyAttempt hb
    have hbefore : ∀ m, m ≠ a.number → attempt? (waitSettled a x) m = attempt? x m := fun m hm =>
      attempt_changed_other (f := singled (presentDistance a)) (fun _ => rfl) (by rw [waitSettled_cst]) hm
    have hkept : ∀ m, m ≠ a.number → attempt? (settleSingle a.number x) m = attempt? x m := fun m hm =>
      (hother m hm).trans (hbefore m hm)
    refine ⟨fun m hm => hkept m fun h => hm (List.mem_singleton.mpr h), fun m y hy => ?_, ?_, ?_, ?_, settleSingle_link_core x _,
      ((waitSettled_only a x).mono (by simp)).trans ((hu.only hb).mono (by simp))⟩
    · by_cases hm : m = a.number
      · subst hm
        rw [ha, Option.some.injEq] at hy
        subst hy
        exact ⟨r, hu.attempt hb, by rw [hr]; rfl, by rw [hr]; rfl, fun _ => ⟨by rw [hr]; rfl, by rw [hr]; rfl⟩⟩
      · exact ⟨y, (hkept m hm).trans hy, rfl, rfl, fun h => absurd (List.mem_singleton.mp h) hm⟩
    · rw [← hwaits, settleSingle_eq ha, checkCompletion_meas, waitSettled_meas]
    · rw [hround, waitSettled_cst]; rfl
    · rw [hlist, waitSettled_cst]; rfl

theorem presentDistance_congr (hA : r.markA = a.markA) (hB : r.markB = a.markB) : presentDistance r = presentDistance a := by
  rw [presentDistance, presentDistance, hA, hB]

/-- The waits end one after another. -/
theorem foldl_settleSingle_ends (ns : List Nat) (x : State) : WaitsEnded ns x (ns.foldl (fun s n => settleSingle n s) x) := by
  induction ns generalizing x with
  | nil => exact .nil x
  | cons n ns ih =>
    have hone := settleSingle_ends n x
    have hrest := ih (settleSingle n x)
    refine ⟨fun m hm => ?_, fun m a ha => ?_, ?_, hrest.round.trans hone.round, hrest.list.trans hone.list,
      hrest.core.trans hone.core, hone.only.trans hrest.only⟩
    · rw [List.mem_cons, not_or] at hm
      exact (hrest.others m hm.2).trans (hone.others m fun h => hm.1 (List.mem_singleton.mp h))
    · obtain ⟨r, hr, hrA, hrB, hrdone⟩ := hone.records m a ha
      obtain ⟨q, hq, hqA, hqB, hqdone⟩ := hrest.records m r hr
      refine ⟨q, hq, hqA.trans hrA, hqB.trans hrB, fun hm => ?_⟩
      by_cases hin : m ∈ ns
      · obtain ⟨hdistance, hstatus⟩ := hqdone hin
        exact ⟨hdistance.trans (presentDistance_congr hrA hrB), hstatus⟩
      · have hsame := hrest.others m hin
        rw [hq, hr, Option.some.injEq] at hsame
        rw [hsame]
        exact hrdone (List.mem_singleton.mpr ((List.mem_cons.mp hm).resolve_right hin))
    · change (ns.foldl (fun s n => settleSingle n s) (settleSingle n x)).meas = _
      have hfilter : (x.meas.waits.filter fun w => decide (w.1 ∉ ns) && decide (w.1 ∉ [n])) =
          x.meas.waits.filter fun w => decide (w.1 ∉ n :: ns) :=
        List.filter_congr fun w _ => by by_cases h : w.1 = n <;> simp [h]
      rw [hrest.meas, hone.meas, List.filter_filter, hfilter]

/-! ## The silence timer (R110) -/

/-- The console is SILENT and has told it. -/
def silenced (c : Console) (s : State) : State :=
  notify (.console c .active .silent) (s.onMeas fun m => (m.withSilence c none).withState c .silent)

theorem silenceExpired_active (hrunning : silence c s.meas = some k) (hactive : consoleState c s.meas = .active) :
    silenceExpired c s = (waitingOn c (silenced c s)).foldl (fun s n => settleSingle n s) (silenced c s) := by
  unfold silenceExpired
  rw [if_pos (by rw [hrunning]; rfl)]
  exact if_pos ((consoleState_withSilence c s.meas none).trans hactive)

theorem silenceExpired_other (hrunning : silence c s.meas = some k) (hother : consoleState c s.meas ≠ .active) :
    silenceExpired c s = s.onMeas fun m => m.withSilence c none := by
  unfold silenceExpired
  rw [if_pos (by rw [hrunning]; rfl)]
  exact if_neg fun h => hother ((consoleState_withSilence c s.meas none).symm.trans h)

theorem silenced_waits (c : Console) (s : State) : (silenced c s).meas.waits = s.meas.waits := by cases c <;> rfl

theorem silenced_tells (c : Console) (v : State) :
    Tells v [] [.console c .active .silent] v.diag v.brd.subjects (silenced c v) := ((Tells.refl v).onMeas _).notify _

theorem silenced_only (c : Console) (v : State) : OnlyChanges [.link, .meas] v (silenced c v) :=
  ⟨fun b hb => by cases b <;> simp [SameBlock, silenced] at hb ⊢, rfl, rfl⟩

theorem mem_waitingOn (m : Nat) : m ∈ waitingOn c s ↔
    m ∈ s.meas.waits.map Prod.fst ∧ ∃ a, attempt? s m = some a ∧ markOf c a = none := by
  unfold waitingOn
  rw [List.mem_filter]
  refine and_congr_right fun _ => ?_
  cases attempt? s m <;> simp

theorem waitingOn_silenced (hv : Given s v) : waitingOn c (silenced c v) = waitingOn c s := by
  have hcst : (silenced c v).cst = s.cst := hv.cst
  unfold waitingOn
  rw [silenced_waits, hv.meas]
  refine List.filter_congr fun n _ => ?_
  rw [attempt?, hcst, ← attempt?]

theorem presentDistance_of_missing (h : markOf c a = none) : presentDistance a = (markOf (otherConsole c) a).map ConsoleMark.d := by
  cases c <;> simp only [markOf, otherConsole] at h ⊢ <;> rw [presentDistance, h]
  · rfl
  · cases a.markA <;> rfl

section Expiry

variable (hrunning : silence c s.meas = some k)

include hrunning

theorem silence_quiet (hother : consoleState c s.meas ≠ .active) :
    Happens (.silenceTimerExpiry c) [.meas] s fun t => t.meas = s.meas.withSilence c none ∧ Quiet s t := by
  have hv := Given.startTx s
  refine Happens.of_block rfl (silenceExpired_other (by rw [hv.meas]; exact hrunning) (by rw [hv.meas]; exact hother))
    ⟨fun b hb => by cases b <;> simp [SameBlock] at hb ⊢, rfl, rfl⟩ fun t ht => ⟨by rw [ht.meas, ← hv.meas]; rfl, ht.quiet rfl hv.brd⟩

variable (hactive : consoleState c s.meas = .active)

include hactive

theorem silence_effect : silenceExpired c (startTx s) =
    (waitingOn c s).foldl (fun s n => settleSingle n s) (silenced c (startTx s)) := by
  have hv := Given.startTx s
  rw [silenceExpired_active (by rw [hv.meas]; exact hrunning) (by rw [hv.meas]; exact hactive), waitingOn_silenced hv]

theorem silence_unawaited (hwaits : s.meas.waits = []) : Happens (.silenceTimerExpiry c) [.meas] s fun t =>
    t.meas = (s.meas.withSilence c none).withState c .silent ∧ LinkKept s t ∧ Boards [] s t
      ∧ Sends [.console c .active .silent] s t := by
  have hv := Given.startTx s
  have heffect := silence_effect hrunning hactive
  rw [show waitingOn c s = [] by rw [waitingOn, hwaits]; rfl] at heffect
  refine Happens.of_block rfl heffect ((silenced_only c _).mono (by simp)) fun t ht => ?_
  obtain ⟨hlink, -, hboards, hsaid⟩ := told ht (silenced_tells c (startTx s)) hv.brd
  exact ⟨by rw [ht.meas, ← hv.meas]; rfl, hlink, hboards, (hsaid (.inl rfl)).2⟩

theorem silence_settles (hill : HillLaws s) : Happens (.silenceTimerExpiry c) [.cst, .meas, .scr, .diag] s fun t =>
    (∀ w ∈ s.meas.waits, ∀ a, attempt? s w.1 = some a → markOf c a = none →
      ∃ r, attempt? t w.1 = some r ∧ r.distance = (markOf (otherConsole c) a).map ConsoleMark.d
        ∧ r.distanceStatus = .single)
    ∧ (∀ a ∈ s.cst.attempts, a.number ∉ s.meas.waits.map Prod.fst ∨ (markOf c a).isSome = true →
        attempt? t a.number = some a)
    ∧ t.meas = { (s.meas.withSilence c none).withState c .silent with
        waits := s.meas.waits.filter fun w => ((attempt? s w.1).map fun a => (markOf c a).isSome).getD true }
    ∧ t.cst.round = s.cst.round ∧ t.cst.startList = s.cst.startList ∧ LinkKept s t := by
  have hv := Given.startTx s
  have hends := foldl_settleSingle_ends (waitingOn c s) (silenced c (startTx s))
  have hcst : (silenced c (startTx s)).cst = s.cst := hv.cst
  have hattempt : ∀ m, attempt? (silenced c (startTx s)) m = attempt? s m := fun m => by rw [attempt?, hcst, ← attempt?]
  refine Happens.of_block rfl (silence_effect hrunning hactive) (((silenced_only c _).mono (by simp)).trans hends.only) fun t ht => ?_
  have hfinal : ∀ m, attempt? t m = attempt? ((waitingOn c s).foldl (fun s n => settleSingle n s) (silenced c (startTx s))) m :=
    fun m => by rw [attempt?, ht.cst, ← attempt?]
  refine ⟨fun w hw a ha hmark => ?_, fun a ha hout => ?_, ?_, ?_, ?_, ht.kept (LinkKept.of_core ?_)⟩
  · obtain ⟨r, hr, -, -, hdone⟩ := hends.records w.1 a ((hattempt _).trans ha)
    obtain ⟨hdistance, hstatus⟩ := hdone ((mem_waitingOn w.1).mpr ⟨List.mem_map_of_mem hw, a, ha, hmark⟩)
    exact ⟨r, (hfinal _).trans hr, hdistance.trans (presentDistance_of_missing hmark), hstatus⟩
  · have hnumber := hill.1.attempt ha
    rw [hfinal, hends.others, hattempt, hnumber]
    intro hin
    obtain ⟨hwait, b, hb, hmark⟩ := (mem_waitingOn a.number).mp hin
    rw [hnumber, Option.some.injEq] at hb
    subst hb
    rcases hout with hout | hsome
    · exact hout hwait
    · rw [hmark] at hsome
      cases hsome
  · have hmeas : (silenced c (startTx s)).meas = (s.meas.withSilence c none).withState c .silent := by rw [← hv.meas]; rfl
    have hfilter : (s.meas.waits.filter fun w => decide (w.1 ∉ waitingOn c s)) =
        s.meas.waits.filter fun w => ((attempt? s w.1).map fun a => (markOf c a).isSome).getD true := by
      refine List.filter_congr fun w hw => ?_
      have hwait := List.mem_map_of_mem (f := Prod.fst) hw
      rw [Bool.eq_iff_iff, decide_eq_true_iff, mem_waitingOn, and_iff_right hwait]
      cases ha : attempt? s w.1 with
      | none => simp
      | some a => cases hmark : markOf c a <;> simp [hmark]
    rw [ht.meas, hends.meas, silenced_waits, hv.meas, hfilter, hmeas]
  · rw [ht.cst, hends.round, hcst]
  · rw [ht.cst, hends.list, hcst]
  · rw [hends.core]
    exact (silenced_tells c (startTx s)).core

theorem silence_of_one (hmarks : MarksOk s) {q : Nat × Nat} (hwaits : s.meas.waits = [q]) (ha : attempt? s q.1 = some a)
    (hmark : markOf c a = none) : Happens (.silenceTimerExpiry c) [.cst, .meas, .scr, .diag] s fun t =>
      (∃ r, attempt? t q.1 = some r ∧ Announces [] [.console c .active .silent] a r s t
        ∧ t.brd.subjects = scoredSubjects a r s.brd.subjects)
      ∧ Scored a s t := by
  have hv := Given.startTx s
  have hq := attempt_number ha
  have hwaiting : waitingOn c s = [a.number] := by
    rw [waitingOn, hwaits, hq]
    simp [ha, hmark]
  rw [← hq] at ha
  have hva : attempt? (silenced c (startTx s)) a.number = some a := (hv.attempt _).trans ha
  have hstate : a.state ≠ .complete := by
    rw [hmarks.of_waiting (q := q) (by rw [hwaits]; exact List.mem_singleton_self q) (by rw [← hq]; exact ha)]
    decide
  have hinput := waitSettled_input (silenced_only c (startTx s)) hstate (silenced_tells c (startTx s))
  rw [hv.brd] at hinput
  obtain ⟨r, hu⟩ := settleSingle_followed hva
  have heffect := silence_effect hrunning hactive
  rw [hwaiting] at heffect
  rw [← hq]
  exact Happens.of_input rfl ha hinput hu heffect (by simp)
    (((silenced_only c _).mono (by simp)).trans ((waitSettled_only a _).mono (by simp))) (by simp)
    fun t ht hattempt hannounces hsub _ => ⟨⟨r, hattempt, hannounces, hsub⟩,
      hinput.scored (hu.scored (waitSettled_attempt hva) hstate) ht hv⟩

end Expiry

end Sys2Proof

/-! PROOFS. The silence of a console that several attempts wait for settles them as the ends of their waits would (R118). -/

namespace Sys2Proof

open Machine

variable {s t u v w x y : State} {a b r : Attempt} {c : Console} {k n m : Nat} {ns : List Nat} {q : Option Nat}

/-! ## The stall timer has no part in it (R147) -/

/-- The state with another stall timer. -/
def withStall (q : Option Nat) (s : State) : State := s.onBrd fun b => { b with stallTimer := q }

theorem count_withStall (k : CounterKind) (q : Option Nat) (s : State) : count k (withStall q s) = withStall q (count k s) := by
  simp only [count, withStall, State.onBrd_diag, State.onBrd_cst]
  by_cases h0 : (s.diag.counter0.step k (s.cst.rstate == .opened)).2 = true <;>
    by_cases h1 : (s.diag.counter1.step k (s.cst.rstate == .opened)).2 = true <;>
      simp only [h0, h1, if_true, if_false, Bool.false_eq_true] <;> rfl

theorem enqueueWith_withStall (k : Key) (blank : Bool) (q : Option Nat) (s : State) :
    enqueueWith k blank (withStall q s) = withStall q (enqueueWith k blank s) := by
  unfold enqueueWith
  change (if (enqueued k blank s.brd.queue).2 = true then _ else _) = _
  split
  next h =>
    rw [if_pos h]
    exact count_withStall .boardDrop q (s.onBrd fun b => { b with queue := (enqueued k blank s.brd.queue).1 })
  next h => rw [if_neg h]; rfl

theorem enqueueSubject_eq (f : BoardField) (n : Nat) (s : State) : enqueueSubject f n s =
    enqueueWith (key f) false (s.onBrd fun b => { b with subjects := subjectsWith f n b.subjects }) := by
  cases f <;> rfl

theorem enqueueSubject_withStall (f : BoardField) (n : Nat) (q : Option Nat) (s : State) :
    enqueueSubject f n (withStall q s) = withStall q (enqueueSubject f n s) := by
  rw [enqueueSubject_eq, enqueueSubject_eq, ← enqueueWith_withStall]
  rfl

theorem enqueueAll_withStall (ks : List Key) (q : Option Nat) (s : State) :
    enqueueAll ks false (withStall q s) = withStall q (enqueueAll ks false s) := by
  induction ks generalizing s with
  | nil => rfl
  | cons k ks ih =>
    change enqueueAll ks false (enqueueWith k false (withStall q s)) = _
    rw [enqueueWith_withStall, ih]
    rfl

theorem announceRanking_withStall (before : List (Option (Nat × Option Nat × Nat))) (bib : Nat) (q : Option Nat) (s : State) :
    announceRanking before (some bib) (withStall q s) = withStall q (announceRanking before (some bib) s) := by
  change enqueueAll (changedLines before (topTen (enqueueSubject .rank bib (withStall q s)))) false
    (enqueueSubject .rank bib (withStall q s)) = _
  rw [enqueueSubject_withStall]
  exact enqueueAll_withStall _ q _

theorem completeAttempt_withStall (a : Attempt) (q : Option Nat) (s : State) :
    completeAttempt a (withStall q s) = withStall q (completeAttempt a s) := by
  have hannounced : announceRanking (topTen s) (some a.bib) (enqueueSubject .points a.number
      (withStall q (reRank a.bib (setTotal a.bib a.round (some (pointsNow s a).total)
        (setAttempt a.number (completedWith (pointsNow s a)) s))))) =
      withStall q (announceRanking (topTen s) (some a.bib) (enqueueSubject .points a.number
        (reRank a.bib (setTotal a.bib a.round (some (pointsNow s a).total)
          (setAttempt a.number (completedWith (pointsNow s a)) s))))) := by
    rw [enqueueSubject_withStall, announceRanking_withStall]
  have hend : ∀ x, endCheck (withStall q x) = withStall q (endCheck x) := fun x => by rw [endCheck_eq, endCheck_eq]; rfl
  unfold completeAttempt
  refine Eq.trans ?_ (hend _)
  exact congrArg (fun x => endCheck (notifyComplete false a (pointsNow s a) x)) hannounced

theorem checkCompletion_withStall (n : Nat) (q : Option Nat) (s : State) :
    checkCompletion n (withStall q s) = withStall q (checkCompletion n s) := by
  have hsame : attempt? (withStall q s) n = attempt? s n := rfl
  cases ha : attempt? s n with
  | none => simp only [checkCompletion, hsame, ha]
  | some a =>
    simp only [checkCompletion, hsame, ha]
    split
    · exact completeAttempt_withStall a q s
    · rfl

theorem settleSingle_withStall (n : Nat) (q : Option Nat) (s : State) :
    settleSingle n (withStall q s) = withStall q (settleSingle n s) := by
  have hsame : attempt? (withStall q s) n = attempt? s n := rfl
  cases ha : attempt? s n with
  | none =>
    simp only [settleSingle, hsame, ha]
    rfl
  | some a =>
    have hwait : waitSettled a (withStall q s) = withStall q (waitSettled a s) := by
      unfold waitSettled announceDistance
      split
      · rfl
      · exact enqueueSubject_withStall .distance a.number q (stopWait a.number (setAttempt a.number (singled (presentDistance a)) s))
    rw [settleSingle_eq (hsame.trans ha), settleSingle_eq ha, hwait, checkCompletion_withStall]

/-! ## The transmitter and the sender are busy in between -/

/-- A notice and a board frame are on their lines. -/
def Busy (s : State) : Prop := (∃ n, s.link.tx = .notice n) ∧ s.brd.sender ≠ none

theorem Busy.of_core (h : Busy s) (hlink : u.link.core = s.link.core) (hbrd : u.brd.core = s.brd.core) : Busy u := by
  obtain ⟨⟨n, htx⟩, hsender⟩ := h
  have htx' : u.link.core.tx = s.link.core.tx := by rw [hlink]
  have hsender' : u.brd.core.sender = s.brd.core.sender := by rw [hbrd]
  exact ⟨⟨n, Eq.trans htx' htx⟩, fun hnone => hsender (Eq.trans (Eq.symm hsender') hnone)⟩

theorem Busy.startTx (h : Busy s) : Machine.startTx s = s := by
  obtain ⟨⟨n, htx⟩, -⟩ := h
  exact startTx_of_busy s (by rw [htx]; exact fun h => nomatch h)

theorem Busy.settle (h : Busy s) : ∃ q, Machine.settle s = withStall q s := by
  have hframe : beginFrame s = s := if_neg fun hc => h.2 hc.1
  have hstall : ∃ q, stallRule s = withStall q s := by
    unfold stallRule
    split
    · split
      · exact ⟨_, rfl⟩
      · exact ⟨s.brd.stallTimer, rfl⟩
    · exact ⟨_, rfl⟩
  obtain ⟨q, hq⟩ := hstall
  refine ⟨q, ?_⟩
  rw [Machine.settle, hframe, hq]
  exact Busy.startTx h

/-! ## A wait that has ended ends once (R117) -/

/-- The wait of the attempt with a number has ended and SCR has made its check: another end would change nothing. -/
structure Ended (n : Nat) (s : State) : Prop where
  record : ∃ a, attempt? s n = some a ∧ a.distance = presentDistance a ∧ (a.state ≠ .scoring ∨ settled a = false)
    ∧ ∀ r ∈ s.cst.attempts, r.number = n → r.distance = presentDistance a ∧ r.distanceStatus = .single
  waits : ∀ w ∈ s.meas.waits, w.1 ≠ n

theorem Ended.settleSingle (h : Ended n s) : Machine.settleSingle n s = s := by
  obtain ⟨⟨a, ha, hdistance, hopen, hrecords⟩, hwaits⟩ := h
  have hn := attempt_number ha
  subst hn
  have hset : setAttempt a.number (singled (presentDistance a)) s = s := by
    have hattempts : (changed a.number (singled (presentDistance a)) s.cst).attempts = s.cst.attempts := by
      refine (List.map_congr_left fun r hr => ?_).trans (List.map_id' _)
      split
      next hnumber =>
        obtain ⟨hd, hs⟩ := hrecords r hr hnumber
        rw [← hd, singled, ← hs]
      next => rfl
    exact congrArg (fun attempts => { s with cst := { s.cst with attempts } }) hattempts
  have hwait : stopWait a.number s = s := by
    have hfilter : (s.meas.waits.filter fun w => w.1 != a.number) = s.meas.waits :=
      List.filter_eq_self.mpr fun w hw => bne_iff_ne.mpr (hwaits w hw)
    exact congrArg (fun waits => { s with meas := { s.meas with waits } }) hfilter
  rw [settleSingle_eq ha, waitSettled, hset, hwait, announceDistance, if_pos hdistance]
  exact checkCompletion_of_not ha hopen

/-- SCR's check leaves an attempt that needs no other. -/
theorem Followed.checked (ha : attempt? w b.number = some b) : ∃ r, Followed b w r (checkCompletion b.number w)
    ∧ (r.state ≠ .scoring ∨ settled r = false) := by
  by_cases h : b.state = .scoring ∧ settled b = true
  · rw [checkCompletion_of_settled ha h.1 h.2]
    exact ⟨_, .completes h.1 h.2, .inl fun h => nomatch h⟩
  · have hnot : b.state ≠ .scoring ∨ settled b = false := by rw [not_and_or] at h; simpa using h
    rw [checkCompletion_of_not ha hnot]
    exact ⟨b, .idle, hnot⟩

/-- SCR's check changes records in their points and their states only. -/
theorem Followed.records (h : Followed b w r u) (hb : attempt? w b.number = some b) {x : Attempt} (hx : x ∈ u.cst.attempts) :
    ∃ y ∈ w.cst.attempts, x.number = y.number ∧ x.distance = y.distance ∧ x.distanceStatus = y.distanceStatus := by
  have hchanged : ∀ g : Attempt → Attempt, (∀ y, (g y).number = y.number ∧ (g y).distance = y.distance
      ∧ (g y).distanceStatus = y.distanceStatus) → x ∈ (changed b.number g w.cst).attempts →
      ∃ y ∈ w.cst.attempts, x.number = y.number ∧ x.distance = y.distance ∧ x.distanceStatus = y.distanceStatus := by
    rintro g hg hin
    obtain ⟨y, hy, rfl⟩ := List.mem_map.mp hin
    refine ⟨y, hy, ?_⟩
    split
    · exact hg y
    · exact ⟨rfl, rfl, rfl⟩
  cases h with
  | idle => exact ⟨x, hx, rfl, rfl, rfl⟩
  | completes _ _ => exact hchanged (completedWith _) (fun _ => ⟨rfl, rfl, rfl⟩) (by rw [completeAttempt_cst] at hx; exact hx)
  | recomputes _ =>
    exact hchanged (withPoints _) (fun _ => ⟨rfl, rfl, rfl⟩) (by rw [recompute_cst hb, repointed_attempts] at hx; exact hx)

theorem settleSingle_records (ha : attempt? s a.number = some a) {x : Attempt} (hx : x ∈ (settleSingle a.number s).cst.attempts) :
    ∃ y ∈ s.cst.attempts, x.number = y.number
      ∧ (y.number = a.number → x.distance = presentDistance a ∧ x.distanceStatus = .single)
      ∧ (y.number ≠ a.number → x.distance = y.distance ∧ x.distanceStatus = y.distanceStatus) := by
  obtain ⟨r, hu⟩ := settleSingle_followed ha
  obtain ⟨z, hz, hnumber, hdistance, hstatus⟩ := hu.records (waitSettled_attempt ha) hx
  rw [waitSettled_cst] at hz
  obtain ⟨y, hy, rfl⟩ := List.mem_map.mp hz
  refine ⟨y, hy, ?_⟩
  by_cases h : y.number = a.number
  · rw [if_pos h] at hnumber hdistance hstatus
    exact ⟨hnumber, fun _ => ⟨hdistance, hstatus⟩, fun hne => absurd h hne⟩
  · rw [if_neg h] at hnumber hdistance hstatus
    exact ⟨hnumber, fun hn => absurd hn h, fun _ => ⟨hdistance, hstatus⟩⟩

theorem ended_of_settleSingle (ha : attempt? s n = some a) : Ended n (settleSingle n s) := by
  have hn := attempt_number ha
  subst hn
  have hb := waitSettled_attempt ha
  obtain ⟨r, hu, hdone⟩ := Followed.checked (b := singled (presentDistance a) a) hb
  have hr := hu.record
  have hmarks : presentDistance r = presentDistance a := by rw [hr]; rfl
  have hrecord : attempt? (settleSingle a.number s) a.number = some r := by
    rw [settleSingle_eq ha]
    exact hu.attempt hb
  refine ⟨⟨r, hrecord, by rw [hmarks, hr]; rfl, hdone, fun x hx hnumber => ?_⟩, fun w hw => ?_⟩
  · obtain ⟨y, -, hxy, hsettled, -⟩ := settleSingle_records ha hx
    rw [hmarks]
    exact hsettled (hxy.symm.trans hnumber)
  · rw [settleSingle_eq ha, checkCompletion_meas, waitSettled_meas] at hw
    simpa using (List.mem_filter.mp hw).2

theorem Ended.of_settleSingle (h : Ended n s) (m : Nat) : Ended n (Machine.settleSingle m s) := by
  by_cases hm : m = n
  · subst hm
    rw [h.settleSingle]
    exact h
  · obtain ⟨⟨a, ha, hdistance, hopen, hrecords⟩, hwaits⟩ := h
    have hends := settleSingle_ends m s
    refine ⟨⟨a, (hends.others n fun hin => hm (List.mem_singleton.mp hin).symm).trans ha, hdistance, hopen, fun x hx hnumber => ?_⟩,
      fun w hw => ?_⟩
    · cases hb : attempt? s m with
      | none =>
        have heq : Machine.settleSingle m s = stopWait m s := by simp only [Machine.settleSingle, hb]
        rw [heq] at hx
        exact hrecords x hx hnumber
      | some b =>
        have hbn := attempt_number hb
        subst hbn
        obtain ⟨y, hy, hxy, -, hkept⟩ := settleSingle_records hb hx
        have hyn : y.number = n := hxy.symm.trans hnumber
        obtain ⟨hd, hs⟩ := hkept fun hc => hm (hc.symm.trans hyn)
        rw [hd, hs]
        exact hrecords y hy hyn
    · rw [hends.meas] at hw
      exact hwaits w (List.mem_of_mem_filter hw)

/-! ## One end after another (R118) -/

theorem waitExpiry_exec (hbusy : Busy s) (n : Nat) : ∃ q, exec (.secondMarkWaitExpiry n) s = .next (withStall q (waitExpired n s)) := by
  have hkept : Busy (waitExpired n s) := by
    unfold waitExpired
    split
    · exact hbusy.of_core (settleSingle_link_core s n) (settleSingle_brd_core s n)
    · exact hbusy
  obtain ⟨q, hq⟩ := hkept.settle
  refine ⟨q, ?_⟩
  change Host.Outcome.next (settle (waitExpired n (startTx s))) = _
  rw [hbusy.startTx, hq]

/-- The ends of the waits, one event after another, against the silence that ends them at once. -/
theorem waitsExpired_eq (hbusy : Busy x) (h : ∀ n ∈ ns, (attempt? x n).isSome = true ∧ ((∃ w ∈ x.meas.waits, w.1 = n) ∨ Ended n x)) :
    ∀ q, ∃ q', waitsExpired ns (withStall q x) = withStall q' (ns.foldl (fun s n => settleSingle n s) x) := by
  induction ns generalizing x with
  | nil => exact fun q => ⟨q, rfl⟩
  | cons n ns ih =>
    intro q
    obtain ⟨hsome, hwait⟩ := h n List.mem_cons_self
    obtain ⟨a, ha⟩ := Option.isSome_iff_exists.mp hsome
    have hexpired : waitExpired n (withStall q x) = withStall q (settleSingle n x) := by
      rw [← settleSingle_withStall]
      rcases hwait with ⟨w, hw, hwn⟩ | hended
      · exact if_pos (List.any_eq_true.mpr ⟨w, hw, by simpa using hwn⟩)
      · rw [settleSingle_withStall, hended.settleSingle]
        refine if_neg fun hany => ?_
        obtain ⟨w, hw, hwn⟩ := List.any_eq_true.mp hany
        exact hended.waits w hw (by simpa using hwn)
    obtain ⟨q', hexec⟩ := waitExpiry_exec (s := withStall q x) hbusy n
    rw [hexpired] at hexec
    have hstep : waitsExpired (n :: ns) (withStall q x) = waitsExpired ns (withStall q' (settleSingle n x)) := by
      rw [waitsExpired, List.foldl_cons, hexec]
      rfl
    rw [hstep]
    have hends := settleSingle_ends n x
    refine ih (hbusy.of_core (settleSingle_link_core x n) (settleSingle_brd_core x n)) (fun m hm => ?_) q'
    obtain ⟨hmsome, hmwait⟩ := h m (List.mem_cons_of_mem n hm)
    obtain ⟨b, hb⟩ := Option.isSome_iff_exists.mp hmsome
    obtain ⟨r, hr, -⟩ := hends.records m b hb
    refine ⟨by rw [hr]; rfl, ?_⟩
    rcases hmwait with ⟨w, hw, hwm⟩ | hended
    · by_cases hmn : m = n
      · subst hmn
        exact .inr (ended_of_settleSingle ha)
      · refine .inl ⟨w, ?_, hwm⟩
        rw [hends.meas]
        exact List.mem_filter.mpr ⟨hw, by simpa [hwm] using hmn⟩
    · exact .inr (hended.of_settleSingle n)

theorem foldl_settleSingle_board (ns : List Nat) (s : State) :
    (ns.foldl (fun s n => settleSingle n s) s).brd.core = s.brd.core := by
  induction ns generalizing s with
  | nil => rfl
  | cons n ns ih => exact (ih (settleSingle n s)).trans (settleSingle_brd_core s n)

theorem waitersFor_eq (c : Console) (s : State) : waitersFor c s = waitingOn c s := by
  unfold waitersFor waitingOn
  exact List.filter_congr fun n _ => by cases attempt? s n <;> rfl

/-- The silence while a notice and a board frame are on their lines. -/
theorem silence_of_several {note : Notice} (hrunning : silence c s.meas = some k) (hactive : consoleState c s.meas = .active)
    (htx : s.link.tx = .notice note) (hsender : s.brd.sender ≠ none) :
    Happens (.silenceTimerExpiry c) [.cst, .meas, .scr, .diag] s fun t =>
      let u := waitsExpired (waitersFor c s) { s with
        meas := (s.meas.withSilence c none).withState c .silent, link := queueNotice (.console c .active .silent) s.link }
      t.cst = u.cst ∧ t.scr = u.scr ∧ t.meas = u.meas ∧ t.diag = u.diag ∧ t.link = u.link ∧ t.brd.queue = u.brd.queue
        ∧ t.brd.subjects = u.brd.subjects := by
  have hbusy : Busy s := ⟨⟨note, htx⟩, hsender⟩
  have heffect := silence_effect hrunning hactive
  rw [hbusy.startTx] at heffect
  have hsilenced := silenced_tells c s
  have hbusy' : Busy (silenced c s) := hbusy.of_core hsilenced.core hsilenced.board
  have hends := foldl_settleSingle_ends (waitingOn c s) (silenced c s)
  have hfold : Busy ((waitingOn c s).foldl (fun s n => settleSingle n s) (silenced c s)) :=
    hbusy'.of_core hends.core (foldl_settleSingle_board _ _)
  have hevery : ∀ n ∈ waitingOn c s, (attempt? (silenced c s) n).isSome = true
      ∧ ((∃ w ∈ (silenced c s).meas.waits, w.1 = n) ∨ Ended n (silenced c s)) := fun n hn => by
    obtain ⟨hwait, a, ha, -⟩ := (mem_waitingOn n).mp hn
    obtain ⟨w, hw, hwn⟩ := List.mem_map.mp hwait
    have hattempt : attempt? (silenced c s) n = some a := ha
    exact ⟨by rw [hattempt]; rfl, .inl ⟨w, by rw [silenced_waits]; exact hw, hwn⟩⟩
  obtain ⟨q, hq⟩ := waitsExpired_eq hbusy' hevery (silenced c s).brd.stallTimer
  obtain ⟨q', hq'⟩ := hfold.settle
  have hu : waitsExpired (waitersFor c s) { s with
      meas := (s.meas.withSilence c none).withState c .silent, link := queueNotice (.console c .active .silent) s.link } =
        withStall q ((waitingOn c s).foldl (fun s n => settleSingle n s) (silenced c s)) := by
    rw [← hq, waitersFor_eq]
    rfl
  have honly : OnlyChanges [.brd, .link, .cst, .meas, .scr, .diag] (startTx s) (silenceExpired c (startTx s)) := by
    rw [silence_effect hrunning hactive]
    exact ((silenced_only c _).mono (by simp)).trans (foldl_settleSingle_ends _ _).only
  refine Happens.of_effect (f := silenceExpired c) rfl honly.effect ?_
  · rw [hu, hbusy.startTx, heffect, hq']
    exact ⟨rfl, rfl, rfl, rfl, rfl, rfl, rfl⟩

/-- Settles O45: the mark limit and the wait as inputs to the scoring, and the silence as the ends of the waits. -/
theorem marksThatDoNotCome : Obligations.MarksThatDoNotCome := by
  refine ⟨fun s k a hill _ hmarks ha => ⟨markLimit_happens hmarks ha, fun x hwait hx => ?_⟩, fun s k c hrunning =>
    ⟨silence_unawaited hrunning, fun hactive hill _ => silence_settles hrunning hactive hill, fun q a hactive _ hmarks hwaits ha hmark =>
      silence_of_one hrunning hactive hmarks hwaits ha hmark, fun note hactive htx hsender =>
      silence_of_several hrunning hactive htx hsender, silence_quiet hrunning⟩⟩
  have hpresent : presentDistance a = some x.d := by
    rcases hx with hA | ⟨hA, hB⟩
    · rw [presentDistance, hA]; rfl
    · rw [presentDistance, hA, hB]; rfl
  rw [← hpresent]
  exact waitExpiry_happens hmarks ha hwait

end Sys2Proof

/-! PROOFS. SET LINES: what an assignment of lines does (R7, R10, R12, R16, R146). -/

namespace Sys2Proof

open Machine

variable {s t u v : State} {l old new : List Assignment} {f : LineFunction} {tag : Byte} {codes : List (Nat × Nat)}

/-! ## The sensed level of an input function (R12, R14) -/

theorem sensedFn_of_input (hok : assignmentsOk s.prof.profile.lines = true) (hf : needsOutput f = false) :
    sensedFn s f = (lineIn s.prof.profile.lines f).map s.fld.outside.getLsbD := by
  unfold sensedFn lineOf
  cases hline : lineIn s.prof.profile.lines f with
  | none => rfl
  | some i =>
    obtain ⟨a, ha, hfn⟩ := lineIn_eq_some hline
    have hmode : a.mode = .input := by
      have hall := List.all_eq_true.mp (Bool.and_eq_true_iff.mp hok).1 a (List.mem_of_getElem? ha)
      rw [hfn, hf] at hall
      simpa using hall
    simp [sensed, ha, hmode]

/-! ## The written levels (R7, R12) -/

/-- The written level of a line after an assignment. -/
def writtenAt (old new : List Assignment) (w : BitVec 16) (n : Nat) : Bool :=
  match new[n]? with
  | some a => if old[n]? = some a then w.getLsbD n else startLevel a
  | none => w.getLsbD n

/-- The levels once the assignment of one line has been followed. -/
def lineWritten (old new : List Assignment) (w : BitVec 16) (i : Nat) : BitVec 16 :=
  match new[i]? with
  | some a => if old[i]? = some a then w else setLevel w i (startLevel a)
  | none => w

theorem getLsbD_lineWritten (old new : List Assignment) (w : BitVec 16) {i : Nat} (hi : i < 16) (n : Nat) :
    (lineWritten old new w i).getLsbD n = if n = i then writtenAt old new w n else w.getLsbD n := by
  unfold lineWritten
  by_cases hn : n = i
  · subst hn
    rw [if_pos rfl, writtenAt]
    cases new[n]? with
    | none => rfl
    | some a =>
      by_cases hold : old[n]? = some a
      · simp only [if_pos hold]
      · simp only [if_neg hold, getLsbD_setLevel _ hi, if_true]
  · rw [if_neg hn]
    cases new[i]? with
    | none => rfl
    | some a =>
      by_cases hold : old[i]? = some a
      · simp only [if_pos hold]
      · simp only [if_neg hold, getLsbD_setLevel _ hi, if_neg hn]

theorem writtenAt_congr {w w' : BitVec 16} {n : Nat} (h : w.getLsbD n = w'.getLsbD n) (old new : List Assignment) :
    writtenAt old new w n = writtenAt old new w' n := by
  unfold writtenAt
  rw [h]

theorem getLsbD_foldl_lineWritten (old new : List Assignment) (w : BitVec 16) {k : Nat} (hk : k ≤ 16) (n : Nat) :
    ((List.range k).foldl (lineWritten old new) w).getLsbD n = if n < k then writtenAt old new w n else w.getLsbD n := by
  induction k with
  | zero => rfl
  | succ k ih =>
    have hrest := ih (by omega)
    rw [List.range_succ, List.foldl_append, List.foldl_cons, List.foldl_nil, getLsbD_lineWritten old new _ (by omega)]
    by_cases hn : n = k
    · rw [if_neg (by omega)] at hrest
      rw [if_pos hn, if_pos (by omega), writtenAt_congr hrest]
    · rw [if_neg hn, hrest]
      by_cases hlt : n < k
      · rw [if_pos hlt, if_pos (by omega)]
      · rw [if_neg hlt, if_neg (by omega)]

theorem getLsbD_writtenAfter {a : Assignment} {n : Nat} (hn : n < 16) (ha : new[n]? = some a) (old : List Assignment) (w : BitVec 16) :
    (writtenAfter old new w).getLsbD n = if old[n]? = some a then w.getLsbD n else startLevel a := by
  refine (getLsbD_foldl_lineWritten old new w (le_refl 16) n).trans ?_
  rw [if_pos hn, writtenAt, ha]

/-! ## What follows the assignment -/

/-- A debounce after an assignment (R7, R10). -/
def debounceAfter (old new : List Assignment) (outside : BitVec 16) (line : DebouncedLine) (d : Debounce) : Debounce :=
  if lineIn new (lineFunction line) = lineIn old (lineFunction line) then d
  else { level := ((lineIn new (lineFunction line)).map outside.getLsbD).getD (restLevel line), timer := none, stamp := none }

/-- FLD after an assignment. -/
def assigned (old new : List Assignment) (f : Fld) : Fld :=
  { f with written := writtenAfter old new f.written, leave := debounceAfter old new f.outside .leave f.leave,
           stop := debounceAfter old new f.outside .juryStop f.stop }

theorem followDebounce_eq (hok : assignmentsOk s.prof.profile.lines = true) (old : List Assignment) (line : DebouncedLine) :
    followDebounce old line s = s.onFld fun f => f.withDebounce line
      (debounceAfter old s.prof.profile.lines s.fld.outside line (debounce line f)) := by
  unfold followDebounce debounceAfter
  by_cases h : lineIn s.prof.profile.lines (lineFunction line) = lineIn old (lineFunction line)
  · rw [if_pos (show _ = lineOf s _ from h.symm)]
    simp only [if_pos h]
    cases line <;> rfl
  · rw [if_neg (show ¬_ = lineOf s _ from fun hc => h hc.symm), startDebounce,
      sensedFn_of_input hok (show needsOutput (lineFunction line) = false by cases line <;> rfl)]
    simp only [if_neg h]

/-- The blocks after an assignment, before the board's ready level. -/
def lineFollowed (old : List Assignment) (s : State) : State :=
  ((s.onFld (assigned old s.prof.profile.lines)).onWln (followTxen old s.prof.profile.lines)).onGate
    (followDrive (driveComplete s.prof.profile.lines))

theorem followLines_eq (hok : assignmentsOk s.prof.profile.lines = true) (old : List Assignment) : followLines old s =
    if readyLevel (lineFollowed old s) = s.brd.ready then lineFollowed old s
    else setReady (readyLevel (lineFollowed old s)) (lineFollowed old s) := by
  have hleave : followDebounce old .leave (s.onFld fun f => { f with written := writtenAfter old s.prof.profile.lines f.written }) =
      s.onFld fun f => { f with written := writtenAfter old s.prof.profile.lines f.written,
                                leave := debounceAfter old s.prof.profile.lines f.outside .leave f.leave } :=
    followDebounce_eq (s := s.onFld _) hok old .leave
  have hboth : followDebounce old .juryStop (followDebounce old .leave
      (s.onFld fun f => { f with written := writtenAfter old s.prof.profile.lines f.written })) =
        s.onFld (assigned old s.prof.profile.lines) := by
    rw [hleave]
    exact followDebounce_eq (s := s.onFld _) hok old .juryStop
  unfold followLines
  simp only [hboth]
  rfl

/-! ## The board's ready level (R146, R147) -/

/-- The state once the board's ready level follows the assignment. -/
def readyFollowed (s : State) : State := if readyLevel s = s.brd.ready then s else setReady (readyLevel s) s

theorem readyFollowed_only (s : State) : OnlyChanges [.brd, .link] s (readyFollowed s) := by
  unfold readyFollowed
  split
  · exact .refl _ s
  · exact ⟨fun b hb => by cases b <;> simp [SameBlock] at hb ⊢, by simp, by simp⟩

theorem readyFollowed_brd (s : State) : (readyFollowed s).brd.ready = readyLevel s
    ∧ (readyFollowed s).brd.messages = s.brd.messages ∧ (readyFollowed s).brd.subjects = s.brd.subjects := by
  unfold readyFollowed
  split
  next h => exact ⟨h.symm, rfl, rfl⟩
  next => simp only [setReady]; split <;> exact ⟨rfl, rfl, rfl⟩

theorem readyFollowed_core (s : State) : (readyFollowed s).link.core = s.link.core := by
  unfold readyFollowed
  split
  · rfl
  · simp only [setReady]
    split
    · exact queueNotice_core _ _
    · rfl

/-! ## SET LINES -/

theorem driveFollowed_of_complete {g : Gate} : (g.state ≠ .manual → followDrive true g = g)
    ∧ (g.state = .manual → followDrive true g = { g with state := .unknown, current := none }) :=
  ⟨fun h => if_neg h, fun h => if_pos h⟩

theorem driveFollowed_of_incomplete {g : Gate} : (g.state = .manual → followDrive false g = g)
    ∧ (g.state ≠ .manual → followDrive false g =
        { g with state := .manual, current := some (g.current.getD 1), jury := some (g.jury.getD (g.current.getD 1)) }) :=
  ⟨fun h => if_pos h, fun h => if_neg h⟩

/-- PROF with the lines `l`. -/
def withLines (l : List Assignment) (p : Profile) : Profile := { p with lines := l }

theorem setLines_completes (hF : Free s) (tag : Byte) (hblocked : editBlocked s = none) (hlen : codes.length = 16)
    (hstill : s.gate.state.motion = false) (htest : s.wln.test = .idle) (hl : assignmentsOf codes = some l)
    (hok : assignmentsOk l = true) : Completes (.setLines tag codes) .done .none [.prof, .fld, .wln, .gate] s fun t =>
      t.prof = { s.prof with profile := withLines l s.prof.profile, unsaved := true }
      ∧ t.fld = assigned s.prof.profile.lines l s.fld ∧ t.wln = followTxen s.prof.profile.lines l s.wln
      ∧ t.gate = followDrive (driveComplete l) s.gate ∧ t.brd.ready = (sensedFn t .boardReady).getD true
      ∧ t.brd.messages = s.brd.messages ∧ t.brd.subjects = s.brd.subjects ∧ LinkKept s t := by
  have hserve : serveSetLines codes (taken 0x13 tag s) =
      done (readyFollowed (lineFollowed s.prof.profile.lines (edit (withLines l) (taken 0x13 tag s)))) := by
    have hfollow := followLines_eq (s := edit (withLines l) (taken 0x13 tag s)) hok s.prof.profile.lines
    have hbusy : ¬(s.gate.state.motion = true ∨ s.wln.test ≠ .idle) := by simp [hstill, htest]
    unfold serveSetLines
    rw [if_neg (not_not.mpr hlen)]
    simp only [show editBlocked (taken 0x13 tag s) = none by simpa [editBlocked] using hblocked, taken_gate, taken_wln, if_neg hbusy, hl, if_pos hok, taken_prof]
    exact congrArg done hfollow
  generalize hw : lineFollowed s.prof.profile.lines (edit (withLines l) (taken 0x13 tag s)) = w at hserve
  have honly : OnlyChanges [.prof, .fld, .wln, .gate] (taken 0x13 tag s) w := by
    subst hw
    exact ⟨fun b hb => by cases b <;> simp [SameBlock, lineFollowed, edit] at hb ⊢, rfl, rfl⟩
  have hrest := readyFollowed_only w
  obtain ⟨hready, hmessages, hsubjects⟩ := readyFollowed_brd w
  have hbrd : w.brd = s.brd := (honly.1 .brd (by simp)).trans (taken_brd ..)
  have hlink : w.link = (taken 0x13 tag s).link := honly.1 .link (by simp)
  have hprof : w.prof = { s.prof with profile := withLines l s.prof.profile, unsaved := true } := by
    subst hw; simp [lineFollowed, edit]
  have hfld : w.fld = assigned s.prof.profile.lines l s.fld := by
    subst hw; simp [lineFollowed, edit, withLines]
  refine Completes.of_block hF rfl rfl hserve ((readyFollowed_core w).trans (by rw [hlink]))
    ((honly.mono (by simp)).trans (hrest.mono (by simp))) fun t ht => ?_
  have htprof : t.prof = w.prof := ht.prof.trans (hrest.1 .prof (by simp))
  have htfld : t.fld = w.fld := ht.fld.trans (hrest.1 .fld (by simp))
  have hsensed : sensedFn t .boardReady = sensedFn w .boardReady :=
    sensedFn_congr _ (by rw [htprof]) (by rw [htfld]) (by rw [htfld]) rfl
  refine ⟨htprof.trans hprof, htfld.trans hfld, ht.wln.trans ((hrest.1 .wln (by simp)).trans ?_),
    ht.gate.trans ((hrest.1 .gate (by simp)).trans ?_), ?_, ?_, ?_, ht.kept (LinkKept.of_core ?_)⟩
  · subst hw; simp [lineFollowed, edit, withLines]
  · subst hw; simp [lineFollowed, edit, withLines]
  · rw [ht.ready, hready, hsensed]; rfl
  · rw [ht.messages, hmessages, hbrd]
  · rw [ht.subjects, hsubjects, hbrd]
  · rw [readyFollowed_core, hlink]

/-- Settles O22: the refusals, and what follows an assignment block by block. -/
theorem setLinesAssignsEveryLine : Obligations.SetLinesAssignsEveryLine := by
  intro s tag codes hF hopen hwriting hlen
  have hblocked := editBlocked_of_free hopen hwriting
  refine ⟨fun hbusy => refuses_of_block hF rfl rfl ?_, fun hstill htest hbad => refuses_of_block hF rfl rfl ?_,
    fun l hstill htest hl hok => ?_⟩
  · simp [serveSetLines, hlen, hblocked, hbusy]
  · rcases hbad with hnone | hfalse
    · simp [serveSetLines, hlen, hblocked, hstill, htest, hnone]
    · obtain ⟨l, hl, hno⟩ := Option.map_eq_some_iff.mp hfalse
      simp [serveSetLines, hlen, hblocked, hstill, htest, hl, hno]
  · obtain ⟨t, hanswers, honly, hprof, hfld, hwln, hgate, hready, hmessages, hsubjects, hkept⟩ :=
      setLines_completes hF tag hblocked hlen hstill htest hl hok
    refine ⟨t, hanswers, honly, hprof, by rw [hfld]; rfl, by rw [hfld]; rfl, by rw [hfld]; rfl, fun n a hn ha => ?_, fun hsame => ?_,
      fun hmoved => ?_, fun hdrive hstate => ?_, fun hdrive hstate => ?_, fun hdrive hstate => ?_, fun hdrive hstate => ?_, hready,
      hmessages, hsubjects, hkept⟩
    · rw [hfld]
      exact getLsbD_writtenAfter hn ha _ _
    · rw [hwln]
      exact if_pos hsame
    · rw [hwln]
      exact if_neg hmoved
    · rw [hgate, hdrive]
      exact driveFollowed_of_complete.1 hstate
    · rw [hgate, hdrive]
      exact driveFollowed_of_complete.2 hstate
    · rw [hgate, hdrive]
      exact driveFollowed_of_incomplete.1 hstate
    · rw [hgate, hdrive]
      exact driveFollowed_of_incomplete.2 hstate

end Sys2Proof

/-! PROOFS. WLN's polling (05, section 5.2): the slots that are due, the beginning of an exchange, and the beginning of a cycle. -/

namespace Sys2Proof

open Machine

variable {s u : State} {k n number : Nat}

/-! ## The station records -/

theorem station_setStation_same (hk : k < s.wln.stations.length) (f : Station → Station) :
    station (setStation k f s) k = f (station s k) := by
  simp [station, setStation, List.getD_eq_getElem?_getD, hk]

theorem station_setStation_other (h : n ≠ k) (f : Station → Station) (s : State) :
    station (setStation k f s) n = station s n := by
  simp [station, setStation, List.getD_eq_getElem?_getD, Ne.symm h]

theorem station_congr (h : u.wln.stations = s.wln.stations) (k : Nat) : station u k = station s k := by rw [station, station, h]

theorem slot_congr (h : u.prof = s.prof) (k : Nat) : slot? u k = slot? s k := by rw [slot?, slot?, h]

/-- A station's record once a cycle has begun (R5, R81). -/
def freshened (x : Station) : Station := { x with good := false, newcomer := false }

theorem station_freshened (h : u.wln.stations = s.wln.stations.map freshened) (k : Nat) : station u k = freshened (station s k) := by
  rw [station, station, h, List.getD_eq_getElem?_getD, List.getD_eq_getElem?_getD, List.getElem?_map]
  cases s.wln.stations[k]? <;> rfl

/-! ## The slots that are due (R79, R80) -/

theorem canBePolled_iff (s : State) (n : Nat) :
    canBePolled s n = true ↔ (slot? s n).isSome = true ∧ (station s n).state ≠ .disabled := by simp [canBePolled]

theorem slots_eq_range : [0, 1, 2, 3, 4, 5, 6, 7] = List.range 8 := rfl

theorem anyPollable_iff (s : State) : anyPollable s = true ↔ ∃ n < 8, canBePolled s n = true := by
  rw [anyPollable, slots_eq_range, List.any_eq_true]
  simp only [List.mem_range]

theorem due_iff (s : State) (n : Nat) : due s n = true ↔ canBePolled s n = true ∧ (station s n).newcomer = false
    ∧ ((station s n).state = .offline → s.wln.cycle % 8 = 0) := by
  by_cases h : (station s n).state = .offline <;> simp [due, h, and_assoc]

theorem nextDue_iff (s : State) (n : Nat) : nextDue s = some n ↔ n < 8 ∧ s.wln.nextSlot ≤ n ∧ due s n = true
    ∧ ∀ m, s.wln.nextSlot ≤ m → due s m = true → n ≤ m := by
  rw [nextDue, slots_eq_range, List.find?_range_eq_some, List.mem_range]
  simp only [Bool.and_eq_true, decide_eq_true_eq, Bool.not_eq_true', Bool.and_eq_false_iff, decide_eq_false_iff_not]
  constructor
  · rintro ⟨⟨hle, hdue⟩, hn, hleast⟩
    refine ⟨hn, hle, hdue, fun m hm hdm => not_lt.mp fun hlt => ?_⟩
    rcases hleast m hlt with h | h
    · exact h hm
    · rw [h] at hdm; cases hdm
  · rintro ⟨hn, hle, hdue, hleast⟩
    refine ⟨⟨hle, hdue⟩, hn, fun m hm => or_iff_not_imp_left.mpr fun hmle => Bool.eq_false_iff.mpr fun hdm => ?_⟩
    exact absurd (hleast m (not_not.mp hmle) hdm) (Nat.not_le.mpr hm)

theorem nextDue_eq_none (h : ∀ k, s.wln.nextSlot ≤ k → due s k = false) : nextDue s = none := by
  rw [nextDue, List.find?_eq_none]
  intro k _
  by_cases hk : s.wln.nextSlot ≤ k
  · simp [h k hk]
  · simp [hk]

theorem nextDue_isSome (hk : k < 8) (hle : s.wln.nextSlot ≤ k) (hdue : due s k = true) : (nextDue s).isSome = true := by
  rw [nextDue, slots_eq_range, List.find?_isSome]
  exact ⟨k, List.mem_range.mpr hk, by simp [hle, hdue]⟩

theorem canBePolled_congr (hprof : u.prof = s.prof) (hstate : (station u k).state = (station s k).state) :
    canBePolled u k = canBePolled s k := by rw [canBePolled, canBePolled, slot_congr hprof, hstate]

theorem due_congr (hprof : u.prof = s.prof) (hstations : station u k = station s k) (hcycle : u.wln.cycle = s.wln.cycle) :
    due u k = due s k := by
  rw [due, due, canBePolled_congr hprof (by rw [hstations]), hstations, hcycle]

/-! ## The beginning of an exchange (R74) -/

/-- WLN `w` is WLN `v` with an exchange with slot `k` begun: nothing but the exchange's own registers is new. -/
def Begun (k : Nat) (v w : Wln) : Prop :=
  (w.phase = .carrierWait ∨ w.phase = .turnaround)
    ∧ w = { v with phase := w.phase, polled := k, polledAddress := w.polledAddress, discard := false, cdLine := w.cdLine,
                   txenMoved := false, carrierTimer := w.carrierTimer, nextSlot := k + 1, txen := w.txen, turnTimer := w.turnTimer }

theorem beginExchange_begun (k : Nat) (s : State) : ∃ w, beginExchange k s = s.onWln (fun _ => w) ∧ Begun k s.wln w := by
  simp only [beginExchange, enterTurnaround]
  split
  · exact ⟨_, rfl, .inl rfl, rfl⟩
  · exact ⟨_, rfl, .inr rfl, rfl⟩

theorem runSlots_of_due (h : nextDue s = some k) : ∃ w, runSlots s = s.onWln (fun _ => w) ∧ Begun k s.wln w := by
  unfold runSlots
  rw [h]
  exact beginExchange_begun k s

/-! ## The beginning of a cycle (R79) -/

/-- WLN as a cycle with a number begins, before its first slot. -/
def cycleStart (number : Nat) (s : State) : Wln :=
  { s.wln with poll := .inCycle, cycle := number, cycleTimer := some s.prof.profile.hill.cycleMin, nextSlot := 0,
               stations := s.wln.stations.map freshened }

theorem beginCycle_eq (number : Nat) (s : State) : beginCycle number s = runSlots (s.onWln fun _ => cycleStart number s) := rfl

theorem station_cycleStart (number : Nat) (s : State) (k : Nat) :
    station (s.onWln fun _ => cycleStart number s) k = freshened (station s k) := station_freshened rfl k

/-- Once a cycle has begun, exactly the slots are due that the statements say. -/
theorem due_cycleStart (number : Nat) (s : State) (k : Nat) : due (s.onWln fun _ => cycleStart number s) k = true ↔
    canBePolled s k = true ∧ ((station s k).state = .offline → number % 8 = 0) := by
  have hcan : canBePolled (s.onWln fun _ => cycleStart number s) k = canBePolled s k :=
    canBePolled_congr rfl (by rw [station_cycleStart]; rfl)
  rw [due_iff, station_cycleStart, hcan]
  exact ⟨fun ⟨hcan, _, hoff⟩ => ⟨hcan, hoff⟩, fun ⟨hcan, hoff⟩ => ⟨hcan, rfl, hoff⟩⟩

/-- A cycle begins with the exchange of its first due slot. -/
theorem beginCycle_of_due (h : DueIn number k s) : ∃ j w, beginCycle number s = s.onWln (fun _ => w) ∧ Begun j (cycleStart number s) w
    ∧ DueIn number j s ∧ ∀ m, DueIn number m s → j ≤ m := by
  obtain ⟨hk, hcan, hoff⟩ := h
  have hsome := nextDue_isSome (s := s.onWln fun _ => cycleStart number s) hk (Nat.zero_le _)
    ((due_cycleStart number s k).mpr ⟨hcan, hoff⟩)
  obtain ⟨j, hj⟩ := Option.isSome_iff_exists.mp hsome
  obtain ⟨w, hw, hbegun⟩ := runSlots_of_due hj
  obtain ⟨hj8, -, hdue, hleast⟩ := (nextDue_iff _ _).mp hj
  exact ⟨j, w, hw, hbegun, ⟨hj8, (due_cycleStart number s j).mp hdue⟩,
    fun m ⟨_, hm⟩ => hleast m (Nat.zero_le _) ((due_cycleStart number s m).mpr hm)⟩

/-- The next cycle begins, and changes WLN alone. -/
theorem nextCycle_of_due (h : DueIn ((s.wln.cycle + 1) % 65536) k s) : ∃ w, nextCycle s = s.onWln (fun _ => w)
    ∧ CycleBegins s (s.onWln fun _ => w) ∧ Begun w.polled (cycleStart ((s.wln.cycle + 1) % 65536) s) w := by
  obtain ⟨j, w, hw, ⟨hphase, hbegun⟩, hj, hleast⟩ := beginCycle_of_due h
  have hpolled : w.polled = j := congrArg Wln.polled hbegun
  have hstations : w.stations = s.wln.stations.map freshened := congrArg Wln.stations hbegun
  refine ⟨w, hw, ⟨congrArg Wln.poll hbegun, congrArg Wln.cycle hbegun, congrArg Wln.cycleTimer hbegun, hphase, ?_, fun m hm => ?_,
    station_freshened hstations⟩, hphase, by rw [hpolled]; exact hbegun⟩
  · exact hpolled ▸ hj
  · exact hpolled ▸ hleast m hm

/-! ## What polling may change at all -/

theorem pollable_only (s : State) : OnlyChanges [.brd, .link, .cst, .stc, .gate, .wln, .diag] s (pollable s) :=
  ⟨fun b hb => by cases b <;> simp [SameBlock] at hb ⊢, by simp, by simp⟩

theorem pollable_of_polling (h : s.wln.poll ≠ .stopped) : pollable s = s := if_neg fun hc => h hc.1

theorem pollable_of_testing (h : s.wln.test ≠ .idle) : pollable s = s := if_neg fun hc => h hc.2.1

theorem pollable_of_stopped (hpoll : s.wln.poll = .stopped) (htest : s.wln.test = .idle) (hany : anyPollable s = true) :
    pollable s = nextCycle s := if_pos ⟨hpoll, htest, hany⟩

end Sys2Proof

/-! PROOFS. SET STATION: the slot, its record, and the polling that its station may begin (R5, R80). -/

namespace Sys2Proof

open Machine

variable {s v u : State} {k presence : Nat} {old new : Option StationSlot} {x : StationSlot}

/-! ## What follows the slot (R5) -/

theorem discardExchange_eq (k : Nat) (s : State) : discardExchange k s =
    s.onWln fun w => { w with discard := if w.phase ≠ .none ∧ w.polled = k then true else w.discard } := by
  unfold discardExchange
  split
  next h => exact congrArg (fun b => s.onWln fun w => { w with discard := b }) (if_pos h).symm
  next h => exact congrArg (fun b => s.onWln fun w => { w with discard := b }) (if_neg h).symm

/-- WLN once a slot has been replaced, where its presence or address is new. -/
def slotReset (k : Nat) (newcomer : Bool) (w : Wln) : Wln :=
  { w with stations := w.stations.modify k fun _ => { stationReset with newcomer },
           discard := if w.phase ≠ .none ∧ w.polled = k then true else w.discard }

/-- WLN once a slot has been replaced. -/
def slotFollowed (k : Nat) (old new : Option StationSlot) (w : Wln) : Wln :=
  if old.map StationSlot.address = new.map StationSlot.address then w
  else slotReset k (old.isNone || (w.stations.getD k stationReset).newcomer) w

theorem followSlot_eq (k : Nat) (old new : Option StationSlot) (s : State) :
    followSlot k old new s = s.onWln (slotFollowed k old new) := by
  unfold followSlot
  simp only [State.onWln, slotFollowed]
  split
  · rfl
  · exact discardExchange_eq k _

/-- The profile with a slot replaced. -/
def withSlot (k : Nat) (new : Option StationSlot) (p : Profile) : Profile := { p with slots := p.slots.set k new }

/-- The state once a slot has been replaced, before a station that can be polled may begin polling. -/
def slotReplaced (k : Nat) (new : Option StationSlot) (s : State) : State :=
  (edit (withSlot k new) s).onWln (slotFollowed k (slot? s k) new)

theorem serveSetStation_eq (hblocked : editBlocked s = none) {address bearing roles : Nat}
    (hok : stationOk s.prof.valid s.prof.profile.slots k presence (slotOf address bearing roles) = true) :
    serveSetStation k presence address bearing roles s =
      done (pollable (slotReplaced k (if presence = 1 then some (slotOf address bearing roles) else none) s)) := by
  unfold serveSetStation
  rw [hblocked]
  simp only [if_pos hok, followSlot_eq]
  rfl

theorem slotReplaced_only (k : Nat) (new : Option StationSlot) (s : State) : OnlyChanges [.prof, .wln] s (slotReplaced k new s) :=
  ⟨fun b hb => by cases b <;> simp [SameBlock, slotReplaced, edit] at hb ⊢, rfl, rfl⟩

/-! ## The first cycle (R80) -/

theorem slot_slotReplaced (hk : k < s.prof.profile.slots.length) (new : Option StationSlot) : slot? (slotReplaced k new s) k = new := by
  simp [slot?, slotReplaced, edit, withSlot, hk]

/-- A slot that becomes present is due as soon as a cycle begins. -/
theorem dueIn_slotReplaced (hk : k < 8) (hslots : s.prof.profile.slots.length = 8) (hstations : s.wln.stations.length = 8)
    (hold : slot? s k = none) (x : StationSlot) (number : Nat) : DueIn number k (slotReplaced k (some x) s) := by
  have hwln : (slotReplaced k (some x) s).wln = slotReset k true s.wln := by
    simp [slotReplaced, edit, slotFollowed, hold]
  have hstation : station (slotReplaced k (some x) s) k = { stationReset with newcomer := true } := by
    simp [station, hwln, slotReset, hstations, hk]
  refine ⟨hk, (canBePolled_iff _ k).mpr ⟨?_, ?_⟩, fun h => ?_⟩
  · rw [slot_slotReplaced (by omega)]; rfl
  · rw [hstation]; simp [stationReset]
  · rw [hstation] at h; simp [stationReset] at h

section Request

variable (hF : Free s) (tag : Byte) (hblocked : editBlocked s = none) {address bearing roles : Nat}
  (hok : stationOk s.prof.valid s.prof.profile.slots k presence (slotOf address bearing roles) = true)

include hF hblocked hok

theorem setStation_completes {bs : List Block} {P : State → Prop} (hnew : new = if presence = 1 then some (slotOf address bearing roles) else none)
    (hu : pollable (slotReplaced k new (taken 0x11 tag s)) = u)
    (ho : OnlyChanges (.brd :: .link :: bs) (taken 0x11 tag s) u) (hcore : u.link.core = (taken 0x11 tag s).link.core)
    (hP : ∀ t, After s (taken 0x11 tag s) u t → P t) :
    Completes (.setStation tag k presence address bearing roles) .done .none bs s P := by
  have hserve := serveSetStation_eq (s := taken 0x11 tag s) (k := k) (presence := presence)
    (by simpa [editBlocked] using hblocked) (by simpa using hok)
  rw [← hnew, hu] at hserve
  exact Completes.of_block hF rfl rfl hserve hcore ho hP

theorem setStation_replaces (hnew : new = if presence = 1 then some (slotOf address bearing roles) else none) :
    Completes (.setStation tag k presence address bearing roles) .done .none [.prof, .cst, .stc, .gate, .wln, .diag] s fun t =>
      t.prof = { s.prof with profile := withSlot k new s.prof.profile, unsaved := true } := by
  refine setStation_completes hF tag hblocked hok hnew rfl
    (((slotReplaced_only k new _).mono (by simp)).trans ((pollable_only _).mono (by simp))) (by simp [slotReplaced, edit])
    fun t ht => ?_
  rw [ht.prof]
  simp [slotReplaced, edit]

theorem setStation_polling (hnew : new = if presence = 1 then some (slotOf address bearing roles) else none)
    (hpoll : s.wln.poll ≠ .stopped) :
    Completes (.setStation tag k presence address bearing roles) .done .none [.prof, .wln] s fun t =>
      t.prof = { s.prof with profile := withSlot k new s.prof.profile, unsaved := true } ∧ Quiet s t
        ∧ t.wln = slotFollowed k (slot? s k) new s.wln := by
  have hpolling : (slotReplaced k new (taken 0x11 tag s)).wln.poll ≠ .stopped := by
    simp only [slotReplaced, edit, State.onWln_wln, State.onProf_wln, taken_wln, slotFollowed]
    split
    · exact hpoll
    · exact hpoll
  refine setStation_completes hF tag hblocked hok hnew (pollable_of_polling hpolling) ((slotReplaced_only k new _).mono (by simp)) rfl
    fun t ht => ⟨?_, ht.quiet rfl (by simp [slotReplaced, edit]), ?_⟩
  · rw [ht.prof]
    simp [slotReplaced, edit]
  · rw [ht.wln]
    simp [slotReplaced, edit]

theorem setStation_begins (hk : k < 8) (hpoll : s.wln.poll = .stopped) (htest : s.wln.test = .idle)
    (hslots : s.prof.profile.slots.length = 8) (hstations : s.wln.stations.length = 8) (hpresent : presence = 1)
    (hold : slot? s k = none) :
    Completes (.setStation tag k presence address bearing roles) .done .none [.prof, .wln] s fun t =>
      t.prof = { s.prof with profile := withSlot k (some (slotOf address bearing roles)) s.prof.profile, unsaved := true }
        ∧ t.wln.poll = .inCycle ∧ t.wln.cycle = (s.wln.cycle + 1) % 65536 ∧ t.wln.phase ≠ .none := by
  generalize hv : taken 0x11 tag s = v
  have hprof : v.prof = s.prof := by subst hv; simp
  have hwln : v.wln = s.wln := by subst hv; simp
  have hnone : slot? v k = none := by rw [slot_congr hprof]; exact hold
  have hreset : (slotReplaced k (some (slotOf address bearing roles)) v).wln = slotReset k true s.wln := by
    simp [slotReplaced, edit, slotFollowed, hnone, hwln]
  have hdue := dueIn_slotReplaced (s := v) hk (by rw [hprof]; exact hslots) (by rw [hwln]; exact hstations) hnone
    (slotOf address bearing roles)
  obtain ⟨w, hw, ⟨hin, hcycle, -, hphase, -⟩, -⟩ := nextCycle_of_due (hdue _)
  have hany : anyPollable (slotReplaced k (some (slotOf address bearing roles)) v) = true :=
    (anyPollable_iff _).mpr ⟨k, hk, (hdue 0).2.1⟩
  have hbegins := pollable_of_stopped (s := slotReplaced k (some (slotOf address bearing roles)) v)
    (by rw [hreset]; exact hpoll) (by rw [hreset]; exact htest) hany
  rw [hw] at hbegins
  subst hv
  refine setStation_completes hF tag hblocked hok (if_pos hpresent).symm hbegins ?_ rfl fun t ht => ⟨?_, ?_, ?_, ?_⟩
  · refine ((slotReplaced_only k (some (slotOf address bearing roles)) _).mono (by simp)).trans ?_
    exact ⟨fun b hb => by cases b <;> simp [SameBlock] at hb ⊢, rfl, rfl⟩
  · rw [ht.prof]
    simp [slotReplaced, edit]
  · rw [ht.wln]
    exact hin
  · rw [ht.wln]
    exact hcycle.trans (by rw [hreset]; rfl)
  · rw [ht.wln]
    rcases hphase with h | h
    · exact fun hc => nomatch h.symm.trans hc
    · exact fun hc => nomatch h.symm.trans hc

end Request

/-- Settles O20: the slot in every case, its record while polling goes on, and the first cycle. -/
theorem setStationReplacesTheSlot : Obligations.SetStationReplacesTheSlot := by
  intro s tag k presence address bearing roles hF hopen hwriting
  have hblocked := editBlocked_of_free hopen hwriting
  refine ⟨fun hok => ⟨setStation_replaces hF tag hblocked hok rfl, fun hpoll => ?_,
    fun hpoll htest hslots hstations hpresent hold => ?_⟩, fun hbad => refuses_of_block hF rfl rfl ?_⟩
  · obtain ⟨t, hanswers, honly, hprof, hquiet, hwln⟩ := setStation_polling hF tag hblocked hok rfl hpoll
    exact ⟨t, hanswers, honly, hprof, hquiet, fun hsame => hwln.trans (if_pos hsame), fun hmoved => hwln.trans (if_neg hmoved)⟩
  · have hk : k < 8 := by
      have := (Bool.and_eq_true_iff.mp hok).1
      have := of_decide_eq_true this
      omega
    have hbegins := setStation_begins hF tag hblocked hok hk hpoll htest hslots hstations hpresent hold
    rw [if_pos hpresent]
    exact hbegins
  · have hbad' : stationOk (taken 0x11 tag s).prof.valid (taken 0x11 tag s).prof.profile.slots k presence
        (slotOf address bearing roles) = false := by simpa using hbad
    unfold serveSetStation
    rw [show editBlocked (taken 0x11 tag s) = none by simpa [editBlocked] using hblocked]
    simp only [hbad']
    rfl

end Sys2Proof

/-! PROOFS. The work of a cycle end (06): the means, the sample, the judgement of a pending clear, and the board change (R48, R96 to
R98, R100). -/

namespace Sys2Proof

open Machine

variable {s u v : State} {a : Attempt} {n : Nat} {f : Attempt → Attempt}

/-! ## A change that keeps a record's number, round and state -/

/-- The change keeps what the laws of the hill speak of. -/
def Keeps (f : Attempt → Attempt) : Prop := ∀ r, (f r).number = r.number ∧ (f r).round = r.round ∧ (f r).state = r.state

theorem Keeps.number (hf : Keeps f) (r : Attempt) : (f r).number = r.number := (hf r).1

theorem Keeps.onHill (hf : Keeps f) (n : Nat) (r : Attempt) :
    (if r.number = n then f r else r).state = r.state := by
  obtain ⟨-, -, hstate⟩ := hf r
  split
  · exact hstate
  · rfl

theorem onHill_of_keeps (hf : Keeps f) (hu : u.cst.attempts = (changed n f s.cst).attempts) :
    onHill? u = (onHill? s).map fun r => if r.number = n then f r else r := by
  have hsame : (fun r : Attempt => r.state.onHill) ∘ (fun r => if r.number = n then f r else r) = fun r => r.state.onHill := by
    funext r
    exact congrArg AttemptState.onHill (hf.onHill n r)
  rw [onHill?, hu, changed, List.find?_map, hsame]
  rfl

theorem HillOk.of_keeps (h : HillOk s) (hf : Keeps f) (hu : u.cst = changed n f s.cst) (hheld : u.stc.heldArm = s.stc.heldArm) :
    HillOk u := by
  obtain ⟨hnumbers, hone, hround, hclear⟩ := h
  have hmem : ∀ r ∈ u.cst.attempts, ∃ x ∈ s.cst.attempts, r.round = x.round ∧ r.state = x.state := by
    intro r hr
    rw [hu] at hr
    obtain ⟨x, hx, rfl⟩ := List.mem_map.mp hr
    obtain ⟨-, hxround, -⟩ := hf x
    refine ⟨x, hx, ?_, hf.onHill n x⟩
    split
    · exact hxround
    · rfl
  refine ⟨?_, ?_, fun r hr hon => ?_, fun harm r hr => ?_⟩
  · rw [numbers_changed (s := s) hf.number (by rw [hu]), hnumbers, hu]
    simp [changed]
  · have hsame : (fun r : Attempt => r.state.onHill) ∘ (fun r => if r.number = n then f r else r) = fun r => r.state.onHill := by
      funext r
      exact congrArg AttemptState.onHill (hf.onHill n r)
    rw [hu, changed, List.filter_map, hsame, List.length_map]
    exact hone
  · obtain ⟨x, hx, hxround, hxstate⟩ := hmem r hr
    obtain ⟨hrd, hopen⟩ := hround x hx (by rw [← hxstate]; exact hon)
    rw [hxround, hu]
    exact ⟨hrd, hopen⟩
  · obtain ⟨x, hx, -, hxstate⟩ := hmem r hr
    rw [hxstate]
    exact hclear (hheld ▸ harm) x hx

/-! ## The sample (R100) -/

/-- The record with a sample more. -/
def addSample (m : Int) (r : Attempt) : Attempt := { r with samples := r.samples ++ [m] }

/-- The record with a fault in its set. -/
def withFault (f : DeferredFault) (r : Attempt) : Attempt := { r with faults := joined f r.faults }

theorem addFault_cst (n : Nat) (f : DeferredFault) (s : State) : (addFault n f s).cst = changed n (withFault f) s.cst := by
  rw [addFault_eq]
  rfl

theorem appendSample_adds {m : Int} (hwindow : s.wln.window = some (n, true)) (hmean : s.wln.scoringMean = some m)
    (ha : attempt? s n = some a) (hroom : a.samples.length < 64) : appendSample s = setAttempt n (addSample m) s := by
  simp only [appendSample, hwindow, hmean, ha, if_pos hroom]
  rfl

theorem appendSample_overflows {m : Int} (hwindow : s.wln.window = some (n, true)) (hmean : s.wln.scoringMean = some m)
    (ha : attempt? s n = some a) (hfull : 64 ≤ a.samples.length) :
    appendSample s = addFault n .windOverflow (s.onWln fun w => { w with window := some (n, false) }) := by
  simp only [appendSample, hwindow, hmean, ha, if_neg (Nat.not_lt.mpr hfull)]

theorem appendSample_none (h : s.wln.window = some (n, false) ∨ s.wln.scoringMean = none) : appendSample s = s := by
  unfold appendSample
  split
  next hwindow hmean =>
    rcases h with h | h
    · exact nomatch hwindow.symm.trans h
    · exact nomatch hmean.symm.trans h
  next => rfl

/-- The sample changes records by `Keeps` and otherwise the wind window alone. -/
theorem appendSample_kept (s : State) : ∃ n f w, Keeps f ∧ (appendSample s).cst = changed n f s.cst
    ∧ (appendSample s).wln = { s.wln with window := w } := by
  unfold appendSample
  split
  next n m _ _ =>
    split
    next a _ =>
      split
      · exact ⟨n, addSample m, _, fun r => ⟨rfl, rfl, rfl⟩, rfl, rfl⟩
      · exact ⟨n, withFault .windOverflow, _, fun r => ⟨rfl, rfl, rfl⟩, addFault_cst _ _ _, addFault_wln _ _ _⟩
    next => exact ⟨0, id, _, fun r => ⟨rfl, rfl, rfl⟩, (changed_id 0 _).symm, rfl⟩
  next => exact ⟨0, id, _, fun r => ⟨rfl, rfl, rfl⟩, (changed_id 0 _).symm, rfl⟩

/-! ## The judgement (R48) -/

theorem giveGreen_cst (a : Attempt) (s : State) : (giveGreen a s).cst = changed a.number (greened s.link.clock s.gate) s.cst := by
  rw [giveGreen_eq]
  simp [updateLight, cleared]

theorem giveGreen_subjects (a : Attempt) (s : State) : (giveGreen a s).brd.subjects = s.brd.subjects := by
  have hlight : (updateLight (cleared a s)).brd.subjects = s.brd.subjects := by
    rw [updateLight, setLight]
    split
    · rfl
    · simp [enqueue_brd, cleared]
  rw [giveGreen_eq]
  simp [enqueue_brd, hlight]

theorem withholdGreen_brd (a : Attempt) (s : State) : (withholdGreen a s).brd = s.brd := by
  simp only [withholdGreen]
  split <;> simp

theorem judgeClear_of_idle (h : s.stc.clearPending = false) : judgeClear s = s := if_neg (by simp [h])

theorem judgeClear_of_onHill (hpending : s.stc.clearPending = true) (ha : onHill? s = some a) :
    judgeClear s = if windAllows s then giveGreen a s else withholdGreen a s := by
  simp only [judgeClear, hpending, ha, if_true]

theorem judgeClear_subjects (s : State) : (judgeClear s).brd.subjects = s.brd.subjects := by
  unfold judgeClear
  split
  · split
    · split
      · exact giveGreen_subjects _ _
      · rw [withholdGreen_brd]
    · rfl
  · rfl

/-- The judgement leaves the samples and the faults of every attempt. -/
theorem judgeClear_record (s : State) (n : Nat) : (attempt? (judgeClear s) n).map (fun r => (r.samples, r.faults)) =
    (attempt? s n).map fun r => (r.samples, r.faults) := by
  have hsame : ∀ {u : State}, u.cst.attempts = s.cst.attempts → attempt? u n = attempt? s n := fun h => by
    rw [attempt?, attempt?, h]
  unfold judgeClear
  split
  · split
    next a _ =>
      split
      · rw [attempt_changed (f := greened s.link.clock s.gate) (s := s) (fun _ => rfl) (by rw [giveGreen_cst])]
        cases attempt? s n with
        | none => rfl
        | some r =>
          rw [Option.map_some, Option.map_some, Option.map_some]
          split <;> rfl
      · rw [hsame (by simp)]
    · rfl
  · rfl

theorem withholdGreen_stc (a : Attempt) (s : State) : (withholdGreen a s).stc = { s.stc with windWaitSent := true } := by
  simp only [withholdGreen]
  split
  next h =>
    have h : s.stc.windWaitSent = true := by simpa using h
    rw [count_stc, ← h]
  next => simp

theorem Machine.Tells.withholdGreen {w : State} {ks : List Key} {ns : List NoticeBody} {sub : Subjects}
    (h : Tells v ks ns s.diag sub w) (hopen : w.cst.rstate = s.cst.rstate) (a : Attempt) :
    Tells v ks (ns ++ overflows .windDelay s ++ if w.stc.windWaitSent then [] else [.windWait a.number (freshGating w)])
      (Sys2Proof.counted .windDelay s) sub (Machine.withholdGreen a w) := by
  have hcount := h.count hopen .windDelay
  have hfresh : freshGating (Machine.count .windDelay w) = freshGating w := by
    unfold freshGating
    rw [count_wln, count_prof]
  simp only [Machine.withholdGreen, count_stc]
  cases w.stc.windWaitSent with
  | true =>
    rw [if_pos rfl, if_pos rfl, List.append_nil]
    exact hcount
  | false =>
    rw [if_neg (by simp), if_neg (by simp)]
    have hsent := (hcount.onStc fun c => { c with windWaitSent := true }).notify (.windWait a.number (freshGating (Machine.count .windDelay w)))
    rw [hfresh] at hsent ⊢
    exact hsent

/-! ## The board change (R98) -/

theorem windChange_hold (h : s.wln.windHold.isSome = true) :
    windChange s = s.onWln fun w => { w with windDeferred := true } := if_pos h

theorem windChange_enqueues (h : s.wln.windHold = none) :
    windChange s = enqueue (key .wind) (s.onWln fun w => { w with windHold := some 1000 }) := if_neg (by simp [h])

theorem windChange_wln (s : State) : (windChange s).wln = if s.wln.windHold = none then { s.wln with windHold := some 1000 }
    else { s.wln with windDeferred := true } := by
  cases h : s.wln.windHold with
  | none => rw [windChange_enqueues h]; simp
  | some k => rw [windChange_hold (by simp [h])]; simp

theorem windChange_subjects (s : State) : (windChange s).brd.subjects = s.brd.subjects := by
  unfold windChange
  split
  · rfl
  · simp [enqueue_brd]

theorem windChange_of_room (h : s.brd.queue.length < 32) : (windChange s).link = s.link ∧ (windChange s).diag = s.diag := by
  unfold windChange
  split
  · exact ⟨rfl, rfl⟩
  · exact enqueue_of_room (s.onWln fun w => { w with windHold := some 1000 }) (key .wind) h

/-! ## The work in its order (R96) -/

/-- The state of a cycle end before STC's judgement. -/
def sampled (s : State) : State := appendSample (storeMeans s)

/-- The state of a cycle end before the board decision. -/
def judged (s : State) : State := judgeClear (sampled s)

theorem cycleEndWork_eq (s : State) : cycleEndWork s =
    if (judged s).wln.gating.value.isSome ∨ owesStale s = true then windChange (judged s) else judged s := rfl

theorem sampled_wln (s : State) : ∃ w, (sampled s).wln = { (storeMeans s).wln with window := w } := by
  obtain ⟨-, -, w, -, -, hw⟩ := appendSample_kept (storeMeans s)
  exact ⟨w, hw⟩

theorem judged_wln (s : State) : (judged s).wln = (sampled s).wln := judgeClear_wln _

theorem freshGating_sampled (s : State) : freshGating (sampled s) = truncatedMean ((gatingReadings s).map Reading.t) := by
  obtain ⟨w, hw⟩ := sampled_wln s
  have hvalue : (sampled s).wln.gating.value = truncatedMean ((gatingReadings s).map Reading.t) := by rw [hw]; rfl
  have hage : (sampled s).wln.gating.age = 0 := by rw [hw]; rfl
  simp only [freshGating, hvalue, hage]
  cases truncatedMean ((gatingReadings s).map Reading.t) <;> simp

theorem owesStale_iff (s : State) : owesStale s = true ↔ s.wln.gating.value ≠ none ∧
    (s.wln.gating.age ≤ s.prof.profile.hill.freshness ∨ s.wln.gating.staleTaken = false) := by
  cases hv : s.wln.gating.value with
  | none => simp [owesStale, freshGating, hv]
  | some v =>
    by_cases hage : s.wln.gating.age ≤ s.prof.profile.hill.freshness <;> simp [owesStale, freshGating, hv, hage]

theorem cycleEndWork_record (s : State) (n : Nat) : attempt? (cycleEndWork s) n = attempt? (judged s) n := by
  rw [cycleEndWork_eq]
  split
  · rw [attempt?, windChange_cst]; rfl
  · rfl

theorem cycleEndWork_subjects (s : State) : (cycleEndWork s).brd.subjects = s.brd.subjects := by
  have hjudged : (judged s).brd.subjects = s.brd.subjects := by
    rw [judged, judgeClear_subjects, sampled]
    simp
  rw [cycleEndWork_eq]
  split
  · rw [windChange_subjects, hjudged]
  · exact hjudged

theorem cycleEndWork_stc (s : State) : (cycleEndWork s).stc = (judged s).stc ∧ (cycleEndWork s).gate = (judged s).gate := by
  rw [cycleEndWork_eq]
  split
  · exact ⟨windChange_stc _, windChange_gate _⟩
  · exact ⟨rfl, rfl⟩

/-- Of WLN a cycle end writes the means, the wind window and what is left of the board's hold. -/
theorem cycleEndWork_wln (s : State) : ∃ window hold deferred, (cycleEndWork s).wln =
    { (storeMeans s).wln with window := window, windHold := hold, windDeferred := deferred } := by
  obtain ⟨w, hw⟩ := sampled_wln s
  rw [cycleEndWork_eq]
  split
  · rw [windChange_wln, judged_wln, hw]
    split
    · exact ⟨w, some 1000, _, rfl⟩
    · exact ⟨w, _, true, rfl⟩
  · exact ⟨w, _, _, (judged_wln s).trans hw⟩

theorem cycleEndWork_only (s : State) : OnlyChanges [.brd, .link, .cst, .stc, .gate, .wln, .diag] s (cycleEndWork s) :=
  ⟨fun b hb => by cases b <;> simp [SameBlock] at hb ⊢, by simp, by simp⟩

end Sys2Proof

/-! PROOFS. What the statements say of a cycle end, and the cycle that ends at once because no slot is due (R48, R79 to R81, R96 to
R100). -/

namespace Sys2Proof

open Machine

variable {s u v : State} {a : Attempt} {n : Nat}

/-! ## The sample and the records -/

theorem sampled_of_window {m : Int} (hwindow : s.wln.window = some (n, true))
    (hmean : truncatedMean ((scoringReadings s).map Reading.t) = some m) (ha : attempt? s n = some a) :
    (a.samples.length < 64 → (sampled s).wln.window = s.wln.window ∧ attempt? (sampled s) n = some (addSample m a))
    ∧ (64 ≤ a.samples.length → (sampled s).wln.window = some (n, false)
        ∧ attempt? (sampled s) n = some (withFault .windOverflow a)) := by
  have hw : (storeMeans s).wln.window = some (n, true) := hwindow
  refine ⟨fun hroom => ?_, fun hfull => ?_⟩
  · have h : sampled s = setAttempt n (addSample m) (storeMeans s) := appendSample_adds hw hmean ha hroom
    rw [h]
    exact ⟨rfl, attempt_changed_same (s := s) (fun _ => rfl) rfl ha⟩
  · have h : sampled s = addFault n .windOverflow ((storeMeans s).onWln fun w => { w with window := some (n, false) }) :=
      appendSample_overflows hw hmean ha hfull
    rw [h]
    exact ⟨by simp, attempt_changed_same (s := s) (f := withFault .windOverflow) (fun _ => rfl) (by rw [addFault_cst]; rfl) ha⟩

theorem sampled_none (h : s.wln.window = some (n, false) ∨ truncatedMean ((scoringReadings s).map Reading.t) = none) :
    sampled s = storeMeans s := appendSample_none (s := storeMeans s) h

/-- The samples of a record at the end of the work are those of the sample's turn. -/
theorem samples_cycleEndWork (s : State) (n : Nat) : (attempt? (cycleEndWork s) n).map Attempt.samples =
    (attempt? (sampled s) n).map Attempt.samples := by
  have h := congrArg (Option.map Prod.fst) (judgeClear_record (sampled s) n)
  rw [cycleEndWork_record, judged]
  simpa [Option.map_map, Function.comp_def] using h

theorem faults_cycleEndWork (s : State) (n : Nat) : (attempt? (cycleEndWork s) n).map Attempt.faults =
    (attempt? (sampled s) n).map Attempt.faults := by
  have h := congrArg (Option.map Prod.snd) (judgeClear_record (sampled s) n)
  rw [cycleEndWork_record, judged]
  simpa [Option.map_map, Function.comp_def] using h

theorem window_cycleEndWork (s : State) : (cycleEndWork s).wln.window = (sampled s).wln.window := by
  rw [cycleEndWork_eq, ← judged_wln]
  split
  · rw [windChange_wln]
    split <;> rfl
  · rfl

/-! ## The board change -/

/-- The board changes at a cycle end (R98). -/
theorem cycleEndWork_changes (h : truncatedMean ((gatingReadings s).map Reading.t) ≠ none ∨ owesStale s = true) :
    cycleEndWork s = windChange (judged s) := by
  obtain ⟨w, hw⟩ := sampled_wln s
  have hvalue : (judged s).wln.gating.value = truncatedMean ((gatingReadings s).map Reading.t) := by
    rw [judged_wln, hw]
    rfl
  rw [cycleEndWork_eq]
  refine if_pos ?_
  rw [hvalue, Option.isSome_iff_ne_none]
  exact h

theorem cycleEndWork_still (hnone : truncatedMean ((gatingReadings s).map Reading.t) = none) (howed : owesStale s ≠ true) :
    cycleEndWork s = judged s := by
  obtain ⟨w, hw⟩ := sampled_wln s
  have hvalue : (judged s).wln.gating.value = truncatedMean ((gatingReadings s).map Reading.t) := by
    rw [judged_wln, hw]
    rfl
  rw [cycleEndWork_eq]
  refine if_neg ?_
  rw [hvalue, hnone]
  simpa using howed

theorem judged_hold (s : State) : (judged s).wln.windHold = s.wln.windHold ∧ (judged s).wln.windDeferred = s.wln.windDeferred := by
  obtain ⟨w, hw⟩ := sampled_wln s
  rw [judged_wln, hw]
  exact ⟨rfl, rfl⟩

theorem windChange_held (hhold : s.wln.windHold ≠ none) :
    (windChange s).wln.windHold = s.wln.windHold ∧ (windChange s).wln.windDeferred = true := by
  rw [windChange_wln, if_neg hhold]
  exact ⟨rfl, rfl⟩

theorem windChange_mem (hhold : s.wln.windHold = none) : (windChange s).wln.windHold = some 1000
    ∧ key .wind ∈ (windChange s).brd.queue.map BoardItem.key := by
  refine ⟨by rw [windChange_wln, if_pos hhold], ?_⟩
  rw [windChange_enqueues hhold, enqueue_brd]
  exact mem_enqueued _ _ _

/-! ## The judgement of a pending clear (R48) -/

section Judgement

variable (hpending : s.stc.clearPending = true) (hill : HillLaws s) (ha : onHill? s = some a)

include hill in
theorem hillOk_sampled : HillOk (sampled s) := by
  obtain ⟨n, f, w, hf, hcst, hw⟩ := appendSample_kept (storeMeans s)
  exact hill.1.of_keeps hf hcst (by simp [sampled])

include ha

/-- The attempt on the hill, as the sample leaves it. -/
theorem onHill_sampled : ∃ b, onHill? (sampled s) = some b ∧ b.number = a.number ∧ b.state = a.state := by
  obtain ⟨n, f, w, hf, hcst, hw⟩ := appendSample_kept (storeMeans s)
  have hon := onHill_of_keeps (u := sampled s) (s := s) hf (by rw [show (sampled s).cst = _ from hcst]; rfl)
  rw [ha, Option.map_some] at hon
  refine ⟨_, hon, ?_, hf.onHill n a⟩
  split
  · exact hf.number a
  · rfl

include hpending

include hill in
/-- Green is given at a cycle end. -/
theorem judged_greens (hamber : s.stc.light = .amber) (hallows : windAllows (sampled s) = true) :
    (attempt? (judged s) a.number).map Attempt.state = some .cleared ∧ (judged s).stc.clearPending = false
      ∧ ((judged s).stc.light = .green ∨ (judged s).stc.light = .greenWarn)
      ∧ (judged s).stc.window = some s.prof.profile.hill.startWindow ∧ (judged s).gate = gatesTaken s.gate := by
  obtain ⟨b, hb, hnumber, -⟩ := onHill_sampled ha
  have hstc : (sampled s).stc = s.stc := by simp [sampled]
  have hgate : (sampled s).gate = s.gate := by simp [sampled]
  have hprof : (sampled s).prof = s.prof := by simp [sampled]
  have hjudged : judged s = giveGreen b (sampled s) :=
    (judgeClear_of_onHill (by rw [hstc]; exact hpending) hb).trans (if_pos hallows)
  have hok := hillOk_sampled hill
  have hgives := giveGreen_gives hok hb (by rw [hstc]; exact hamber)
  have hrecord : attempt? (judged s) b.number = some (greened (sampled s).link.clock (sampled s).gate b) := by
    rw [hjudged]
    exact attempt_changed_same (fun _ => rfl) (by rw [hgives.cst]) (hok.attempt (onHill_mem hb).1)
  rw [← hnumber, hrecord, hjudged, hgives.stc, hgives.gate, hprof, hgate]
  refine ⟨rfl, rfl, ?_, rfl, rfl⟩
  change greenLight s.prof.profile.hill = .green ∨ greenLight s.prof.profile.hill = .greenWarn
  unfold greenLight
  split
  · exact .inr rfl
  · exact .inl rfl

include hill in
/-- Green is withheld at a cycle end. -/
theorem judged_withholds (hdenies : windAllows (sampled s) = false) :
    (attempt? (judged s) a.number).map Attempt.state = some a.state ∧ (judged s).stc = { s.stc with windWaitSent := true }
      ∧ (judged s).gate = s.gate
      ∧ Tells s [] (overflows .windDelay s ++ if s.stc.windWaitSent then [] else
          [.windWait a.number (truncatedMean ((gatingReadings s).map Reading.t))]) (counted .windDelay s) s.brd.subjects (judged s) := by
  obtain ⟨b, hb, hnumber, hstate⟩ := onHill_sampled ha
  have hstc : (sampled s).stc = s.stc := by simp [sampled]
  have hdiag : (sampled s).diag = s.diag := by simp [sampled]
  have hjudged : judged s = withholdGreen b (sampled s) :=
    (judgeClear_of_onHill (by rw [hstc]; exact hpending) hb).trans (if_neg (by simp [hdenies]))
  have hok := hillOk_sampled hill
  obtain ⟨n, f, w, hf, hcst, hw⟩ := appendSample_kept (storeMeans s)
  have hrstate : (sampled s).cst.rstate = s.cst.rstate := by rw [show (sampled s).cst = _ from hcst]; rfl
  have hrecord : attempt? (judged s) b.number = some b := by
    rw [hjudged, attempt?, withholdGreen_cst]
    exact hok.attempt (onHill_mem hb).1
  refine ⟨?_, ?_, ?_, ?_⟩
  · rw [← hnumber, hrecord, Option.map_some, hstate]
  · rw [hjudged, withholdGreen_stc, hstc]
  · rw [hjudged]
    simp [sampled]
  · rw [hjudged]
    have hbefore : Tells s [] [] s.diag s.brd.subjects (sampled s) :=
      (Tells.refl s).frame (by simp [sampled]) (by simp [sampled]) hdiag
    have htells := hbefore.withholdGreen hrstate b
    rw [freshGating_sampled, hstc, hnumber] at htells
    exact htells

end Judgement

/-- What the statements say of a cycle end's work. -/
theorem cycleEndWork_does (s : State) : CycleEndDoes s (cycleEndWork s) := by
  obtain ⟨w, hold, deferred, hwln⟩ := cycleEndWork_wln s
  obtain ⟨hstc, hgate⟩ := cycleEndWork_stc s
  refine ⟨by rw [hwln]; rfl, by rw [hwln]; rfl, by rw [hwln]; rfl, by rw [hwln]; rfl, by rw [hwln]; rfl,
    fun n m a hwindow hmean ha => ?_, fun n hnone => ?_, fun hchange => ?_, fun hnone hknown => ?_, fun hclear => ?_,
    fun a hpending hill ha hwaiting hamber => ⟨fun v hv hlo hhi => ?_, fun hout => ?_⟩⟩
  · obtain ⟨hadds, hover⟩ := sampled_of_window hwindow hmean ha
    have hsamples := samples_cycleEndWork s n
    have hfaults := faults_cycleEndWork s n
    rw [window_cycleEndWork]
    refine ⟨fun hroom => ?_, fun hfull => ?_⟩
    · obtain ⟨hkept, hrecord⟩ := hadds hroom
      rw [hrecord] at hsamples
      exact ⟨hkept, hsamples⟩
    · obtain ⟨hclosed, hrecord⟩ := hover hfull
      rw [hrecord] at hsamples hfaults
      obtain ⟨r, hr, hrfaults⟩ := Option.map_eq_some_iff.mp hfaults
      exact ⟨hclosed, hsamples, r, hr, by rw [hrfaults]; exact mem_joined _ _⟩
  · rw [window_cycleEndWork, samples_cycleEndWork, sampled_none hnone]
    exact ⟨rfl, rfl⟩
  · obtain ⟨hhold, -⟩ := judged_hold s
    rw [cycleEndWork_changes (hchange.imp id (owesStale_iff s).mpr), ← hhold]
    exact ⟨windChange_mem, windChange_held⟩
  · rw [cycleEndWork_still hnone]
    · exact judged_hold s
    · intro howed
      obtain ⟨hsome, hage⟩ := (owesStale_iff s).mp howed
      rcases hknown with h | ⟨hlt, htaken⟩
      · exact hsome h
      · rcases hage with hle | hfalse
        · omega
        · rw [htaken] at hfalse
          cases hfalse
  · have hidle : judged s = sampled s := judgeClear_of_idle (by simpa [sampled] using hclear)
    rw [hstc, hgate, hidle]
    exact ⟨by simp [sampled], by simp [sampled]⟩
  · have hprof : (sampled s).prof = s.prof := by simp [sampled]
    have hallows : windAllows (sampled s) = true :=
      windAllows_of_inside ((freshGating_sampled s).trans hv) (by rw [hprof]; exact hlo) (by rw [hprof]; exact hhi)
    rw [cycleEndWork_record, hstc, hgate]
    exact judged_greens hpending hill ha hamber hallows
  · have hprof : (sampled s).prof = s.prof := by simp [sampled]
    have hdenies : windAllows (sampled s) = false := windAllows_of_outside fun v hv => by
      rw [hprof]
      exact hout v ((freshGating_sampled s).symm.trans hv)
    obtain ⟨hstate, hjudged, hjgate, htells⟩ := judged_withholds hpending hill ha hdenies
    rw [cycleEndWork_record, hstc, hgate]
    refine ⟨by rw [hstate, hwaiting], hjudged, hjgate, fun hroom => ?_⟩
    obtain ⟨hlink, hdiag⟩ := htells.said (.inl rfl)
    have hqueue : (judged s).brd.queue = s.brd.queue := htells.queue
    have hlen : (judged s).brd.queue.length < 32 := by unfold Room at hroom; rw [hqueue]; omega
    have hwork : (cycleEndWork s).link = (judged s).link ∧ (cycleEndWork s).diag = (judged s).diag := by
      rw [cycleEndWork_eq]
      split
      · exact windChange_of_room hlen
      · exact ⟨rfl, rfl⟩
    exact ⟨hwork.2.trans hdiag, hwork.1.trans hlink⟩

/-! ## The cycle without a due slot (R79, R80) -/

theorem endCycle_of_pollable (h : anyPollable (cycleEndWork s) = true) :
    endCycle s = (cycleEndWork s).onWln fun w => { w with poll := .between } := if_pos h

theorem endCycle_of_none (h : ¬anyPollable (cycleEndWork s) = true) :
    endCycle s = (cycleEndWork s).onWln fun w => { w with poll := .stopped, cycleTimer := none } := if_neg h

theorem anyPollable_congr (hprof : u.prof = s.prof) (hstate : ∀ k, (station u k).state = (station s k).state) :
    anyPollable u = anyPollable s := by
  have hcan : canBePolled u = canBePolled s := funext fun k => canBePolled_congr hprof (hstate k)
  rw [anyPollable, anyPollable, hcan]

theorem anyPollable_cycleEndWork (s : State) : anyPollable (cycleEndWork s) = anyPollable s := by
  obtain ⟨-, -, -, -, hstations, -⟩ := cycleEndWork_does s
  exact anyPollable_congr (by simp) fun k => by rw [station_congr hstations]

theorem runSlots_of_none (h : nextDue s = none) : runSlots s = endCycle (s.onWln fun w => { w with nextSlot := 8 }) := by
  unfold runSlots
  rw [h]

/-- Without a good reply in the cycle nothing contributes (R81). -/
theorem contributors_of_bad (h : ∀ k, (station s k).good = false) : contributors s = [] := by
  refine List.filterMap_eq_nil_iff.mpr fun k _ => ?_
  unfold contributing
  cases slot? s k with
  | none => rfl
  | some x => cases hr : (station s k).reading <;> simp [hr, h k]

theorem contributors_congr (hprof : u.prof = s.prof) (hstations : u.wln.stations = s.wln.stations) :
    contributors u = contributors s := by
  have hone : contributing u = contributing s := by
    funext k
    have hfresh : readingFresh u = readingFresh s := by
      funext r
      unfold readingFresh
      rw [hprof]
    unfold contributing
    rw [slot_congr hprof, station_congr hstations, hfresh]
  unfold contributors
  rw [hone]

theorem readings_congr (h : contributors u = contributors s) :
    gatingReadings u = gatingReadings s ∧ scoringReadings u = scoringReadings s := by
  rw [gatingReadings, gatingReadings, scoringReadings, scoringReadings, h]
  exact ⟨rfl, rfl⟩

theorem readings_of_bad (h : ∀ k, (station s k).good = false) : gatingReadings s = [] ∧ scoringReadings s = [] := by
  rw [gatingReadings, scoringReadings, contributors_of_bad h]
  exact ⟨rfl, rfl⟩

/-- Where no means are formed, STC may withhold green and the board may change; nothing else comes of a cycle end. -/
theorem cycleEndWork_of_bad (h : ∀ k, (station s k).good = false) :
    OnlyChanges [.brd, .link, .stc, .wln, .diag] s (cycleEndWork s) := by
  obtain ⟨hgating, hscoring⟩ := readings_of_bad h
  have hsampled : sampled s = storeMeans s := sampled_none (n := 0) (.inr (by rw [hscoring]; rfl))
  have hjudged : OnlyChanges [.brd, .link, .stc, .wln, .diag] s (judged s) := by
    have hdenies : windAllows (sampled s) = false := windAllows_of_outside fun v hv => by
      rw [freshGating_sampled, hgating] at hv
      cases hv
    rw [judged, judgeClear]
    split
    · split
      · rw [hdenies, hsampled]
        exact ⟨fun b hb => by cases b <;> simp [SameBlock] at hb ⊢, by simp, by simp⟩
      · rw [hsampled]
        exact ⟨fun b hb => by cases b <;> simp [SameBlock] at hb ⊢, by simp, by simp⟩
    · rw [hsampled]
      exact ⟨fun b hb => by cases b <;> simp [SameBlock] at hb ⊢, by simp, by simp⟩
  rw [cycleEndWork_eq]
  split
  · exact hjudged.trans ⟨fun b hb => by cases b <;> simp [SameBlock] at hb ⊢, by simp, by simp⟩
  · exact hjudged

/-- The cycle ends where no slot is due any more (R79). -/
theorem runSlots_ends (h : nextDue s = none) (hany : anyPollable s = true) : ∃ window hold deferred,
    runSlots s = (cycleEndWork (s.onWln fun w => { w with nextSlot := 8 })).onWln (fun w => { w with poll := .between })
      ∧ (runSlots s).wln = { (storeMeans s).wln with nextSlot := 8, poll := .between, window := window, windHold := hold,
                                                     windDeferred := deferred } := by
  obtain ⟨window, hold, deferred, hwln⟩ := cycleEndWork_wln (s.onWln fun w => { w with nextSlot := 8 })
  have hends : runSlots s = (cycleEndWork (s.onWln fun w => { w with nextSlot := 8 })).onWln (fun w => { w with poll := .between }) :=
    (runSlots_of_none h).trans (endCycle_of_pollable (by rw [anyPollable_cycleEndWork]; exact hany))
  refine ⟨window, hold, deferred, hends, ?_⟩
  rw [hends, State.onWln_wln, hwln]
  rfl

/-- Nothing of WLN's line test comes of a cycle. -/
theorem nextCycle_of_onlyOffline (h : OnlyOffline s) : EmptyCycle s (nextCycle s) ∧ KeepsTest s.wln (nextCycle s)
    ∧ OnlyChanges [.brd, .link, .stc, .wln, .diag] s (nextCycle s) ∧ (nextCycle s).brd.subjects = s.brd.subjects := by
  obtain ⟨hany, hoff, hnumber⟩ := h
  generalize hu : (s.onWln fun _ => cycleStart ((s.wln.cycle + 1) % 65536) s) = u
  have hnone : nextDue u = none := nextDue_eq_none fun k _ => Bool.eq_false_iff.mpr fun hdue => by
    rw [← hu] at hdue
    obtain ⟨hcan, hmod⟩ := (due_cycleStart _ s k).mp hdue
    exact hnumber (hmod (hoff k hcan))
  have hstation : ∀ k, station u k = freshened (station s k) := fun k => by rw [← hu]; exact station_cycleStart _ s k
  have hanyu : anyPollable u = true :=
    (anyPollable_congr (by rw [← hu]; rfl) fun k => by rw [hstation]; rfl).trans hany
  have hbad : ∀ k, (station u k).good = false := fun k => by rw [hstation]; rfl
  obtain ⟨hgating, hscoring⟩ := readings_of_bad hbad
  obtain ⟨window, hold, deferred, hends, hwln⟩ := runSlots_ends hnone hanyu
  have hcycle : nextCycle s = runSlots u := by rw [← hu]; rfl
  have hmeans : (storeMeans u).wln = { u.wln with
      gating := newGating s.link.clock s.wln.gating.staleQueued [], scoringMean := none, nGating := 0, nScoring := 0 } := by
    unfold storeMeans
    rw [hgating, hscoring, ← hu]
    rfl
  rw [hmeans] at hwln
  rw [hcycle]
  refine ⟨?_, ?_, ?_, ?_⟩
  · unfold EmptyCycle
    rw [hwln, ← hu]
    exact ⟨rfl, rfl, rfl, rfl, rfl, rfl, rfl, rfl, rfl⟩
  · unfold KeepsTest
    rw [hwln, ← hu]
    exact ⟨rfl, rfl, rfl, rfl⟩
  · have hwork := cycleEndWork_of_bad (s := u.onWln fun w => { w with nextSlot := 8 }) hbad
    have hbefore : OnlyChanges [.brd, .link, .stc, .wln, .diag] s (u.onWln fun w => { w with nextSlot := 8 }) := by
      rw [← hu]
      exact ⟨fun b hb => by cases b <;> simp [SameBlock] at hb ⊢, rfl, rfl⟩
    rw [hends]
    exact (hbefore.trans hwork).trans ⟨fun b hb => by cases b <;> simp [SameBlock] at hb ⊢, rfl, rfl⟩
  · rw [hends, State.onWln_brd, cycleEndWork_subjects, ← hu]
    rfl

end Sys2Proof

/-! PROOFS. A station's state moves (R84, R86); DISABLE STATION and ENABLE STATION (R88). -/

namespace Sys2Proof

open Machine

variable {s v u w : State} {k n : Nat} {new : StationState} {x : StationSlot}

/-! ## STATION_LOST (R86) -/

theorem stationLost_of_scoring {c : Bool} (hslot : slot? s k = some x) (hscoring : x.scoring = true) (hwindow : s.wln.window = some (n, c)) :
    stationLost k s = addFault n .stationLost s := by
  simp only [stationLost, hslot, hwindow, if_pos hscoring]

theorem stationLost_of_other (h : s.wln.window = none ∨ (slot? s k).map StationSlot.scoring ≠ some true) : stationLost k s = s := by
  unfold stationLost
  split
  next x n c hslot hwindow =>
    rcases h with h | h
    · exact nomatch hwindow.symm.trans h
    · exact if_neg fun hscoring => h (by rw [hslot, Option.map_some, hscoring])
  next => rfl

/-! ## The move (R84) -/

theorem moveStation_same (h : (station s k).state = new) : moveStation k new s = s := if_pos h

/-- The state once a station's state has changed and the notice is sent. -/
def stationMoved (k : Nat) (new : StationState) (s : State) : State :=
  notify (.station k (((slot? s k).map StationSlot.address).getD 0) (station s k).state new (station s k).misses)
    (setStation k (fun x => { x with state := new }) s)

theorem moveStation_of_ne (h : (station s k).state ≠ new) : moveStation k new s =
    if new = .offline ∨ new = .disabled then stationLost k (stationMoved k new s) else stationMoved k new s := by
  simp only [moveStation, if_neg h]
  rfl

theorem moveStation_wln (h : (station s k).state ≠ new) :
    (moveStation k new s).wln = (setStation k (fun x => { x with state := new }) s).wln := by
  rw [moveStation_of_ne h]
  split
  · rw [stationLost_wln]
    rfl
  · rfl

theorem moveStation_stations (k : Nat) (new : StationState) (s : State) :
    ∃ l, (moveStation k new s).wln = { s.wln with stations := l } := by
  by_cases h : (station s k).state = new
  · rw [moveStation_same h]
    exact ⟨_, rfl⟩
  · rw [moveStation_wln h]
    exact ⟨_, rfl⟩

theorem station_moveStation_same (hk : k < s.wln.stations.length) (new : StationState) :
    station (moveStation k new s) k = { station s k with state := new } := by
  by_cases h : (station s k).state = new
  · rw [moveStation_same h, ← h]
  · rw [station_congr (congrArg Wln.stations (moveStation_wln h)), station_setStation_same hk]

theorem station_moveStation_other (hn : n ≠ k) (new : StationState) (s : State) :
    station (moveStation k new s) n = station s n := by
  by_cases h : (station s k).state = new
  · rw [moveStation_same h]
  · rw [station_congr (congrArg Wln.stations (moveStation_wln h)), station_setStation_other hn]

/-- The notice of a move. -/
def movedNotices (k address : Nat) (x : Station) (new : StationState) : List NoticeBody :=
  if x.state = new then [] else [.station k address x.state new x.misses]

theorem Machine.Tells.moveStation {ks : List Key} {ns : List NoticeBody} {d : Diag} {sub : Subjects} (h : Tells v ks ns d sub w)
    (hslot : slot? w k = some x) (new : StationState) :
    Tells v ks (ns ++ movedNotices k x.address (station w k) new) d sub (Machine.moveStation k new w) := by
  unfold movedNotices
  by_cases hsame : (station w k).state = new
  · rw [if_pos hsame, moveStation_same hsame, List.append_nil]
    exact h
  · have hmoved := (h.onWln fun y => { y with stations := y.stations.modify k fun z => { z with state := new } }).notify
      (.station k x.address (station w k).state new (station w k).misses)
    have heq : stationMoved k new w = Machine.notify (.station k x.address (station w k).state new (station w k).misses)
        (setStation k (fun z => { z with state := new }) w) := by
      rw [stationMoved, hslot]
      rfl
    rw [if_neg hsame, moveStation_of_ne hsame, heq]
    split
    · exact hmoved.frame (by simp) (by rw [stationLost_link]; rfl) (by simp)
    · exact hmoved

theorem moveStation_cst_kept (h : new ≠ .offline ∧ new ≠ .disabled ∨ s.wln.window = none ∨
    (slot? s k).map StationSlot.scoring ≠ some true) : (moveStation k new s).cst = s.cst := by
  by_cases hsame : (station s k).state = new
  · rw [moveStation_same hsame]
  · rw [moveStation_of_ne hsame]
    split
    next hgone =>
      rcases h with ⟨hoff, hdis⟩ | h
      · exact absurd hgone (not_or.mpr ⟨hoff, hdis⟩)
      · rw [stationLost_of_other (s := stationMoved k new s) h]
        rfl
    next => rfl

theorem moveStation_cst_lost {c : Bool} (hsame : (station s k).state ≠ new) (hgone : new = .offline ∨ new = .disabled)
    (hslot : slot? s k = some x) (hscoring : x.scoring = true) (hwindow : s.wln.window = some (n, c)) :
    (moveStation k new s).cst = faulted n .stationLost s.cst := by
  rw [moveStation_of_ne hsame, if_pos hgone, stationLost_of_scoring (s := stationMoved k new s) hslot hscoring hwindow,
    addFault_cst]
  rfl

theorem moveStation_only (k : Nat) (new : StationState) (s : State) :
    OnlyChanges [.link, .cst, .wln] s (moveStation k new s) :=
  ⟨fun b hb => by cases b <;> simp [SameBlock] at hb ⊢, by simp, by simp⟩

/-! ## DISABLE STATION and ENABLE STATION -/

/-- A disabled station's record, and what the statements say besides CST. -/
structure Disabled (k : Nat) (x : StationSlot) (s t : State) : Prop where
  state : (station t k).state = .disabled
  other : ∀ n, n ≠ k → station t n = station s n
  discard : s.wln.phase ≠ .none → s.wln.polled = k → t.wln.discard = true
  kept : LinkKept s t
  boards : Boards [] s t
  sends : Sends [.station k x.address (station s k).state .disabled (station s k).misses] s t

section Requests

variable (hF : Free s) (tag : Byte) (hk : k ≤ 7) (hslot : slot? s k = some x) (hlen : s.wln.stations.length = 8)

include hF hk hslot

theorem disable_again (hstate : (station s k).state = .disabled) : Completes (.disableStation tag k) .done .none [] s (Quiet s) := by
  refine Completes.quiet hF rfl rfl ?_
  simp only [serveDisableStation, taken_slot, taken_station, hslot, if_neg (Nat.not_lt.mpr hk), if_pos hstate]
  rfl

theorem enable_again (hstate : (station s k).state ≠ .disabled) : Completes (.enableStation tag k) .done .none [] s (Quiet s) := by
  refine Completes.quiet hF rfl rfl ?_
  simp only [serveEnableStation, taken_slot, taken_station, hslot, if_neg (Nat.not_lt.mpr hk), if_neg hstate]
  rfl

include hlen

/-- DISABLE STATION of a station that is not: the record, the exchange in progress and the notice, and CST as the move leaves it. -/
theorem disable_completes {bs : List Block} (hstate : (station s k).state ≠ .disabled)
    (ho : OnlyChanges (.brd :: .link :: .wln :: bs) (taken 0x51 tag s) (moveStation k .disabled (taken 0x51 tag s))) :
    Completes (.disableStation tag k) .done .none (.wln :: bs) s fun t =>
      t.cst = (moveStation k .disabled (taken 0x51 tag s)).cst ∧ Disabled k x s t := by
  have hserve : serveDisableStation k (taken 0x51 tag s) =
      done (discardExchange k (moveStation k .disabled (taken 0x51 tag s))) := by
    simp only [serveDisableStation, taken_slot, taken_station, hslot, if_neg (Nat.not_lt.mpr hk), if_neg hstate]
  rw [discardExchange_eq] at hserve
  have htells := ((Tells.refl (taken 0x51 tag s)).moveStation ((taken_slot s _ _ k).trans hslot) .disabled).onWln fun w =>
    { w with discard := if w.phase ≠ .none ∧ w.polled = k then true else w.discard }
  refine Completes.of_block hF rfl rfl hserve htells.core (ho.trans ⟨fun b hb => ?_, rfl, rfl⟩) fun t ht => ⟨ht.cst, ?_⟩
  · cases b <;> simp [SameBlock] at hb ⊢
  · obtain ⟨hkept, -, hboards, hsaid⟩ := told ht htells (by simp)
    obtain ⟨l, hl⟩ := moveStation_stations k .disabled (taken 0x51 tag s)
    rw [taken_station, movedNotices, if_neg hstate] at hsaid
    refine ⟨?_, fun n hn => ?_, fun hphase hpolled => ?_, hkept, hboards, (hsaid (.inl rfl)).2⟩
    · rw [station_congr (s := moveStation k .disabled (taken 0x51 tag s)) (by rw [ht.wln]; rfl),
        station_moveStation_same (by rw [taken_wln, hlen]; omega)]
    · rw [station_congr (s := moveStation k .disabled (taken 0x51 tag s)) (by rw [ht.wln]; rfl), station_moveStation_other hn,
        taken_station]
    · rw [ht.wln, State.onWln_wln, hl]
      exact if_pos ⟨by simpa using hphase, by simpa using hpolled⟩

theorem disable_kept (hstate : (station s k).state ≠ .disabled) (h : s.wln.window = none ∨ x.scoring = false) :
    Completes (.disableStation tag k) .done .none [.wln] s fun t => Disabled k x s t := by
  have hcst : (moveStation k .disabled (taken 0x51 tag s)).cst = (taken 0x51 tag s).cst := by
    refine moveStation_cst_kept (.inr ?_)
    rw [taken_slot, hslot, taken_wln]
    exact h.imp_right fun hoff => by simp [hoff]
  have hmoved : OnlyChanges [.brd, .link, .wln] (taken 0x51 tag s) (moveStation k .disabled (taken 0x51 tag s)) := by
    refine ⟨fun b hb => ?_, by simp, by simp⟩
    cases b
    case cst => exact hcst
    all_goals simp [SameBlock] at hb ⊢
  obtain ⟨t, hanswers, honly, -, hdisabled⟩ := disable_completes (bs := []) hF tag hk hslot hlen hstate hmoved
  exact ⟨t, hanswers, honly, hdisabled⟩

theorem disable_lost {c : Bool} (hwindow : s.wln.window = some (n, c)) (hstate : (station s k).state ≠ .disabled)
    (hscoring : x.scoring = true) : Completes (.disableStation tag k) .done .none [.cst, .wln] s fun t =>
      t.cst = faulted n .stationLost s.cst ∧ Disabled k x s t := by
  have hcst := moveStation_cst_lost (s := taken 0x51 tag s) (by rw [taken_station]; exact hstate) (.inr rfl)
    ((taken_slot s _ _ k).trans hslot) hscoring (by rw [taken_wln]; exact hwindow)
  obtain ⟨t, hanswers, honly, htcst, hdisabled⟩ := disable_completes (bs := [.cst]) hF tag hk hslot hlen hstate
    ((moveStation_only k .disabled _).mono (by simp))
  exact ⟨t, hanswers, honly.mono (by simp), by rw [htcst, hcst, taken_cst], hdisabled⟩

end Requests

/-! ### ENABLE STATION -/

/-- The state once a station is enabled, before it may begin polling. -/
def enabled (k : Nat) (s : State) : State := moveStation k .unknown (setStation k (fun x => { x with misses := 0 }) s)

section Enable

variable (hk : k < s.wln.stations.length)

include hk

theorem station_enabled_same : station (enabled k s) k = { station s k with state := .unknown, misses := 0 } := by
  rw [enabled, station_moveStation_same (by simpa [setStation] using hk), station_setStation_same hk]

omit hk in
theorem station_enabled_other (hn : n ≠ k) (s : State) : station (enabled k s) n = station s n := by
  rw [enabled, station_moveStation_other hn, station_setStation_other hn]

omit hk in
theorem enabled_stations (k : Nat) (s : State) : ∃ l, (enabled k s).wln = { s.wln with stations := l } := by
  obtain ⟨l, hl⟩ := moveStation_stations k .unknown (setStation k (fun x => { x with misses := 0 }) s)
  exact ⟨l, hl⟩

theorem enabled_tells (hslot : slot? s k = some x) (hstate : (station s k).state = .disabled) :
    Tells s [] [.station k x.address .disabled .unknown 0] s.diag s.brd.subjects (enabled k s) := by
  have h := ((Tells.refl s).onWln fun w => { w with stations := w.stations.modify k fun x => { x with misses := 0 } }).moveStation
    (x := x) (k := k) hslot .unknown
  have hzero : station (setStation k (fun x => { x with misses := 0 }) s) k = { station s k with misses := 0 } :=
    station_setStation_same hk _
  rw [show station (s.onWln fun w => { w with stations := w.stations.modify k fun x => { x with misses := 0 } }) k = _ from hzero,
    movedNotices, hstate] at h
  exact h

omit hk in
theorem enabled_only (k : Nat) (s : State) : OnlyChanges [.brd, .link, .wln] s (enabled k s) := by
  have hcst : (moveStation k .unknown (setStation k (fun x => { x with misses := 0 }) s)).cst = s.cst :=
    moveStation_cst_kept (.inl ⟨by decide, by decide⟩)
  exact ⟨fun b hb => by cases b <;> simp [SameBlock, enabled, hcst] at hb ⊢, by simp [enabled], by simp [enabled]⟩

end Enable

section Requests

variable (hF : Free s) (tag : Byte) (hk : k ≤ 7) (hslot : slot? s k = some x) (hlen : s.wln.stations.length = 8)
  (hstate : (station s k).state = .disabled)

include hF hk hslot hlen hstate

theorem enable_completes {P : State → Prop} (hu : pollable (enabled k (taken 0x51 tag s)) = u)
    (ho : OnlyChanges [.brd, .link, .wln] (enabled k (taken 0x51 tag s)) u) (hbrd : u.brd = (enabled k (taken 0x51 tag s)).brd)
    (hlink : u.link = (enabled k (taken 0x51 tag s)).link)
    (hP : ∀ t, After s (taken 0x51 tag s) u t → LinkKept s t → Boards [] s t →
      Sends [.station k x.address .disabled .unknown 0] s t → P t) :
    Completes (.enableStation tag k) .done .none [.wln] s P := by
  have hserve : serveEnableStation k (taken 0x51 tag s) = done u := by
    simp only [serveEnableStation, taken_slot, taken_station, hslot, if_neg (Nat.not_lt.mpr hk), if_pos hstate]
    exact congrArg done hu
  have htells := (enabled_tells (s := taken 0x51 tag s) (by rw [taken_wln, hlen]; omega) ((taken_slot s _ _ k).trans hslot)
    (by rw [taken_station]; exact hstate)).frame hbrd hlink (ho.1 .diag (by simp))
  refine Completes.of_block hF rfl rfl hserve htells.core ((enabled_only k _).trans ho) fun t ht => ?_
  obtain ⟨hkept, -, hboards, hsaid⟩ := told ht htells (by simp)
  exact hP t ht hkept hboards (hsaid (.inl rfl)).2

theorem enable_waits (hbusy : s.wln.poll ≠ .stopped ∨ s.wln.test ≠ .idle) :
    Completes (.enableStation tag k) .done .none [.wln] s fun t =>
      (station t k).state = .unknown ∧ (station t k).misses = 0 ∧ (∀ n, n ≠ k → station t n = station s n)
        ∧ t.wln.poll = s.wln.poll ∧ t.wln.cycle = s.wln.cycle
        ∧ LinkKept s t ∧ Boards [] s t ∧ Sends [.station k x.address .disabled .unknown 0] s t := by
  obtain ⟨l, hl⟩ := enabled_stations k (taken 0x51 tag s)
  have hwaits : pollable (enabled k (taken 0x51 tag s)) = enabled k (taken 0x51 tag s) := by
    rcases hbusy with hpoll | htest
    · exact pollable_of_polling (by rw [hl, taken_wln]; exact hpoll)
    · exact pollable_of_testing (by rw [hl, taken_wln]; exact htest)
  refine enable_completes hF tag hk hslot hlen hstate hwaits (.refl _ _) rfl rfl fun t ht hkept hboards hsends => ?_
  have hstation : station t = station (enabled k (taken 0x51 tag s)) := funext (station_congr (by rw [ht.wln]))
  rw [hstation, station_enabled_same (by rw [taken_wln, hlen]; omega), ht.wln, hl, taken_wln]
  exact ⟨rfl, rfl, fun n hn => by rw [station_enabled_other hn, taken_station], rfl, rfl, hkept, hboards, hsends⟩

theorem enable_begins (hpoll : s.wln.poll = .stopped) (htest : s.wln.test = .idle) :
    Completes (.enableStation tag k) .done .none [.wln] s fun t =>
      station t k = { station s k with state := .unknown, misses := 0, good := false, newcomer := false }
        ∧ (∀ n, n ≠ k → station t n = { station s n with good := false, newcomer := false })
        ∧ t.wln.poll = .inCycle ∧ t.wln.cycle = (s.wln.cycle + 1) % 65536
        ∧ t.wln.cycleTimer = some s.prof.profile.hill.cycleMin
        ∧ t.wln.polled ≤ k ∧ (t.wln.phase = .carrierWait ∨ t.wln.phase = .turnaround)
        ∧ LinkKept s t ∧ Boards [] s t ∧ Sends [.station k x.address .disabled .unknown 0] s t := by
  obtain ⟨l, hl⟩ := enabled_stations k (taken 0x51 tag s)
  have hprof : (enabled k (taken 0x51 tag s)).prof = s.prof := by simp [enabled]
  have hsame : station (enabled k (taken 0x51 tag s)) k = { station s k with state := .unknown, misses := 0 } := by
    rw [station_enabled_same (by rw [taken_wln, hlen]; omega), taken_station]
  have hdue : ∀ number, DueIn number k (enabled k (taken 0x51 tag s)) := fun number => by
    refine ⟨by omega, (canBePolled_iff _ k).mpr ⟨by rw [slot_congr hprof, hslot]; rfl, ?_⟩, fun h => ?_⟩
    · rw [hsame]
      exact fun h => nomatch h
    · rw [hsame] at h
      exact nomatch h
  obtain ⟨w, hw, ⟨hin, hcycle, htimer, hphase, -, hleast, hstation⟩, -⟩ := nextCycle_of_due (hdue _)
  have hbegins := (pollable_of_stopped (s := enabled k (taken 0x51 tag s)) (by rw [hl, taken_wln]; exact hpoll)
    (by rw [hl, taken_wln]; exact htest) ((anyPollable_iff _).mpr ⟨k, by omega, (hdue 0).2.1⟩)).trans hw
  refine enable_completes hF tag hk hslot hlen hstate hbegins ⟨fun b hb => ?_, rfl, rfl⟩ rfl rfl fun t ht hkept hboards hsends => ?_
  · cases b <;> simp [SameBlock] at hb ⊢
  · have htstation : ∀ n, station t n = { station (enabled k (taken 0x51 tag s)) n with good := false, newcomer := false } :=
      fun n => (station_congr (by rw [ht.wln]) n).trans (hstation n)
    rw [ht.wln]
    refine ⟨?_, fun n hn => ?_, hin, ?_, ?_, hleast k (hdue _), hphase, hkept, hboards, hsends⟩
    · rw [htstation, hsame]
    · rw [htstation, station_enabled_other hn, taken_station]
    · refine hcycle.trans ?_
      rw [hl, taken_wln]
    · refine htimer.trans ?_
      rw [hprof]

end Requests

/-- Settles O54: the two requests with the station in every state, and their refusals. -/
theorem stationsAreDisabledAndEnabled : Obligations.StationsAreDisabledAndEnabled := by
  refine ⟨fun s tag k x hF hk hslot hlen => ⟨disable_again hF tag hk hslot, fun hstate hkept => ?_,
    fun n c hwindow hstate hscoring => ?_, enable_again hF tag hk hslot, fun hstate => enable_waits hF tag hk hslot hlen hstate,
    fun hstate => enable_begins hF tag hk hslot hlen hstate⟩, fun s tag k hF => ⟨fun hout => ⟨?_, ?_⟩, fun hk hnone => ⟨?_, ?_⟩⟩⟩
  · obtain ⟨t, hanswers, honly, hstate, hother, hdiscard, hlink, hboards, hsends⟩ := disable_kept hF tag hk hslot hlen hstate hkept
    exact ⟨t, hanswers, honly, hstate, hother, hdiscard, hlink, hboards, hsends⟩
  · obtain ⟨t, hanswers, honly, hcst, hstate, hother, hdiscard, hlink, hboards, hsends⟩ :=
      disable_lost hF tag hk hslot hlen hwindow hstate hscoring
    exact ⟨t, hanswers, honly, hcst, hstate, hother, hdiscard, hlink, hboards, hsends⟩
  · exact refuses_of_block hF rfl rfl (if_pos hout)
  · exact refuses_of_block hF rfl rfl (if_pos hout)
  · refine refuses_of_block hF rfl rfl ?_
    simp only [serveDisableStation, taken_slot, hnone, if_neg (Nat.not_lt.mpr hk)]
  · refine refuses_of_block hF rfl rfl ?_
    simp only [serveEnableStation, taken_slot, hnone, if_neg (Nat.not_lt.mpr hk)]

end Sys2Proof

/-! PROOFS. The tests of a closed reply (R77). -/

namespace Sys2Proof

open Machine

variable {address speed direction : Nat} {r : List RxChar} {lead a code check : Byte} {status : StationStatus}

theorem judgeReply_of_length (h : r.length ≠ 8) : judgeReply address r = .bad ((r.head?.map RxChar.framing).getD false) := by
  unfold judgeReply
  simp only
  split
  next hbytes => exact absurd (by simpa using congrArg List.length hbytes) h
  next => rfl

theorem judgeReply_of_framing (h : ∃ x ∈ r, x.framing = true) :
    judgeReply address r = .bad ((r.head?.map RxChar.framing).getD false) := by
  have hany : r.any RxChar.framing = true := List.any_eq_true.mpr h
  unfold judgeReply
  simp only
  split
  · exact if_pos hany
  · rfl

/-- The bytes of a reply of sound length. -/
def replyBytes (lead a : Byte) (speed direction : Nat) (code check : Byte) : List Byte :=
  lead :: a :: (be16 speed ++ be16 direction ++ [code, check])

/-- A reply of eight characters without a framing error is judged by its lead byte, its sum and its content. -/
theorem judgeReply_clean (address : Nat) (lead a : Byte) (speed direction : Nat) (code check : Byte) :
    judgeReply address (clean (replyBytes lead a speed direction code check)) =
      if lead ≠ 0xD1#8 then .bad false
      else if (replyBytes lead a speed direction code check).sum ≠ 0 then .bad false
      else judgeContent address a (u16 (byte (speed / 256)) (byte speed)) (u16 (byte (direction / 256)) (byte direction)) code := by
  simp [judgeReply, clean, replyBytes, be16, add_assoc]

theorem judgeContent_of_address (h : a.toNat = address) (speed direction : Nat) (code : Byte) :
    judgeContent address a speed direction code = if 359 < direction then .bad false
      else ((statusOf code).map (Answer.good speed direction)).getD (.bad false) := by
  unfold judgeContent
  rw [if_neg (not_not.mpr h)]
  split
  · rfl
  · cases statusOf code <;> rfl

/-- A closed reply is not a miss. -/
theorem judgeReply_ne_miss (address : Nat) (r : List RxChar) : judgeReply address r ≠ .miss := by
  have hcontent : ∀ a speed direction code, judgeContent address a speed direction code ≠ .miss := fun a speed direction code => by
    unfold judgeContent
    repeat' split
    all_goals exact fun h => nomatch h
  unfold judgeReply
  simp only
  repeat' split
  case isFalse.isFalse.isFalse => exact hcontent _ _ _ _
  all_goals exact fun h => nomatch h

/-- The tests of a closed reply, as the statement lists them. -/
theorem judgeReply_tests (address speed direction : Nat) (r : List RxChar) (lead a code check : Byte) :
    (r.length ≠ 8 → judgeReply address r = .bad ((r.head?.map RxChar.framing).getD false))
    ∧ (r.length = 8 → (∃ x ∈ r, x.framing = true) → judgeReply address r = .bad ((r.head?.map RxChar.framing).getD false))
    ∧ (lead ≠ 0xD1#8 ∨ (replyBytes lead a speed direction code check).sum ≠ 0 →
        judgeReply address (clean (replyBytes lead a speed direction code check)) = .bad false)
    ∧ (lead = 0xD1#8 → (replyBytes lead a speed direction code check).sum = 0 → a.toNat ≠ address →
        judgeReply address (clean (replyBytes lead a speed direction code check)) = .wrongAddress)
    ∧ (lead = 0xD1#8 → (replyBytes lead a speed direction code check).sum = 0 → a.toNat = address → direction < 65536 →
        359 < direction ∨ statusOf code = none →
        judgeReply address (clean (replyBytes lead a speed direction code check)) = .bad false) := by
  refine ⟨judgeReply_of_length, fun _ => judgeReply_of_framing, fun h => ?_, fun hlead hsum ha => ?_, fun hlead hsum ha hdir hbad => ?_⟩
  · rw [judgeReply_clean]
    by_cases hlead : lead = 0xD1#8
    · rw [if_neg (not_not.mpr hlead), if_pos (h.resolve_left (not_not.mpr hlead))]
    · rw [if_pos hlead]
  · rw [judgeReply_clean, if_neg (not_not.mpr hlead), if_neg (not_not.mpr hsum)]
    exact if_pos ha
  · rw [judgeReply_clean, if_neg (not_not.mpr hlead), if_neg (not_not.mpr hsum), judgeContent_of_address ha, u16_bytes hdir]
    rcases hbad with hlarge | hnone
    · exact if_pos hlarge
    · rw [hnone]
      split <;> rfl

/-- A sound reply of the polled station is GOOD. -/
theorem judgeReply_good (haddress : address < 256) (hspeed : speed < 65536) (hdirection : direction ≤ 359)
    (hstatus : statusOf code = some status) :
    judgeReply address (clean ((0xD1#8 :: byte address :: (be16 speed ++ be16 direction ++ [code])) ++
      [sumCheck (0xD1#8 :: byte address :: (be16 speed ++ be16 direction ++ [code]))])) = .good speed direction status := by
  generalize hcheck : sumCheck (0xD1#8 :: byte address :: (be16 speed ++ be16 direction ++ [code])) = check
  have hbytes : (0xD1#8 :: byte address :: (be16 speed ++ be16 direction ++ [code])) ++ [check] =
      replyBytes 0xD1#8 (byte address) speed direction code check := by simp [replyBytes]
  have hsum : (replyBytes 0xD1#8 (byte address) speed direction code check).sum = 0 := by
    rw [← hbytes, ← hcheck]
    exact sum_sumCheck _
  have ha : (byte address).toNat = address := by simp [byte, Nat.mod_eq_of_lt haddress]
  rw [hbytes, judgeReply_clean, if_neg (by simp), if_neg (not_not.mpr hsum), judgeContent_of_address ha, u16_bytes hspeed,
    u16_bytes (by omega), if_neg (Nat.not_lt.mpr hdirection), hstatus]
  rfl

end Sys2Proof

/-! PROOFS. The outcome of an exchange: the station's record, the polarity count, and what follows the exchange (R74, R77, R78, R83,
R84, R90). -/

namespace Sys2Proof

open Machine

variable {s t u v w : State} {k n : Nat} {x : StationSlot} {f : Station → Station} {c : CounterKind} {a : Answer}

/-! ## A failed outcome (R78, R84) -/

/-- The state that a station takes by its consecutive misses (R84). -/
def failedState (x : Station) : StationState :=
  match x.state with
  | .unknown | .online => if x.misses = 2 then .suspect else x.state
  | .suspect => if x.misses = 5 then .offline else .suspect
  | .offline | .disabled => x.state

theorem afterFailure_eq (k : Nat) (s : State) : afterFailure k s = moveStation k (failedState (station s k)) s := by
  unfold afterFailure failedState
  cases hstate : (station s k).state with
  | unknown | online =>
    by_cases h : (station s k).misses = 2
    · simp [hstate, h]
    · simp [hstate, h, moveStation_same]
  | suspect =>
    by_cases h : (station s k).misses = 5
    · simp [hstate, h]
    · simp [hstate, h, moveStation_same]
  | offline | disabled => simp [hstate, moveStation_same]

/-- A station that fails leaves the cycle from SUSPECT alone, by its fifth miss. -/
theorem suspect_of_failedState {y : Station} (hgone : failedState y = .offline ∨ failedState y = .disabled)
    (hmoves : y.state ≠ failedState y) : y.state = .suspect ∧ y.misses = 5 := by
  unfold failedState at hgone hmoves
  cases hstate : y.state with
  | unknown | online =>
    rw [hstate] at hgone
    by_cases h : y.misses = 2 <;> simp [h] at hgone
  | suspect =>
    rw [hstate] at hgone
    by_cases h : y.misses = 5
    · exact ⟨rfl, h⟩
    · simp [h] at hgone
  | offline | disabled =>
    rw [hstate] at hmoves
    exact absurd rfl hmoves

/-- A failure's change of a record, before its state moves. -/
def Fails (f : Station → Station) : Prop := ∀ x, (f x).state = x.state ∧ (f x).misses = min 255 (x.misses + 1)
  ∧ (f x).latch = true ∧ (f x).reading = x.reading

/-- A failed outcome is applied to the record of slot `k`. -/
def failed (k : Nat) (f : Station → Station) (c : CounterKind) (s : State) : State := afterFailure k (count c (setStation k f s))

theorem station_failed_same (hk : k < s.wln.stations.length) (f : Station → Station) (c : CounterKind) :
    station (failed k f c s) k = { f (station s k) with state := failedState (f (station s k)) } := by
  have hbefore : station (count c (setStation k f s)) k = f (station s k) :=
    (station_congr (by rw [count_wln]) k).trans (station_setStation_same hk f)
  rw [failed, afterFailure_eq, station_moveStation_same (by simpa [setStation] using hk), hbefore]

theorem station_failed_other (hn : n ≠ k) (f : Station → Station) (c : CounterKind) (s : State) :
    station (failed k f c s) n = station s n := by
  rw [failed, afterFailure_eq, station_moveStation_other hn, station_congr (s := setStation k f s) (by rw [count_wln]),
    station_setStation_other hn]

theorem failed_stations (k : Nat) (f : Station → Station) (c : CounterKind) (s : State) :
    ∃ l, (failed k f c s).wln = { s.wln with stations := l } := by
  obtain ⟨l, hl⟩ := moveStation_stations k (failedState (station (count c (setStation k f s)) k)) (count c (setStation k f s))
  refine ⟨l, ?_⟩
  rw [failed, afterFailure_eq, hl, count_wln]
  rfl

theorem failed_only (k : Nat) (f : Station → Station) (c : CounterKind) (s : State) :
    OnlyChanges [.brd, .link, .wln, .cst, .diag] s (failed k f c s) :=
  ⟨fun b hb => by cases b <;> simp [SameBlock, failed] at hb ⊢, by simp [failed], by simp [failed]⟩

section Failure

variable (hf : Fails f) (hk : k < s.wln.stations.length) (hslot : slot? s k = some x)

include hk

theorem station_counted : station (count c (setStation k f s)) k = f (station s k) :=
  (station_congr (by rw [count_wln]) k).trans (station_setStation_same hk f)

include hslot in
/-- What a failed outcome tells. -/
theorem Machine.Tells.failed {ns : List NoticeBody} {ks : List Key} {sub : Subjects} {r : State} (h : Tells v ks ns r.diag sub s)
    (hopen : s.cst.rstate = r.cst.rstate) (c : CounterKind) :
    Tells v ks (ns ++ overflows c r ++ movedNotices k x.address (f (station s k)) (failedState (f (station s k))))
      (Sys2Proof.counted c r) sub (Sys2Proof.failed k f c s) := by
  have hcount := (h.onWln fun y => { y with stations := y.stations.modify k f }).count hopen c
  have hmoved := hcount.moveStation (k := k) (x := x) ((slot_congr (s := s) (by simp) k).trans hslot)
    (failedState (station (Machine.count c (setStation k f s)) k))
  rw [Sys2Proof.failed, afterFailure_eq]
  rw [show station (Machine.count c (s.onWln fun y => { y with stations := y.stations.modify k f })) k = f (station s k) from
    station_counted hk, station_counted hk] at hmoved
  rw [station_counted hk]
  exact hmoved

include hf

/-- What the statements say of a failed record. -/
theorem Failed.of_station (hsame : ∀ n, station t n = station (failed k f c s) n) : Failed k s t := by
  obtain ⟨hstate, hmisses, hlatch, hreading⟩ := hf (station s k)
  have hstation := (hsame k).trans (station_failed_same hk f c)
  unfold Failed
  rw [hstation]
  refine ⟨hmisses, hlatch, fun h => ?_, fun h => ?_, fun h => ?_, hreading, fun n hn => (hsame n).trans (station_failed_other hn f c s)⟩
  · have hsecond : min 255 ((station s k).misses + 1) = 2 ↔ (station s k).misses = 1 := by omega
    rcases h with h | h <;> simp [failedState, hstate, h, hmisses, hsecond]
  · have hfifth : min 255 ((station s k).misses + 1) = 5 ↔ (station s k).misses = 4 := by omega
    simp [failedState, hstate, h, hmisses, hfifth]
  · rcases h with h | h <;> simp [failedState, hstate, h]

omit hk in
/-- The failure takes the station to OFFLINE, as `LosesStation` says. -/
theorem failedState_offline (hstate : (station s k).state = .suspect) (hmisses : (station s k).misses = 4) :
    failedState (f (station s k)) = .offline := by
  obtain ⟨hkept, hraised, -⟩ := hf (station s k)
  rw [failedState, hkept, hstate]
  exact if_pos (by rw [hraised, hmisses]; rfl)

include hslot

theorem failed_cst_lost {collects : Bool} (hwindow : s.wln.window = some (n, collects)) (hlost : LosesStation k s) :
    (failed k f c s).cst = faulted n .stationLost s.cst := by
  obtain ⟨-, hscoring, hstate, hmisses⟩ := hlost
  obtain ⟨hkept, -⟩ := hf (station s k)
  rw [hslot, Option.map_some, Option.some.injEq] at hscoring
  rw [failed, afterFailure_eq, station_counted hk, failedState_offline hf hstate hmisses,
    moveStation_cst_lost (x := x) (n := n) (c := collects) ?_ (.inl rfl) ?_ hscoring ?_]
  · rw [count_cst]
    rfl
  · rw [station_counted hk, hkept, hstate]
    decide
  · rw [slot_congr (s := s) (by simp)]
    exact hslot
  · rw [count_wln]
    exact hwindow

omit hslot in
theorem failed_cst_kept (hkeeps : ¬LosesStation k s) : (failed k f c s).cst = s.cst := by
  obtain ⟨hkept, hraised, -⟩ := hf (station s k)
  have hbefore : (count c (setStation k f s)).cst = s.cst := by simp
  rw [failed, afterFailure_eq, station_counted hk]
  by_cases hsame : (f (station s k)).state = failedState (f (station s k))
  · rw [moveStation_same (by rw [station_counted hk]; exact hsame), hbefore]
  · rw [moveStation_cst_kept, hbefore]
    have hwindow : (count c (setStation k f s)).wln.window = s.wln.window := by rw [count_wln]; rfl
    have hscoring : slot? (count c (setStation k f s)) k = slot? s k := slot_congr (by simp) k
    rw [hwindow, hscoring]
    by_contra hall
    simp only [not_or, not_and_or, not_not] at hall
    obtain ⟨hgone, hopen, hrole⟩ := hall
    have hmoves := suspect_of_failedState (y := f (station s k)) (by tauto) hsame
    rw [hkept, hraised] at hmoves
    exact hkeeps ⟨Option.isSome_iff_ne_none.mpr hopen, hrole, hmoves.1, by omega⟩

end Failure

theorem stationNotices_eq {y : Station} {new : StationState} (hstation : station t k = { y with state := new })
    (hold : (station s k).state = y.state) (address : Nat) : stationNotices k address s t = movedNotices k address y new := by
  unfold stationNotices movedNotices
  rw [hstation, hold]
  exact if_congr eq_comm rfl rfl

/-! ## The polarity count (R90) -/

/-- WLN's polarity count and receive polarity after an outcome, with automatic swap on. -/
def polarityMoved (a : Answer) (w : Wln) : Wln :=
  match a with
  | .miss => w
  | .bad true =>
    if 2 ≤ w.polarityCount then { w with polarityCount := 0, inverted := !w.inverted }
    else { w with polarityCount := w.polarityCount + 1 }
  | .bad false | .good _ _ _ | .wrongAddress => { w with polarityCount := 0 }

theorem autoSwapOn_iff (h : HillSection) : h.autoSwapOn = true ↔ h.autoSwap = 1 := beq_iff_eq

theorem movePolarity_off (h : s.prof.profile.hill.autoSwap ≠ 1) (a : Answer) : movePolarity a s = s :=
  if_neg fun hon => h ((autoSwapOn_iff _).mp hon)

theorem movePolarity_on (h : s.prof.profile.hill.autoSwap = 1) (a : Answer) :
    (movePolarity a s).wln = polarityMoved a s.wln := by
  unfold movePolarity
  rw [if_pos ((autoSwapOn_iff _).mpr h)]
  cases a with
  | miss => rfl
  | good | wrongAddress => rfl
  | bad marked =>
    cases marked with
    | false => rfl
    | true => by_cases hthird : 2 ≤ s.wln.polarityCount <;> simp [polarityMoved, hthird]

theorem movePolarity_pair (a : Answer) (s : State) : ∃ count inverted,
    (movePolarity a s).wln = { s.wln with polarityCount := count, inverted := inverted } := by
  by_cases h : s.prof.profile.hill.autoSwap = 1
  · rw [movePolarity_on h]
    cases a with
    | miss | good | wrongAddress => exact ⟨_, _, rfl⟩
    | bad marked =>
      cases marked with
      | false => exact ⟨_, _, rfl⟩
      | true =>
        by_cases hthird : 2 ≤ s.wln.polarityCount
        · exact ⟨_, _, if_pos hthird⟩
        · exact ⟨_, _, if_neg hthird⟩
  · rw [movePolarity_off h]
    exact ⟨_, _, rfl⟩

theorem Machine.Tells.movePolarity {ks : List Key} {ns : List NoticeBody} {d : Diag} {sub : Subjects} (h : Tells v ks ns d sub w)
    (a : Answer) : Tells v ks (ns ++ polarityNotices a w) d sub (Machine.movePolarity a w) := by
  have hquiet : ∀ f, Tells v ks (ns ++ []) d sub (w.onWln f) := fun f => by
    rw [List.append_nil]
    exact h.onWln f
  unfold polarityNotices
  by_cases hon : w.prof.profile.hill.autoSwap = 1
  · unfold Machine.movePolarity
    rw [if_pos ((autoSwapOn_iff _).mpr hon)]
    cases a with
    | miss => simpa using h
    | good | wrongAddress => simpa using hquiet fun w => { w with polarityCount := 0 }
    | bad marked =>
      cases marked with
      | false => simpa using hquiet fun w => { w with polarityCount := 0 }
      | true =>
        by_cases hthird : 2 ≤ w.wln.polarityCount
        · rw [if_pos ⟨hon, rfl, hthird⟩]
          simp only [if_pos hthird]
          exact (h.onWln _).notify _
        · rw [if_neg fun hall => hthird hall.2.2]
          simp only [if_neg hthird]
          exact hquiet fun w => { w with polarityCount := w.polarityCount + 1 }
  · rw [if_neg fun hall => hon hall.1, movePolarity_off hon, List.append_nil]
    exact h

/-! ## What follows an exchange (R77, R79, R91) -/

/-- From `s` to `u` an exchange with slot `k` has been closed and its outcome applied. -/
structure Closed (k : Nat) (s u : State) : Prop where
  prof : u.prof = s.prof
  test : u.wln.test = s.wln.test
  poll : u.wln.poll = s.wln.poll
  cycle : u.wln.cycle = s.wln.cycle
  nextSlot : u.wln.nextSlot = s.wln.nextSlot
  phase : u.wln.phase = .none
  other : ∀ n, n ≠ k → station u n = station s n

/-- What an exchange's end leaves of WLN goes on into what follows. -/
structure RecordsKept (v w : Wln) : Prop where
  stations : w.stations = v.stations
  polarityCount : w.polarityCount = v.polarityCount
  inverted : w.inverted = v.inverted
  contention : w.contention = v.contention
  window : w.window = v.window

theorem Begun.recordsKept {v w : Wln} (h : Begun k v w) : RecordsKept v w := by
  obtain ⟨-, hw⟩ := h
  exact ⟨(congrArg Wln.stations hw :), (congrArg Wln.polarityCount hw :), (congrArg Wln.inverted hw :),
    (congrArg Wln.contention hw :), (congrArg Wln.window hw :)⟩

theorem Closed.nextDue (h : Closed k s u) (hnext : s.wln.nextSlot = k + 1) : nextDue u = nextDue s := by
  refine Option.ext fun n => ?_
  have hdue : ∀ m, s.wln.nextSlot ≤ m → due u m = due s m := fun m hm =>
    due_congr h.prof (h.other m (by omega)) h.cycle
  rw [nextDue_iff, nextDue_iff, h.nextSlot]
  constructor
  · rintro ⟨hn, hle, hd, hleast⟩
    exact ⟨hn, hle, by rw [← hdue n hle]; exact hd, fun m hm hdm => hleast m hm (by rw [hdue m hm]; exact hdm)⟩
  · rintro ⟨hn, hle, hd, hleast⟩
    exact ⟨hn, hle, by rw [hdue n hle]; exact hd, fun m hm hdm => hleast m hm (by rw [← hdue m hm]; exact hdm)⟩

/-- A measurement or another exchange follows, and changes WLN alone. -/
theorem Closed.goesOn (h : Closed k s u) (hlast : NotLast k s) : ∃ w, afterExchange u = u.onWln (fun _ => w)
    ∧ GoesOn s (u.onWln fun _ => w) ∧ RecordsKept u.wln w := by
  rcases hlast with hwaiting | ⟨hidle, hin, hnext, hsome⟩
  · have hmeasures : afterExchange u = beginMeasurement u := if_pos (h.test.trans hwaiting)
    exact ⟨_, hmeasures, ⟨fun _ => ⟨h.phase, _, rfl⟩, fun j hidle => nomatch hwaiting.symm.trans hidle⟩, rfl, rfl, rfl, rfl, rfl⟩
  · obtain ⟨j, hj⟩ := Option.isSome_iff_exists.mp hsome
    obtain ⟨w, hw, hbegun⟩ := runSlots_of_due ((h.nextDue hnext).trans hj)
    have hkept := hbegun.recordsKept
    obtain ⟨hphase, hbegun⟩ := hbegun
    have htest : w.test = .idle := (congrArg Wln.test hbegun :).trans (h.test.trans hidle)
    have hpoll : w.poll = .inCycle := (congrArg Wln.poll hbegun :).trans (h.poll.trans hin)
    have hnot : u.wln.test ≠ .waitingExchange := by rw [h.test, hidle]; decide
    have hcycle : w.poll ≠ .between := by rw [hpoll]; decide
    have hgoes : afterExchange u = followOn (runSlots u) := if_neg hnot
    have hstays : followOn (u.onWln fun _ => w) = u.onWln fun _ => w := if_neg fun hc => hcycle hc.1
    rw [hw, hstays] at hgoes
    refine ⟨w, hgoes, ⟨fun hc => (nomatch hidle.symm.trans hc), fun i _ hi => ?_⟩, hkept⟩
    rw [hj] at hi
    obtain rfl := Option.some.inj hi
    exact ⟨congrArg Wln.polled hbegun, htest, hphase⟩

/-- What a command that ends an exchange leaves, by the state `u` in which the outcome has been applied. -/
structure ExchangeEnded (ns : List NoticeBody) (s u t : State) : Prop where
  station : ∀ n, station t n = Machine.station u n
  stations : t.wln.stations = u.wln.stations
  polarityCount : t.wln.polarityCount = u.wln.polarityCount
  inverted : t.wln.inverted = u.wln.inverted
  contention : t.wln.contention = u.wln.contention
  window : t.wln.window = u.wln.window
  cst : t.cst = u.cst
  diag : t.diag = u.diag
  goesOn : GoesOn s t
  sends : OnlySends ns s t

theorem Happens.of_exchange {i : Instr} {e : State → State} {bs : List Block} {ns : List NoticeBody} {d : Diag} {P : State → Prop}
    (hexec : exec i s = command e s) (heffect : e (startTx s) = afterExchange u) (hlast : NotLast k s) (hclosed : Closed k s u)
    (htells : Tells (startTx s) [] ns d s.brd.subjects u) (honly : OnlyChanges (.brd :: .link :: .wln :: bs) (startTx s) u)
    (hP : ∀ t, ExchangeEnded ns s u t → P t) : Happens i (.wln :: bs) s P := by
  obtain ⟨w, hw, hgoes, hstations, hpolarity, hinverted, hcontention, hwindow⟩ := hclosed.goesOn hlast
  refine Happens.of_block hexec (heffect.trans hw) (honly.trans ⟨fun b hb => ?_, rfl, rfl⟩) fun t ht => hP t ?_
  · cases b <;> simp [SameBlock] at hb ⊢
  · obtain ⟨hkept, hsub, hboards, hsaid⟩ := told ht (htells.onWln fun _ => w) (by simp)
    have hwln : t.wln = w := ht.wln
    refine ⟨fun n => station_congr (by rw [hwln, hstations]) n, by rw [hwln, hstations], by rw [hwln, hpolarity],
      by rw [hwln, hinverted], by rw [hwln, hcontention], by rw [hwln, hwindow], ht.cst, ht.diag, ?_,
      hkept, hboards, hsub, (hsaid (.inl rfl)).2⟩
    unfold GoesOn at hgoes ⊢
    rw [hwln]
    exact hgoes

end Sys2Proof

/-! PROOFS. The commands that end an exchange, and what each outcome leaves (R74, R76 to R78, R83, R84, R90). -/

namespace Sys2Proof

open Machine

variable {s t u v w : State} {k n : Nat} {x : StationSlot} {f : Station → Station} {c : CounterKind} {a : Answer}

/-! ## An outcome in general -/

/-- The state that an exchange's end begins with: the phase and its timers are over. -/
def exchangeClosed (s : State) : State := closeExchange (startTx s)

theorem exchangeClosed_only (s : State) : OnlyChanges [.brd, .link, .wln] (startTx s) (exchangeClosed s) :=
  ⟨fun b hb => by cases b <;> simp [SameBlock, exchangeClosed, closeExchange] at hb ⊢, rfl, rfl⟩

/-- WLN once an exchange's phase and timers are over. -/
def lineClosed (w : Wln) : Wln :=
  { w with phase := .none, carrierTimer := none, turnTimer := none, replyTimer := none, gapTimer := none, reply := [] }

theorem exchangeClosed_eq (s : State) : exchangeClosed s = (startTx s).onWln lineClosed := rfl

theorem exchangeClosed_wln (s : State) : (exchangeClosed s).wln = lineClosed s.wln := by
  simp [exchangeClosed_eq]

theorem station_exchangeClosed (s : State) (k : Nat) : station (exchangeClosed s) k = station s k :=
  station_congr (by rw [exchangeClosed_wln]; rfl) k

theorem slot_exchangeClosed (s : State) (k : Nat) : slot? (exchangeClosed s) k = slot? s k :=
  slot_congr (by simp [exchangeClosed, closeExchange]) k

theorem exchangeClosed_tells (s : State) : Tells (startTx s) [] [] s.diag s.brd.subjects (exchangeClosed s) := by
  have h := (Tells.refl (startTx s)).onWln lineClosed
  rw [startTx_diag, startTx_brd] at h
  exact h

/-- A miss's change of the record (R78). -/
def missed (x : Station) : Station :=
  { x with misses := saturating 255 x.misses, missCount := saturating 65535 x.missCount, latch := true }

/-- A bad reply's change of the record (R78). -/
def garbled (x : Station) : Station :=
  { x with misses := saturating 255 x.misses, badCount := saturating 65535 x.badCount, latch := true }

theorem missed_fails : Fails missed := fun _ => ⟨rfl, rfl, rfl, rfl⟩

theorem garbled_fails : Fails garbled := fun _ => ⟨rfl, rfl, rfl, rfl⟩

theorem applyAnswer_miss (k : Nat) (s : State) : applyAnswer k .miss s = failed k missed .windMiss s := rfl

theorem applyAnswer_bad (h : ∀ speed direction status, a ≠ .good speed direction status) (hmiss : a ≠ .miss) (k : Nat) (s : State) :
    applyAnswer k a s = failed k garbled .windBad s := by
  cases a with
  | good speed direction status => exact absurd rfl (h speed direction status)
  | miss => exact absurd rfl hmiss
  | bad | wrongAddress => rfl

/-- A GOOD reply's change of the record (R83). -/
def heard (r : Reading) (speed : Nat) (x : Station) : Station :=
  { x with misses := 0, replies := saturating 65535 x.replies, reading := some r, clamped := decide (6000 < speed), good := true }

theorem applyAnswer_good (k speed direction : Nat) (status : StationStatus) (s : State) :
    applyAnswer k (.good speed direction status) s =
      moveStation k .online (count .windGood (setStation k (heard (readingOf s k speed direction status) speed) s)) := rfl

theorem applyAnswer_stations (k : Nat) (a : Answer) (s : State) : ∃ l, (applyAnswer k a s).wln = { s.wln with stations := l } := by
  cases a with
  | good speed direction status =>
    obtain ⟨l, hl⟩ := moveStation_stations k .online
      (count .windGood (setStation k (heard (readingOf s k speed direction status) speed) s))
    refine ⟨l, ?_⟩
    rw [applyAnswer_good, hl, count_wln]
    rfl
  | miss => exact failed_stations k missed .windMiss s
  | bad | wrongAddress => exact failed_stations k garbled .windBad s

theorem station_applyAnswer_other (hn : n ≠ k) (a : Answer) (s : State) : station (applyAnswer k a s) n = station s n := by
  cases a with
  | good speed direction status =>
    rw [applyAnswer_good, station_moveStation_other hn,
      station_congr (s := setStation k (heard (readingOf s k speed direction status) speed) s) (by rw [count_wln]),
      station_setStation_other hn]
  | miss => exact station_failed_other hn missed .windMiss s
  | bad | wrongAddress => exact station_failed_other hn garbled .windBad s

theorem station_movePolarity (a : Answer) (s : State) (n : Nat) : station (movePolarity a s) n = station s n := by
  obtain ⟨c, i, h⟩ := movePolarity_pair a s
  exact station_congr (by rw [h]) n

/-- What an exchange with slot `k` leaves before the cycle or a line test goes on. -/
theorem Closed.of_answer (k : Nat) (a : Answer) (s : State) : Closed k s (movePolarity a (applyAnswer k a (exchangeClosed s))) := by
  obtain ⟨c, i, hpolarity⟩ := movePolarity_pair a (applyAnswer k a (exchangeClosed s))
  obtain ⟨l, hstations⟩ := applyAnswer_stations k a (exchangeClosed s)
  rw [hstations, exchangeClosed_wln] at hpolarity
  refine ⟨by simp [exchangeClosed, closeExchange], ?_, ?_, ?_, ?_, ?_, fun n hn => ?_⟩
  · rw [hpolarity]; rfl
  · rw [hpolarity]; rfl
  · rw [hpolarity]; rfl
  · rw [hpolarity]; rfl
  · rw [hpolarity]; rfl
  · rw [station_movePolarity, station_applyAnswer_other hn, station_exchangeClosed]

/-- The polarity count and the receive polarity after an outcome (R90). -/
def polarityAfter (a : Answer) (s : State) : Nat × Bool :=
  if s.prof.profile.hill.autoSwap = 1 then ((polarityMoved a s.wln).polarityCount, (polarityMoved a s.wln).inverted)
  else (s.wln.polarityCount, s.wln.inverted)

theorem polarityMoved_congr {v w : Wln} (hcount : v.polarityCount = w.polarityCount) (hinverted : v.inverted = w.inverted)
    (a : Answer) : (polarityMoved a v).polarityCount = (polarityMoved a w).polarityCount
      ∧ (polarityMoved a v).inverted = (polarityMoved a w).inverted := by
  cases a with
  | good | wrongAddress => exact ⟨rfl, hinverted⟩
  | miss => exact ⟨hcount, hinverted⟩
  | bad marked =>
    cases marked with
    | false => exact ⟨rfl, hinverted⟩
    | true => by_cases h : 2 ≤ w.polarityCount <;> simp [polarityMoved, hcount, hinverted, h]

theorem movePolarity_after {s u : State} (hprof : u.prof = s.prof) (hcount : u.wln.polarityCount = s.wln.polarityCount)
    (hinverted : u.wln.inverted = s.wln.inverted) (a : Answer) :
    ((movePolarity a u).wln.polarityCount, (movePolarity a u).wln.inverted) = polarityAfter a s := by
  unfold polarityAfter
  rw [← hprof]
  split
  next hon =>
    obtain ⟨hc, hi⟩ := polarityMoved_congr hcount hinverted a
    rw [movePolarity_on hon, hc, hi]
  next hoff => rw [movePolarity_off hoff, hcount, hinverted]

theorem polarityNotices_congr {s u : State} (hprof : u.prof = s.prof) (hcount : u.wln.polarityCount = s.wln.polarityCount)
    (hinverted : u.wln.inverted = s.wln.inverted) (a : Answer) : polarityNotices a u = polarityNotices a s := by
  rw [polarityNotices, polarityNotices, hprof, hcount, hinverted]

/-- An outcome that has been applied and not discarded, with what follows. -/
structure Answered (ns : List NoticeBody) (d : Diag) (a : Answer) (s u t : State) : Prop where
  station : ∀ n, station t n = Machine.station u n
  polarity : (t.wln.polarityCount, t.wln.inverted) = polarityAfter a s
  window : t.wln.window = s.wln.window
  cst : t.cst = u.cst
  diag : t.diag = d
  goesOn : GoesOn s t
  sends : OnlySends (ns ++ polarityNotices a s) s t

section Answer

variable {i : Instr} {e : State → State} {bs : List Block} {ns : List NoticeBody} {d : Diag} {P : State → Prop}
  (hpolled : s.wln.polled = k) (hdiscard : s.wln.discard = false) (hlast : NotLast k s)

include hpolled hdiscard hlast

theorem answer_happens (hexec : exec i s = command e s) (heffect : e (startTx s) = endExchange a (startTx s))
    (htells : Tells (startTx s) [] ns d s.brd.subjects (applyAnswer k a (exchangeClosed s)))
    (honly : OnlyChanges (.brd :: .link :: .wln :: bs) (startTx s) (applyAnswer k a (exchangeClosed s)))
    (hP : ∀ t, Answered ns d a s (applyAnswer k a (exchangeClosed s)) t → P t) : Happens i (.wln :: bs) s P := by
  obtain ⟨l, hstations⟩ := applyAnswer_stations k a (exchangeClosed s)
  have hwln := hstations
  rw [exchangeClosed_wln] at hwln
  have hprof : (applyAnswer k a (exchangeClosed s)).prof = s.prof := by simp [exchangeClosed, closeExchange]
  have hcount : (applyAnswer k a (exchangeClosed s)).wln.polarityCount = s.wln.polarityCount := by rw [hwln]; rfl
  have hinverted : (applyAnswer k a (exchangeClosed s)).wln.inverted = s.wln.inverted := by rw [hwln]; rfl
  have htaken : takeAnswer a (exchangeClosed s) = movePolarity a (applyAnswer k a (exchangeClosed s)) := by
    have hfalse : (exchangeClosed s).wln.discard = false := by rw [exchangeClosed_wln]; exact hdiscard
    have hslot : (exchangeClosed s).wln.polled = k := by rw [exchangeClosed_wln]; exact hpolled
    rw [takeAnswer, hfalse, hslot]
    rfl
  have hmoved := htells.movePolarity a
  rw [polarityNotices_congr hprof hcount hinverted] at hmoved
  refine Happens.of_exchange hexec (heffect.trans (congrArg afterExchange htaken)) hlast (.of_answer k a s) hmoved
    (honly.trans ⟨fun b hb => ?_, by simp, by simp⟩) fun t ht => hP t ⟨fun n => ?_, ?_, ?_, ?_, ?_, ht.goesOn, ht.sends⟩
  · cases b <;> simp [SameBlock] at hb ⊢
  · rw [ht.station, station_movePolarity]
  · rw [ht.polarityCount, ht.inverted]
    exact movePolarity_after hprof hcount hinverted a
  · obtain ⟨c, b, hpair⟩ := movePolarity_pair a (applyAnswer k a (exchangeClosed s))
    rw [ht.window, hpair, hwln]
    rfl
  · rw [ht.cst, movePolarity_cst]
  · rw [ht.diag, movePolarity_diag]
    exact (htells.said (.inl rfl)).2

/-! ## A failed outcome -/

section Failure

variable (hk : k < s.wln.stations.length) (hslot : slot? s k = some x) (happly : applyAnswer k a (exchangeClosed s) =
  failed k f c (exchangeClosed s)) (hf : Fails f)

omit hpolled hdiscard hlast in
include hslot hk in
theorem failure_tells : Tells (startTx s) [] (overflows c s ++
    movedNotices k x.address (f (station s k)) (failedState (f (station s k)))) (counted c s) s.brd.subjects
      (failed k f c (exchangeClosed s)) := by
  have hopen : (exchangeClosed s).cst.rstate = s.cst.rstate := by simp [exchangeClosed_eq]
  have h := (exchangeClosed_tells s).failed (f := f) (by rw [exchangeClosed_wln]; exact hk)
    ((slot_exchangeClosed s k).trans hslot) hopen c
  rw [station_exchangeClosed] at h
  exact h

omit hpolled hdiscard hlast in
theorem losesStation_exchangeClosed : LosesStation k (exchangeClosed s) ↔ LosesStation k s := by
  unfold LosesStation
  rw [slot_exchangeClosed, station_exchangeClosed, exchangeClosed_wln]
  rfl

/-- What the statements say of a failed outcome besides CST. -/
structure FailureEnds (k address : Nat) (f : Station → Station) (c : CounterKind) (a : Answer) (s t : State) : Prop where
  failed : Failed k s t
  record : station t k = { f (station s k) with state := failedState (f (station s k)) }
  polarity : (t.wln.polarityCount, t.wln.inverted) = polarityAfter a s
  window : t.wln.window = s.wln.window
  diag : t.diag = counted c s
  goesOn : GoesOn s t
  sends : OnlySends (overflows c s ++ stationNotices k address s t ++ polarityNotices a s) s t

include hk hslot happly hf

theorem failure_happens (hexec : exec i s = command e s) (heffect : e (startTx s) = endExchange a (startTx s))
    (honly : OnlyChanges (.brd :: .link :: .wln :: bs) (startTx s) (failed k f c (exchangeClosed s)))
    (hP : ∀ t, FailureEnds k x.address f c a s t → t.cst = (failed k f c (exchangeClosed s)).cst → P t) :
    Happens i (.wln :: bs) s P := by
  rw [← happly] at honly
  have htells := failure_tells (f := f) (c := c) hk hslot
  rw [← happly] at htells
  refine answer_happens hpolled hdiscard hlast hexec heffect htells honly fun t ht => hP t ?_ (by rw [ht.cst, happly])
  have hklen : k < (exchangeClosed s).wln.stations.length := by rw [exchangeClosed_wln]; exact hk
  have hsame : ∀ n, station t n = station (failed k f c (exchangeClosed s)) n := fun n => by rw [ht.station, happly]
  have hrecord := (hsame k).trans (station_failed_same hklen f c)
  rw [station_exchangeClosed] at hrecord
  have hfailed := Failed.of_station hf hklen hsame
  have hnotices := stationNotices_eq (s := s) hrecord (hf (station s k)).1.symm x.address
  refine ⟨?_, hrecord, ht.polarity, ht.window, ht.diag, ht.goesOn, ?_⟩
  · unfold Failed at hfailed ⊢
    simpa only [station_exchangeClosed] using hfailed
  · rw [hnotices]
    exact ht.sends

theorem failure_lost {collects : Bool} (hexec : exec i s = command e s) (heffect : e (startTx s) = endExchange a (startTx s))
    (hwindow : s.wln.window = some (n, collects)) (hlost : LosesStation k s) : Happens i [.cst, .wln, .diag] s fun t =>
      FailureEnds k x.address f c a s t ∧ t.cst = faulted n .stationLost s.cst := by
  have hcst : (failed k f c (exchangeClosed s)).cst = faulted n .stationLost s.cst := by
    rw [failed_cst_lost (n := n) (collects := collects) hf (by rw [exchangeClosed_wln]; exact hk)
      ((slot_exchangeClosed s k).trans hslot) (by rw [exchangeClosed_wln]; exact hwindow) (losesStation_exchangeClosed.mpr hlost),
      exchangeClosed_eq]
    simp
  have honly : OnlyChanges [.brd, .link, .wln, .cst, .diag] (startTx s) (failed k f c (exchangeClosed s)) :=
    ((exchangeClosed_only s).mono (by simp)).trans (failed_only k f c _)
  exact (failure_happens (bs := [.cst, .diag]) hpolled hdiscard hlast hk hslot happly hf hexec heffect honly
    fun t ht htcst => ⟨ht, htcst.trans hcst⟩).mono (by simp)

theorem failure_kept (hexec : exec i s = command e s) (heffect : e (startTx s) = endExchange a (startTx s))
    (hkept : ¬LosesStation k s) : Happens i [.wln, .diag] s fun t => FailureEnds k x.address f c a s t := by
  have hcst : (failed k f c (exchangeClosed s)).cst = (exchangeClosed s).cst :=
    failed_cst_kept hf (by rw [exchangeClosed_wln]; exact hk) fun h => hkept (losesStation_exchangeClosed.mp h)
  have honly : OnlyChanges [.brd, .link, .wln, .diag] (exchangeClosed s) (failed k f c (exchangeClosed s)) := by
    refine ⟨fun b hb => ?_, (failed_only k f c _).2⟩
    cases b
    case cst => exact hcst
    all_goals simp [SameBlock, failed] at hb ⊢
  exact failure_happens hpolled hdiscard hlast hk hslot happly hf hexec heffect
    (((exchangeClosed_only s).mono (by simp)).trans honly) fun t ht _ => ht

end Failure

/-! ## A GOOD reply (R83) -/

theorem good_happens {speed direction : Nat} {status : StationStatus} (hk : k < s.wln.stations.length) (hslot : slot? s k = some x)
    (hexec : exec i s = command e s) (heffect : e (startTx s) = endExchange (.good speed direction status) (startTx s)) :
    Happens i [.wln, .diag] s fun t =>
      station t k = { heard (readingOf s k speed direction status) speed (station s k) with state := .online }
        ∧ (∀ n, n ≠ k → station t n = station s n) ∧ (t.wln.polarityCount, t.wln.inverted) = polarityAfter (.good 0 0 .ok) s
        ∧ t.diag = counted .windGood s ∧ GoesOn s t
        ∧ OnlySends (overflows .windGood s ++ stationNotices k x.address s t) s t := by
  have hreading : readingOf (exchangeClosed s) k speed direction status = readingOf s k speed direction status := by
    rw [readingOf, readingOf, slot_exchangeClosed]
    simp [exchangeClosed_eq]
  have hopen : (exchangeClosed s).cst.rstate = s.cst.rstate := by simp [exchangeClosed_eq]
  have hklen : k < (exchangeClosed s).wln.stations.length := by rw [exchangeClosed_wln]; exact hk
  generalize hr : readingOf s k speed direction status = r at hreading
  have hcounted : station (count .windGood (setStation k (heard r speed) (exchangeClosed s))) k = heard r speed (station s k) := by
    rw [station_counted hklen, station_exchangeClosed]
  have happly := applyAnswer_good k speed direction status (exchangeClosed s)
  rw [hreading] at happly
  have htells := (((exchangeClosed_tells s).onWln fun w => { w with stations := w.stations.modify k (heard r speed) }).count hopen
    .windGood).moveStation (k := k) (x := x) ((slot_congr (s := exchangeClosed s) (by simp) k).trans
      ((slot_exchangeClosed s k).trans hslot)) .online
  rw [show station (count .windGood ((exchangeClosed s).onWln fun w => { w with stations := w.stations.modify k (heard r speed) })) k =
    heard r speed (station s k) from hcounted] at htells
  have htells' : Tells (startTx s) [] (overflows .windGood s ++ movedNotices k x.address (heard r speed (station s k)) .online)
      (counted .windGood s) s.brd.subjects (applyAnswer k (.good speed direction status) (exchangeClosed s)) := by
    rw [happly]
    exact htells
  have hcst : (applyAnswer k (.good speed direction status) (exchangeClosed s)).cst = (exchangeClosed s).cst := by
    rw [happly, moveStation_cst_kept (.inl ⟨by decide, by decide⟩), count_cst]
    rfl
  have honly : OnlyChanges [.brd, .link, .wln, .diag] (exchangeClosed s)
      (applyAnswer k (.good speed direction status) (exchangeClosed s)) := by
    refine ⟨fun b hb => ?_, by simp, by simp⟩
    cases b
    case cst => exact hcst
    all_goals simp [SameBlock] at hb ⊢
  refine answer_happens hpolled hdiscard hlast hexec heffect htells' (((exchangeClosed_only s).mono (by simp)).trans honly)
    fun t ht => ?_
  have hrecord : station t k = { heard r speed (station s k) with state := .online } := by
    rw [ht.station, happly, station_moveStation_same (by simpa [setStation] using hklen), hcounted]
  refine ⟨hrecord, fun n hn => ?_, ht.polarity, ht.diag, ht.goesOn, ?_⟩
  · rw [ht.station, station_applyAnswer_other hn, station_exchangeClosed]
  · rw [stationNotices_eq hrecord rfl]
    have hsends := ht.sends
    have hquiet : polarityNotices (.good speed direction status) s = [] := if_neg fun h => nomatch h.2.1
    rw [hquiet, List.append_nil] at hsends
    exact hsends

end Answer

/-! ## The commands that end an exchange -/

theorem replyTimeout_effect (h : s.wln.phase = .replyWait) : replyTimedOut (startTx s) = endExchange .miss (startTx s) := by
  simp [replyTimedOut, h]

theorem replyGap_effect (h : s.wln.phase = .receiving) :
    replyGap (startTx s) = endExchange (judgeReply s.wln.polledAddress s.wln.reply) (startTx s) := by
  simp [replyGap, h, closeReply]

theorem contentionMiss_effect (h : s.wln.phase = .carrierWait) :
    contentionMissed (startTx s) = afterExchange (contend (exchangeClosed s)) := by
  simp [contentionMissed, h, exchangeClosed]

/-- A contention miss that raises the count. -/
theorem contention_raised (hdiscard : s.wln.discard = false) (hlast : NotLast k s)
    (hphase : s.wln.phase = .carrierWait) (hcount : s.wln.contention < 2) : Happens .contentionMiss [.wln] s fun t =>
      t.wln.contention = s.wln.contention + 1 ∧ t.wln.stations = s.wln.stations ∧ GoesOn s t ∧ Quiet s t := by
  have hraises : contend (exchangeClosed s) = (exchangeClosed s).onWln fun w => { w with contention := w.contention + 1 } := by
    rw [contend, exchangeClosed_wln, if_neg (by simp [lineClosed, hdiscard]), if_neg (by simpa [lineClosed] using hcount)]
  refine Happens.of_exchange (u := contend (exchangeClosed s)) rfl (contentionMiss_effect hphase) hlast ?_
    (hraises ▸ (exchangeClosed_tells s).onWln _) ?_ fun t ht => ⟨?_, ?_, ht.goesOn, ht.sends⟩
  · rw [hraises]
    refine ⟨by simp [exchangeClosed_eq], ?_, ?_, ?_, ?_, ?_, fun n _ => station_exchangeClosed s n⟩
    all_goals
      rw [State.onWln_wln, exchangeClosed_wln]
      rfl
  · rw [hraises]
    exact (exchangeClosed_only s).trans ⟨fun b hb => by cases b <;> simp [SameBlock] at hb ⊢, rfl, rfl⟩
  · rw [ht.contention, hraises, State.onWln_wln, exchangeClosed_wln]
    rfl
  · rw [ht.stations, hraises, State.onWln_wln, exchangeClosed_wln]
    rfl

/-- The third contention miss reports LINE_JAM. -/
theorem contention_jams (hdiscard : s.wln.discard = false) (hlast : NotLast k s)
    (hphase : s.wln.phase = .carrierWait) (hcount : 2 ≤ s.wln.contention) : Happens .contentionMiss [.wln, .diag] s fun t =>
      t.wln.contention = 0 ∧ t.wln.stations = s.wln.stations ∧ GoesOn s t
        ∧ t.diag = reported .lineJam s.wln.polledAddress s ∧ Quiet s t := by
  have hjams : contend (exchangeClosed s) =
      reportFault .lineJam s.wln.polledAddress ((exchangeClosed s).onWln fun w => { w with contention := 0 }) := by
    rw [contend, exchangeClosed_wln, if_neg (by simp [lineClosed, hdiscard]), if_pos (by simpa [lineClosed] using hcount)]
    rfl
  have htells : Tells (startTx s) [] [] (reported .lineJam s.wln.polledAddress s) s.brd.subjects (contend (exchangeClosed s)) := by
    have h := (exchangeClosed_tells s).onWln fun w => { w with contention := 0 }
    rw [hjams]
    refine ⟨h.queue, h.board, h.subjects, h.core, fun hfits => ⟨(h.said hfits).1, ?_⟩⟩
    rw [reportFault_diag]
    simp [reported, exchangeClosed_eq]
  refine Happens.of_exchange (u := contend (exchangeClosed s)) rfl (contentionMiss_effect hphase) hlast ?_ htells ?_
    fun t ht => ⟨?_, ?_, ht.goesOn, ht.diag.trans (htells.said (.inl rfl)).2, ht.sends⟩
  · rw [hjams]
    refine ⟨by simp [exchangeClosed_eq], ?_, ?_, ?_, ?_, ?_, fun n _ => station_exchangeClosed s n⟩
    all_goals
      rw [reportFault_wln, State.onWln_wln, exchangeClosed_wln]
      rfl
  · rw [hjams]
    exact ((exchangeClosed_only s).mono (by simp)).trans ⟨fun b hb => by cases b <;> simp [SameBlock] at hb ⊢, rfl, rfl⟩
  · rw [ht.contention, hjams]
    rfl
  · rw [ht.stations, hjams, reportFault_wln, State.onWln_wln, exchangeClosed_wln]
    rfl

/-- An exchange whose outcome is discarded leaves the records (R78). -/
theorem discarded_happens {i : Instr} (hends : EndsExchange i s) (hdiscard : s.wln.discard = true) (hlast : NotLast s.wln.polled s) :
    Happens i [.wln] s fun t => t.wln.stations = s.wln.stations ∧ t.wln.polarityCount = s.wln.polarityCount
      ∧ t.wln.inverted = s.wln.inverted ∧ t.wln.contention = s.wln.contention ∧ GoesOn s t ∧ Quiet s t := by
  have htrue : (exchangeClosed s).wln.discard = true := by rw [exchangeClosed_wln]; exact hdiscard
  have hanswer : ∀ a, endExchange a (startTx s) = afterExchange (exchangeClosed s) := fun a => by
    have htaken : takeAnswer a (exchangeClosed s) = exchangeClosed s := if_pos htrue
    exact congrArg afterExchange htaken
  have hcontend : contend (exchangeClosed s) = exchangeClosed s := if_pos htrue
  have heffect : ∃ e, exec i s = command e s ∧ e (startTx s) = afterExchange (exchangeClosed s) := by
    rcases hends with ⟨rfl, hphase⟩ | ⟨rfl, hphase⟩ | ⟨rfl, hphase⟩
    · exact ⟨contentionMissed, rfl, (contentionMiss_effect hphase).trans (congrArg afterExchange hcontend)⟩
    · exact ⟨replyTimedOut, rfl, (replyTimeout_effect hphase).trans (hanswer _)⟩
    · exact ⟨replyGap, rfl, (replyGap_effect hphase).trans (hanswer _)⟩
  obtain ⟨e, hexec, heffect⟩ := heffect
  refine Happens.of_exchange hexec heffect hlast ?_ (exchangeClosed_tells s) (exchangeClosed_only s)
    fun t ht => ⟨?_, ?_, ?_, ?_, ht.goesOn, ht.sends⟩
  · refine ⟨by simp [exchangeClosed_eq], ?_, ?_, ?_, ?_, ?_, fun n _ => station_exchangeClosed s n⟩
    all_goals
      rw [exchangeClosed_wln]
      rfl
  · rw [ht.stations, exchangeClosed_wln]
    rfl
  · rw [ht.polarityCount, exchangeClosed_wln]
    rfl
  · rw [ht.inverted, exchangeClosed_wln]
    rfl
  · rw [ht.contention, exchangeClosed_wln]
    rfl

theorem polarityNotices_miss (s : State) : polarityNotices .miss s = [] := if_neg fun h => nomatch h.2.1

/-- Settles O53: the tests of a reply, each outcome of a slot's exchange, and the outcome that is discarded. -/
theorem anOutcomeIsAppliedToThePolledSlot : Obligations.AnOutcomeIsAppliedToThePolledSlot := by
  refine ⟨fun address speed direction r lead a code check => judgeReply_tests address speed direction r lead a code check,
    fun s k x hpolled hk hslot hdiscard hlast => ⟨fun speed direction status code hphase haddress hbyte hspeed hdirection hstatus hreply => ?_,
      fun n collects hwindow hlost => ⟨fun hphase => ?_, fun hphase hbad => ?_⟩, fun hphase hkept => ?_,
      fun answer hphase hkept hjudge hanswer => ?_, contention_raised hdiscard hlast, contention_jams hdiscard hlast⟩,
    fun s i => discarded_happens⟩
  · have hjudge : judgeReply s.wln.polledAddress s.wln.reply = .good speed direction status := by
      rw [haddress, hreply]
      exact judgeReply_good hbyte hspeed hdirection hstatus
    obtain ⟨t, hexec, honly, hrecord, hother, hpolarity, hdiag, hgoes, hsends⟩ := good_happens hpolled hdiscard hlast hk hslot
      (i := .replyGapExpiry) rfl ((replyGap_effect hphase).trans (by rw [hjudge]))
    have hgood : polarityAfter (.good 0 0 .ok) s = (if s.prof.profile.hill.autoSwap = 1 then 0 else s.wln.polarityCount, s.wln.inverted) := by
      unfold polarityAfter
      split <;> rfl
    obtain ⟨hcount, hinverted⟩ := Prod.mk.inj (hpolarity.trans hgood)
    refine ⟨t, hexec, honly, by rw [hrecord], by rw [hrecord]; rfl, by rw [hrecord]; rfl, ?_, by rw [hrecord]; rfl, by rw [hrecord]; rfl,
      hother, hinverted, hcount, hdiag, hgoes, hsends⟩
    rw [hrecord]
    simp [heard, readingOf, hslot]
  · obtain ⟨t, hexec, honly, hends, hcst⟩ := failure_lost hpolled hdiscard hlast hk hslot (applyAnswer_miss k _) missed_fails
      (i := .replyTimeout) rfl (replyTimeout_effect hphase) hwindow hlost
    have hsends := hends.sends
    rw [polarityNotices_miss, List.append_nil] at hsends
    exact ⟨t, hexec, honly, hends.failed, hcst, hends.window, hends.diag, hends.goesOn, hsends⟩
  · have hmiss := judgeReply_ne_miss s.wln.polledAddress s.wln.reply
    obtain ⟨t, hexec, honly, hends, hcst⟩ := failure_lost hpolled hdiscard hlast hk hslot (applyAnswer_bad hbad hmiss k _)
      garbled_fails (i := .replyGapExpiry) rfl (replyGap_effect hphase) hwindow hlost
    exact ⟨t, hexec, honly, hends.failed, hcst, hends.window, hends.diag, hends.goesOn, hends.sends⟩
  · obtain ⟨t, hexec, honly, hends⟩ := failure_kept hpolled hdiscard hlast hk hslot (applyAnswer_miss k _) missed_fails
      (i := .replyTimeout) rfl (replyTimeout_effect hphase) hkept
    have hsends := hends.sends
    rw [polarityNotices_miss, List.append_nil] at hsends
    have hpolarity : polarityAfter .miss s = (s.wln.polarityCount, s.wln.inverted) := ite_self _
    obtain ⟨hcount, hinverted⟩ := Prod.mk.inj (hends.polarity.trans hpolarity)
    exact ⟨t, hexec, honly, hends.failed, by rw [hends.record]; rfl, by rw [hends.record]; rfl, hcount, hinverted, hends.diag,
      hends.goesOn, hsends⟩
  · have hbad : ∀ speed direction status, answer ≠ .good speed direction status := fun _ _ _ h => by
      rw [h] at hanswer
      simp at hanswer
    have hmiss : answer ≠ .miss := hjudge ▸ judgeReply_ne_miss _ _
    obtain ⟨t, hexec, honly, hends⟩ := failure_kept hpolled hdiscard hlast hk hslot (applyAnswer_bad hbad hmiss k _) garbled_fails
      (i := .replyGapExpiry) rfl ((replyGap_effect hphase).trans (by rw [hjudge])) hkept
    have hpolarity := hends.polarity
    refine ⟨t, hexec, honly, hends.failed, by rw [hends.record]; rfl, by rw [hends.record]; rfl, hends.diag, hends.goesOn,
      fun hoff => ?_, fun hon hother => ?_, fun hon hmarked hfew => ?_, fun hon hmarked hthird => ?_, hends.sends⟩
    · rw [polarityAfter, if_neg hoff] at hpolarity
      exact Prod.mk.inj hpolarity
    · rw [polarityAfter, if_pos hon] at hpolarity
      rcases hanswer with h | h | h
      · exact absurd h hother
      · rw [h] at hpolarity
        exact Prod.mk.inj hpolarity
      · rw [h] at hpolarity
        exact Prod.mk.inj hpolarity
    · rw [polarityAfter, if_pos hon, hmarked] at hpolarity
      simpa [polarityMoved, Nat.not_le.mpr hfew] using hpolarity
    · rw [polarityAfter, if_pos hon, hmarked] at hpolarity
      simpa [polarityMoved, hthird] using hpolarity

end Sys2Proof

/-! PROOFS. The cycle's moments between exchanges, the cycle end after the last exchange, and the gating mean on the board (R79, R80,
R96 to R98). -/

namespace Sys2Proof

open Machine

variable {s t u v w : State} {k n number : Nat}

/-! ## The beginning of a cycle, in another state -/

theorem dueIn_congr (hprof : u.prof = s.prof) (hstations : u.wln.stations = s.wln.stations) :
    DueIn number k u ↔ DueIn number k s := by
  unfold DueIn
  rw [canBePolled_congr hprof (by rw [station_congr hstations]), station_congr hstations]

theorem CycleBegins.congr (h : CycleBegins u w) (hprof : u.prof = s.prof) (hstations : u.wln.stations = s.wln.stations)
    (hcycle : u.wln.cycle = s.wln.cycle) (hwln : t.wln = w.wln) : CycleBegins s t := by
  obtain ⟨hpoll, hnumber, htimer, hphase, hpolled, hleast, hrecords⟩ := h
  rw [hcycle] at hnumber hpolled hleast
  unfold CycleBegins
  rw [hwln]
  refine ⟨hpoll, hnumber, by rw [← hprof]; exact htimer, hphase, (dueIn_congr hprof hstations).mp hpolled,
    fun k hk => hleast k ((dueIn_congr hprof hstations).mpr hk), fun k => ?_⟩
  rw [station_congr (s := w) (by rw [hwln]), hrecords, station_congr hstations]

theorem OnlyOffline.congr (h : OnlyOffline s) (hprof : u.prof = s.prof) (hstations : u.wln.stations = s.wln.stations)
    (hcycle : u.wln.cycle = s.wln.cycle) : OnlyOffline u := by
  obtain ⟨hany, hoff, hnumber⟩ := h
  have hstation : station u = station s := funext (station_congr hstations)
  refine ⟨(anyPollable_congr hprof fun k => by rw [hstation]).trans hany, fun k hk => ?_, by rw [hcycle]; exact hnumber⟩
  rw [canBePolled_congr hprof (by rw [hstation])] at hk
  rw [hstation]
  exact hoff k hk

theorem EmptyCycle.congr (h : EmptyCycle u w) (hphase : u.wln.phase = s.wln.phase) (hcycle : u.wln.cycle = s.wln.cycle)
    (hprof : u.prof = s.prof) (hclock : u.link.clock = s.link.clock) (hwln : t.wln = w.wln) : EmptyCycle s t := by
  unfold EmptyCycle at h ⊢
  rw [hwln, ← hphase, ← hcycle, ← hprof, ← hclock]
  exact h

/-! ## The cycle period (R79, R80) -/

/-- The state in which the end of the cycle period is judged. -/
def periodOver (s : State) : State := (startTx s).onWln fun w => { w with cycleTimer := none }

theorem periodOver_wln (s : State) : (periodOver s).wln = { s.wln with cycleTimer := none } := by simp [periodOver]

theorem periodOver_only (s : State) : OnlyChanges [.brd, .link, .wln] (startTx s) (periodOver s) :=
  ⟨fun b hb => by cases b <;> simp [SameBlock, periodOver] at hb ⊢, rfl, rfl⟩

section Period

variable (htimer : s.wln.cycleTimer = some k)

include htimer

theorem cyclePeriod_between (hpoll : s.wln.poll = .between) : cyclePeriodExpired (startTx s) = cycleMoment (periodOver s) := by
  simp [cyclePeriodExpired, htimer, hpoll, periodOver]

theorem cyclePeriod_inCycle (hpoll : s.wln.poll = .inCycle) : cyclePeriodExpired (startTx s) = periodOver s := by
  simp [cyclePeriodExpired, htimer, hpoll, periodOver]

theorem cyclePeriod_begins (hpoll : s.wln.poll = .between) (hdue : DueIn ((s.wln.cycle + 1) % 65536) n s) :
    Happens .cyclePeriodExpiry [.wln] s fun t => CycleBegins s t ∧ Quiet s t := by
  have hprof : (periodOver s).prof = s.prof := by simp [periodOver]
  have hstations : (periodOver s).wln.stations = s.wln.stations := by rw [periodOver_wln]
  have hcycle : (periodOver s).wln.cycle = s.wln.cycle := by rw [periodOver_wln]
  obtain ⟨w, hw, hbegins, -⟩ := nextCycle_of_due (s := periodOver s) (k := n)
    (by rw [hcycle]; exact (dueIn_congr hprof hstations).mpr hdue)
  have hany : anyPollable (periodOver s) = true := by
    obtain ⟨hn, hcan, -⟩ := (dueIn_congr hprof hstations).mpr hdue
    exact (anyPollable_iff _).mpr ⟨n, hn, hcan⟩
  have heffect : cyclePeriodExpired (startTx s) = (periodOver s).onWln fun _ => w :=
    (cyclePeriod_between htimer hpoll).trans ((if_pos hany).trans hw)
  refine Happens.of_block rfl heffect ((periodOver_only s).trans ⟨fun b hb => ?_, rfl, rfl⟩) fun t ht => ⟨?_, ht.quiet rfl ?_⟩
  · cases b <;> simp [SameBlock] at hb ⊢
  · exact hbegins.congr hprof hstations hcycle ht.wln
  · simp [periodOver]

theorem cyclePeriod_stops (hpoll : s.wln.poll = .between) (hnone : anyPollable s = false) :
    Happens .cyclePeriodExpiry [.wln] s fun t => t.wln = { s.wln with poll := .stopped, cycleTimer := none } ∧ Quiet s t := by
  have hany : ¬anyPollable (periodOver s) = true := by
    rw [anyPollable_congr (s := s) (by simp [periodOver]) fun k => by rw [station_congr (s := s) (by rw [periodOver_wln])], hnone]
    decide
  have heffect : cyclePeriodExpired (startTx s) = (periodOver s).onWln fun w => { w with poll := .stopped, cycleTimer := none } :=
    (cyclePeriod_between htimer hpoll).trans (if_neg hany)
  refine Happens.of_block rfl heffect ((periodOver_only s).trans ⟨fun b hb => ?_, rfl, rfl⟩) fun t ht => ⟨?_, ht.quiet rfl ?_⟩
  · cases b <;> simp [SameBlock] at hb ⊢
  · rw [ht.wln, State.onWln_wln, periodOver_wln]
  · simp [periodOver]

theorem cyclePeriod_empty (hpoll : s.wln.poll = .between) (hoff : OnlyOffline s) :
    Happens .cyclePeriodExpiry [.wln, .stc, .diag] s (EmptyCycle s) := by
  have hprof : (periodOver s).prof = s.prof := by simp [periodOver]
  have hcycle : (periodOver s).wln.cycle = s.wln.cycle := by rw [periodOver_wln]
  have hoff' : OnlyOffline (periodOver s) := hoff.congr hprof (by rw [periodOver_wln]) hcycle
  obtain ⟨hempty, -, honly, -⟩ := nextCycle_of_onlyOffline hoff'
  have heffect : cyclePeriodExpired (startTx s) = nextCycle (periodOver s) :=
    (cyclePeriod_between htimer hpoll).trans (if_pos hoff'.1)
  exact Happens.of_block rfl heffect (((periodOver_only s).mono (by simp)).trans (honly.mono (by simp))) fun t ht =>
    hempty.congr (by rw [periodOver_wln]) hcycle hprof (by simp [periodOver]) ht.wln

end Period

/-! ## The gating mean on the board (R97, R98) -/

theorem Machine.Tells.windChange {ks : List Key} {ns : List NoticeBody} {d : Diag} {sub : Subjects} (h : Tells v ks ns d sub w) :
    Tells v (ks ++ if w.wln.windHold = none then [key .wind] else []) ns d sub (Machine.windChange w) := by
  cases hhold : w.wln.windHold with
  | none =>
    rw [windChange_enqueues hhold]
    exact (h.onWln _).enqueue _
  | some k =>
    rw [windChange_hold (by simp [hhold]), if_neg (by simp), List.append_nil]
    exact h.onWln _

/-- A command of the wind line whose effect is a board change. -/
theorem windChange_happens {i : Instr} {e : State → State} (hexec : exec i s = command e s)
    (heffect : e (startTx s) = windChange w) (honly : OnlyChanges [.brd, .link, .wln] (startTx s) w)
    (htells : Tells (startTx s) [] [] s.diag s.brd.subjects w) :
    (w.wln.windHold = none → Happens i [.wln, .diag] s fun t => t.wln = { w.wln with windHold := some 1000 }
        ∧ LinkKept s t ∧ Boards [key .wind] s t ∧ (Room 1 s → t.diag = s.diag ∧ Sends [] s t))
      ∧ (w.wln.windHold.isSome = true → Happens i [.wln] s fun t => t.wln = { w.wln with windDeferred := true } ∧ Quiet s t) := by
  have hchange := htells.windChange
  refine ⟨fun hnone => ?_, fun hsome => ?_⟩
  · rw [if_pos hnone] at hchange
    refine Happens.of_block hexec heffect ((honly.mono (by simp)).trans ⟨fun b hb => ?_, by simp, by simp⟩) fun t ht => ?_
    · cases b <;> simp [SameBlock] at hb ⊢
    · obtain ⟨hkept, -, hboards, hsaid⟩ := told ht hchange (by simp)
      exact ⟨ht.wln.trans ((windChange_wln w).trans (if_pos hnone)), hkept, hboards,
        fun hroom => hsaid (Room.fits hroom (by simp) (by simp))⟩
  · have hhold : w.wln.windHold ≠ none := Option.isSome_iff_ne_none.mp hsome
    rw [if_neg hhold] at hchange
    refine Happens.of_block hexec heffect (honly.trans ⟨fun b hb => ?_, by simp, by simp⟩) fun t ht => ?_
    · rw [windChange_hold hsome]
      cases b <;> simp [SameBlock] at hb ⊢
    · obtain ⟨hkept, hsub, hboards, hsaid⟩ := told ht hchange (by simp)
      exact ⟨ht.wln.trans ((windChange_wln w).trans (if_neg hhold)), hkept, hboards, hsub, (hsaid (.inl rfl)).2⟩

/-- WLN in the state that a command was given, changed and otherwise the same. -/
theorem Machine.Tells.ofWln (f : Wln → Wln) (s : State) :
    Tells (startTx s) [] [] s.diag s.brd.subjects ((startTx s).onWln f) := by
  have h := (Tells.refl (startTx s)).onWln f
  rwa [startTx_diag, startTx_brd] at h

theorem onWln_only (f : Wln → Wln) (s : State) : OnlyChanges [.brd, .link, .wln] s (s.onWln f) :=
  ⟨fun b hb => by cases b <;> simp [SameBlock] at hb ⊢, rfl, rfl⟩

/-- A command that changes WLN alone. -/
theorem Happens.of_wln {i : Instr} {e : State → State} {f : Wln → Wln} {P : State → Prop} (hexec : exec i s = command e s)
    (heffect : e (startTx s) = (startTx s).onWln f) (hP : ∀ t, t.wln = f s.wln → Quiet s t → P t) : Happens i [.wln] s P :=
  Happens.of_block hexec heffect (onWln_only f _) fun t ht =>
    hP t (ht.wln.trans (by simp)) (ht.quiet rfl (by simp))

section Mean

variable {x : Int} (hvalue : s.wln.gating.value = some x)

include hvalue

theorem gatingStale_taken (htaken : s.wln.gating.staleTaken = false) (hold : s.prof.profile.hill.freshness < s.wln.gating.age) :
    gatingStale (startTx s) =
      windChange ((startTx s).onWln fun w => { w with gating := staleGating s.prof.profile.hill.freshness w.gating }) := by
  simp [gatingStale, hvalue, htaken, Nat.not_le.mpr hold]

end Mean

theorem gatingStale_again (htaken : s.wln.gating.staleTaken = true) : Happens .gatingMeanStale [.wln] s fun t =>
    t.wln = { s.wln with gating := { s.wln.gating with staleQueued := t.wln.gating.staleQueued } } ∧ Quiet s t := by
  by_cases hover : s.wln.gating.staleQueued = true ∧ s.wln.gating.age ≤ s.prof.profile.hill.freshness
  · refine Happens.of_wln (e := gatingStale) (f := fun w => { w with gating := { w.gating with staleQueued := false } }) rfl ?_
      fun t ht hquiet => ⟨?_, hquiet⟩
    · simp [gatingStale, hover]
    · rw [ht]
  · refine Happens.of_wln (e := gatingStale) (f := id) rfl ?_ fun t ht hquiet => ⟨?_, hquiet⟩
    · unfold gatingStale
      rw [startTx_wln, startTx_prof, if_neg hover, if_neg (by simp [htaken])]
      rfl
    · rw [ht]
      rfl

theorem windDefer_again (hhold : s.wln.windHold = some k) (hdeferred : s.wln.windDeferred = true) :
    windDeferExpired (startTx s) = windChange ((startTx s).onWln fun w => { w with windHold := none, windDeferred := false }) := by
  simp [windDeferExpired, hhold, hdeferred]
  rfl

/-! ## The cycle end after the last exchange -/

theorem contributing_of_bad (h : (station s k).good = false) : contributing s k = none := by
  unfold contributing
  cases slot? s k with
  | none => rfl
  | some x => cases hr : (station s k).reading <;> simp [hr, h]

theorem contributors_of_other (hprof : u.prof = s.prof) (hother : ∀ m, m ≠ n → station u m = station s m)
    (hbad : (station s n).good = false) (hbad' : (station u n).good = false) : contributors u = contributors s := by
  have hone : contributing u = contributing s := by
    funext m
    by_cases hm : m = n
    · rw [hm, contributing_of_bad hbad, contributing_of_bad hbad']
    · have hfresh : readingFresh u = readingFresh s := by
        funext r
        unfold readingFresh
        rw [hprof]
      unfold contributing
      rw [slot_congr hprof, hother m hm, hfresh]
  unfold contributors
  rw [hone]

theorem failedState_ne_disabled {y : Station} (h : y.state ≠ .disabled) : failedState y ≠ .disabled := by
  cases hstate : y.state with
  | unknown | online => by_cases hm : y.misses = 2 <;> simp [failedState, hstate, hm]
  | suspect => by_cases hm : y.misses = 5 <;> simp [failedState, hstate, hm]
  | offline => simp [failedState, hstate]
  | disabled => exact absurd hstate h

section LastExchange

variable (hphase : s.wln.phase = .replyWait) (hpolled : s.wln.polled = n) (hdiscard : s.wln.discard = false)
  (htest : s.wln.test = .idle) (hnext : s.wln.nextSlot = n + 1) (hdue : nextDue s = none) (hcan : canBePolled s n = true)
  (hn : n < 8) (hlen : s.wln.stations.length = 8) (hbad : (station s n).good = false) (htimer : s.wln.cycleTimer = some k)

/-- The state after a miss, before the cycle goes on. -/
def afterMiss (s : State) : State := movePolarity .miss (applyAnswer s.wln.polled .miss (exchangeClosed s))

theorem afterMiss_eq (s : State) : afterMiss s = failed s.wln.polled missed .windMiss (exchangeClosed s) := by
  rw [afterMiss, applyAnswer_miss]
  exact ite_self _

include hpolled hlen hn in
theorem station_afterMiss : station (afterMiss s) n = { missed (station s n) with state := failedState (missed (station s n)) } := by
  rw [afterMiss_eq, hpolled, station_failed_same (by rw [exchangeClosed_wln]; exact hlen ▸ hn), station_exchangeClosed]

include hphase hdiscard in
theorem replyTimeout_afterMiss : replyTimedOut (startTx s) = afterExchange (afterMiss s) := by
  have hfalse : (exchangeClosed s).wln.discard = false := by rw [exchangeClosed_wln]; exact hdiscard
  have hslot : (exchangeClosed s).wln.polled = s.wln.polled := by rw [exchangeClosed_wln]; rfl
  have htaken : takeAnswer .miss (exchangeClosed s) = afterMiss s := by
    rw [takeAnswer, hfalse, hslot]
    rfl
  exact (replyTimeout_effect hphase).trans (congrArg afterExchange htaken)

include hphase hpolled hdiscard htest hnext hdue hcan hn hlen hbad htimer

theorem lastExchange_ends : Happens .replyTimeout [.cst, .stc, .gate, .wln, .diag] s fun t =>
    t.wln.poll = .between ∧ t.wln.phase = .none ∧ t.wln.cycle = s.wln.cycle ∧ t.wln.cycleTimer = s.wln.cycleTimer
      ∧ (station t n).misses = min 255 ((station s n).misses + 1)
      ∧ t.wln.gating.value = truncatedMean ((gatingReadings s).map Reading.t)
      ∧ t.wln.gating.time = some s.link.clock ∧ t.wln.gating.age = 0
      ∧ t.wln.scoringMean = truncatedMean ((scoringReadings s).map Reading.t)
      ∧ t.wln.nGating = (gatingReadings s).length ∧ t.wln.nScoring = (scoringReadings s).length := by
  have hclosed : Closed n s (afterMiss s) := hpolled ▸ .of_answer s.wln.polled .miss s
  have hstation := station_afterMiss hpolled hn hlen
  obtain ⟨hslot, hstate⟩ := (canBePolled_iff s n).mp hcan
  have hany : anyPollable (afterMiss s) = true := by
    refine (anyPollable_iff _).mpr ⟨n, hn, (canBePolled_iff _ n).mpr ⟨by rw [slot_congr hclosed.prof]; exact hslot, ?_⟩⟩
    rw [hstation]
    exact failedState_ne_disabled hstate
  have hcontributors : contributors (afterMiss s) = contributors s :=
    contributors_of_other hclosed.prof hclosed.other hbad (by rw [hstation]; exact hbad)
  obtain ⟨hgating, hscoring⟩ := readings_congr hcontributors
  obtain ⟨l, hwln⟩ := failed_stations s.wln.polled missed .windMiss (exchangeClosed s)
  rw [← afterMiss_eq, exchangeClosed_wln] at hwln
  have hclock : (afterMiss s).link.clock = s.link.clock := by
    have hcore : (afterMiss s).link.core = (exchangeClosed s).link.core := by simp [afterMiss]
    have hclock : (afterMiss s).link.core.clock = (exchangeClosed s).link.core.clock := by rw [hcore]
    exact hclock.trans (by simp [exchangeClosed_eq, Link.core])
  obtain ⟨window, hold, deferred, hends, hend⟩ := runSlots_ends ((hclosed.nextDue hnext).trans hdue) hany
  have hkept : (afterMiss s).wln.cycleTimer = s.wln.cycleTimer := by
    rw [hwln]
    rfl
  have hmeans : (storeMeans (afterMiss s)).wln = { (afterMiss s).wln with
      gating := newGating s.link.clock (afterMiss s).wln.gating.staleQueued (gatingReadings s)
      scoringMean := truncatedMean ((scoringReadings s).map Reading.t)
      nGating := (gatingReadings s).length, nScoring := (scoringReadings s).length } := by
    rw [← hgating, ← hscoring, ← hclock]
    rfl
  rw [hmeans] at hend
  have htimer' : (runSlots (afterMiss s)).wln.cycleTimer = some k := by
    rw [hend]
    exact hkept.trans htimer
  have hruns : (runSlots (afterMiss s)).wln.cycleTimer ≠ none := by rw [htimer']; exact fun h => nomatch h
  have hstays : followOn (runSlots (afterMiss s)) = runSlots (afterMiss s) := if_neg fun hc => hruns hc.2
  have hnot : (afterMiss s).wln.test ≠ .waitingExchange := by rw [hclosed.test, htest]; decide
  have heffect : replyTimedOut (startTx s) = runSlots (afterMiss s) :=
    (replyTimeout_afterMiss hphase hdiscard).trans ((if_neg hnot).trans hstays)
  have honly : OnlyChanges [.brd, .link, .cst, .stc, .gate, .wln, .diag] (startTx s) (runSlots (afterMiss s)) := by
    have hmiss : OnlyChanges [.brd, .link, .cst, .stc, .gate, .wln, .diag] (startTx s) (afterMiss s) := by
      rw [afterMiss_eq]
      exact ((exchangeClosed_only s).mono (by simp)).trans ((failed_only _ _ _ _).mono (by simp))
    refine hmiss.trans ⟨fun b hb => ?_, by simp, by simp⟩
    cases b <;> simp [SameBlock] at hb ⊢
  refine Happens.of_block rfl heffect honly fun t ht => ?_
  have htwln : t.wln = (runSlots (afterMiss s)).wln := ht.wln
  have htstation : station t n = station (afterMiss s) n := station_congr (by rw [htwln, hend]) n
  rw [htstation, hstation, htwln, hend]
  refine ⟨rfl, ?_, ?_, ?_, rfl, rfl, rfl, rfl, rfl, rfl, rfl⟩
  · exact hclosed.phase
  · exact hclosed.cycle
  · exact hkept

end LastExchange

/-- Settles O56: the moments of the cycle, the slots that are due, the gating mean, and the cycle ends. -/
theorem cyclesAndTheGatingMean : Obligations.CyclesAndTheGatingMean := by
  refine fun s k => ⟨fun n htimer hpoll hdue => cyclePeriod_begins htimer hpoll hdue, ⟨canBePolled_iff s, anyPollable_iff s, due_iff s,
    nextDue_iff s⟩, fun htimer hpoll hnone => cyclePeriod_stops htimer hpoll hnone, fun htimer hpoll => ?_,
    fun v hvalue htaken hold => ?_, fun hhold hdeferred => ?_, fun hhold hdeferred => ?_,
    fun _ _ htaken => gatingStale_again htaken, cycleEndWork_does s,
    fun htimer hpoll hoff => cyclePeriod_empty htimer hpoll hoff,
    fun n hphase hpolled hdiscard htest hnext hdue hcan hn hlen hbad htimer =>
      lastExchange_ends hphase hpolled hdiscard htest hnext hdue hcan hn hlen hbad htimer⟩
  · exact Happens.of_wln (e := cyclePeriodExpired) rfl (cyclePeriod_inCycle htimer hpoll) fun t ht hquiet => ⟨ht, hquiet⟩
  · obtain ⟨hfree, hheld⟩ := windChange_happens (e := gatingStale) (i := .gatingMeanStale) rfl
      (gatingStale_taken hvalue htaken hold) (onWln_only _ _) (.ofWln _ s)
    rw [State.onWln_wln, startTx_wln] at hfree hheld
    refine ⟨fun hnone => ?_, fun hsome => ?_⟩
    · obtain ⟨t, hexec, honly, hwln, hkept, hboards, hroom⟩ := hfree hnone
      exact ⟨t, hexec, honly, by rw [hwln], by rw [hwln]; exact hvalue, by rw [hwln]; rfl, hkept, hboards, hroom⟩
    · obtain ⟨t, hexec, honly, hwln, hquiet⟩ := hheld hsome
      exact ⟨t, hexec, honly, by rw [hwln], by rw [hwln], by rw [hwln]; exact hvalue, hquiet⟩
  · have hchange := windChange_happens (e := windDeferExpired) (i := .windDeferExpiry) rfl
      (windDefer_again hhold hdeferred) (onWln_only _ _) (.ofWln _ s)
    obtain ⟨t, hexec, honly, hwln, hkept, hboards, hroom⟩ := hchange.1 rfl
    exact ⟨t, hexec, honly, hwln.trans (by simp), hkept, hboards, hroom⟩
  · refine Happens.of_wln (e := windDeferExpired) (f := fun w => { w with windHold := none }) rfl ?_ fun t ht hquiet => ⟨ht, hquiet⟩
    simp [windDeferExpired, hhold, hdeferred]

end Sys2Proof

/-! PROOFS. An exchange up to its reply, and the characters of the wind line (R73 to R76, R89). -/

namespace Sys2Proof

open Machine

variable {s t u v : State} {n : Nat} {x : RxChar} {i : Instr} {P : State → Prop}

/-! ## What a command is given -/

/-- Before its effect a command changes LINK alone. -/
theorem startTx_onLink (s : State) : ∃ g, startTx s = s.onLink g := by
  refine ⟨fun _ => (startTx s).link, ?_⟩
  unfold startTx
  repeat' split
  all_goals rfl

theorem startTx_onWln (f : Wln → Wln) (s : State) : startTx (s.onWln f) = (startTx s).onWln f := by
  cases htx : s.link.tx with
  | idle =>
    cases hreply : s.link.replyWaiting with
    | some r => simp only [startTx, State.onWln_link, htx, hreply]; rfl
    | none =>
      cases hnotices : s.link.notices with
      | nil => simp only [startTx, State.onWln_link, htx, hreply, hnotices]
      | cons n rest =>
        cases hbrk : s.link.brk <;> simp only [startTx, State.onWln_link, htx, hreply, hnotices, hbrk] <;> rfl
  | brk | reply | notice => simp only [startTx, State.onWln_link, htx]

/-- The carrier in the state that a command was given, with WLN and FLD changed. -/
theorem carrier_startTx (f : Fld → Fld) (g : Wln → Wln) (s : State) :
    carrier (((startTx s).onFld f).onWln g) = carrier { s with fld := f s.fld, wln := g s.wln } := by
  obtain ⟨l, hl⟩ := startTx_onLink s
  rw [hl]
  rfl

theorem sensedFn_startTx (f : Fld → Fld) (fn : LineFunction) (s : State) :
    sensedFn ((startTx s).onFld f) fn = sensedFn { s with fld := f s.fld } fn := by
  obtain ⟨l, hl⟩ := startTx_onLink s
  rw [hl]
  rfl

theorem carrierLine_startTx (s : State) : carrierLine (startTx s) = carrierLine s := by
  obtain ⟨l, hl⟩ := startTx_onLink s
  rw [hl]
  rfl

/-- A command that changes FLD and WLN alone. -/
theorem Happens.of_fld_wln {e : State → State} {f : Fld → Fld} {g : Wln → Wln} (hexec : exec i s = command e s)
    (heffect : e (startTx s) = ((startTx s).onFld f).onWln g) (hP : ∀ t, t.fld = f s.fld → t.wln = g s.wln → Quiet s t → P t) :
    Happens i [.fld, .wln] s P :=
  Happens.of_block hexec heffect ⟨fun b hb => by cases b <;> simp [SameBlock] at hb ⊢, rfl, rfl⟩ fun t ht =>
    hP t (ht.fld.trans (by simp)) (ht.wln.trans (by simp)) (ht.quiet rfl (by simp))

/-- A command that changes FLD alone. -/
theorem Happens.of_fld {e : State → State} {f : Fld → Fld} (hexec : exec i s = command e s)
    (heffect : e (startTx s) = (startTx s).onFld f) (hP : ∀ t, t.fld = f s.fld → Quiet s t → P t) :
    Happens i [.fld] s P :=
  Happens.of_block hexec heffect ⟨fun b hb => by cases b <;> simp [SameBlock] at hb ⊢, rfl, rfl⟩ fun t ht =>
    hP t (ht.fld.trans (by simp)) (ht.quiet rfl (by simp))

/-- A command that changes nothing. -/
theorem Happens.of_nothing {e : State → State} (hexec : exec i s = command e s) (heffect : e (startTx s) = startTx s) :
    Happens i [] s (Quiet s) :=
  Happens.of_block hexec heffect (.refl _ _) fun _ ht => ht.quiet rfl (by simp)

/-- A line's outside level in FLD. -/
def withOutside (n : Nat) (level : Bool) (f : Fld) : Fld := { f with outside := setLevel f.outside n level }

/-! ## The carrier goes, and the poll (R74, R75) -/

/-- WLN as an exchange goes on to TURNAROUND. -/
def turnedAround (h : HillSection) (w : Wln) : Wln :=
  { w with phase := .turnaround, carrierTimer := none, txen := !w.txenMoved, turnTimer := some h.turnaround }

theorem carrierClear_waiting (hphase : s.wln.phase = .carrierWait) (hline : s.wln.cdLine = some n) :
    carrierCleared (startTx s) = ((startTx s).onFld (withOutside n false)).onWln (turnedAround s.prof.profile.hill) := by
  have hcarrier : carrierLine (startTx s) = some n := by rw [carrierLine_startTx]; simp [carrierLine, hphase, hline]
  simp [carrierCleared, hcarrier, setOutside, hphase, enterTurnaround]
  rfl

theorem carrierClear_other (hphase : s.wln.phase ≠ .carrierWait) :
    carrierCleared (startTx s) = setOutside (carrierLine s) false (startTx s) := by
  simp only [carrierCleared, carrierLine_startTx, setOutside_wln, startTx_wln]
  split
  next h => exact absurd h hphase
  all_goals rfl

theorem turnaroundEnd_other (hphase : s.wln.phase ≠ .turnaround) : turnaroundEnded (startTx s) = startTx s := by
  unfold turnaroundEnded
  split
  next h => exact absurd (by simpa using h) hphase
  all_goals rfl

theorem pollSent_other (hphase : s.wln.phase ≠ .sending) : pollWasSent (startTx s) = startTx s := by
  unfold pollWasSent
  split
  next h => exact absurd (by simpa using h) hphase
  all_goals rfl

/-- WLN once the poll has been sent. -/
def pollOut (h : HillSection) (w : Wln) : Wln :=
  { w with txen := false, phase := .replyWait, replyTimer := some h.replyTimeout }

theorem pollSent_effect (hphase : s.wln.phase = .sending) : pollWasSent (startTx s) =
    if carrier ((startTx s).onWln (pollOut s.prof.profile.hill)) then
      (startTx s).onWln fun w => receiving [] (pollOut s.prof.profile.hill w)
    else (startTx s).onWln (pollOut s.prof.profile.hill) := by
  have hprof : (startTx s).prof = s.prof := startTx_prof s
  simp only [pollWasSent, startTx_wln, hphase, hprof]
  rfl

/-! ## The carrier comes (R76, R92) -/

theorem replyBegin_effect (s : State) : replyBegun none (startTx s) = carrierRose (startTx s) := rfl

theorem carrierRose_replyWait (hphase : s.wln.phase = .replyWait) (hline : s.wln.cdLine = some n) :
    carrierRose (startTx s) = if sensed { s with fld := withOutside n true s.fld } n then
      ((startTx s).onFld (withOutside n true)).onWln (receiving [])
    else (startTx s).onFld (withOutside n true) := by
  have hcarrier : carrierLine (startTx s) = some n := by rw [carrierLine_startTx]; simp [carrierLine, hphase, hline]
  have hthere : carrier ((startTx s).onFld (withOutside n true)) = sensed { s with fld := withOutside n true s.fld } n := by
    have h := carrier_startTx (withOutside n true) id s
    refine h.trans ?_
    simp [carrier, hline]
  rw [← hthere]
  simp only [carrierRose, hcarrier, setOutside, State.onFld_wln, startTx_wln, hphase]
  rfl

theorem carrierRose_absent (hphase : s.wln.phase = .replyWait) (hline : s.wln.cdLine = none) :
    carrierRose (startTx s) = startTx s := by
  have hcarrier : carrierLine (startTx s) = none := by rw [carrierLine_startTx]; simp [carrierLine, hphase, hline]
  have hnone : carrier (startTx s) = false := by simp [carrier, hline]
  simp only [carrierRose, hcarrier, setOutside, startTx_wln, hphase, hnone]
  exact if_neg (by decide)

theorem carrierRose_other (hphase : s.wln.phase ≠ .replyWait) (hquiet : ∀ r heard, s.wln.test ≠ .listening r heard) :
    carrierRose (startTx s) = setOutside (carrierLine s) true (startTx s) := by
  simp only [carrierRose, carrierLine_startTx, setOutside_wln, startTx_wln]

/-- WLN once the listen has noted what is there. -/
def listened (r : Nat) (heard : Bool) (w : Wln) : Wln := { w with test := .listening r heard }

theorem carrierRose_listening {r : Nat} {heard : Bool} (hphase : s.wln.phase ≠ .replyWait) (hline : carrierLine s = some n)
    (htest : s.wln.test = .listening r heard) : carrierRose (startTx s) =
      ((startTx s).onFld (withOutside n true)).onWln
        (listened r (heard || sensedFn { s with fld := withOutside n true s.fld } .windCd == some true)) := by
  have hsensed := sensedFn_startTx (withOutside n true) .windCd s
  rw [← hsensed]
  simp only [carrierRose, carrierLine_startTx, hline, setOutside, State.onFld_wln, startTx_wln, htest]
  rfl

/-! ## Characters (R73, R76, R89) -/

/-- The commands that bring the character. -/
theorem exec_character (h : i = .replyBegin (some x) ∨ i = .replyCharacter x ∨ i = .noiseByte x) (s : State) :
    exec i s = command (windCharacter x) s := by
  rcases h with rfl | rfl | rfl <;> rfl

theorem windCharacter_deaf (hphase : s.wln.phase = .turnaround ∨ s.wln.phase = .sending) (x : RxChar) :
    windCharacter x (startTx s) = startTx s := by
  rcases hphase with h | h <;> simp [windCharacter, h]

theorem windCharacter_hears (hturn : s.wln.phase ≠ .turnaround) (hsend : s.wln.phase ≠ .sending) (x : RxChar) :
    windCharacter x s = takenCharacter (polarized s.wln.inverted x) s := by
  unfold windCharacter
  split
  next h => exact absurd h hturn
  next h => exact absurd h hsend
  all_goals rfl

/-- A reply that begins with its first character, where the exchange has no WIND_CD line. -/
theorem heardCharacter_begins (hphase : s.wln.phase = .replyWait) (hline : s.wln.cdLine = none) (x : RxChar) :
    heardCharacter x s = s.onWln (receiving [x]) := by
  simp only [heardCharacter, hphase, hline]
  rfl

theorem heardCharacter_joins (hphase : s.wln.phase = .receiving) (x : RxChar) : heardCharacter x s = joinReply x s := by
  simp only [heardCharacter, hphase]

theorem heardCharacter_noise (h : s.wln.phase = .none ∨ s.wln.phase = .carrierWait ∨
    (s.wln.phase = .replyWait ∧ s.wln.cdLine.isSome = true)) (x : RxChar) : heardCharacter x s = noiseTaken s := by
  rcases h with h | h | ⟨h, hline⟩
  · simp only [heardCharacter, h]
  · simp only [heardCharacter, h]
  · simp only [heardCharacter, h, hline, if_true]

theorem noiseTaken_quiet (h : ∀ r heard, s.wln.test ≠ .listening r heard) : noiseTaken s = noise s := by
  have hnoise : ∀ r heard, (noise s).wln.test ≠ .listening r heard := fun r heard => by
    simpa [noise] using h r heard
  simp only [noiseTaken]
  split
  next r heard htest => exact absurd htest (hnoise r heard)
  all_goals rfl

/-- WLN with a noise byte more. -/
def noisy (w : Wln) : Wln := { w with noise := min 255 (w.noise + 1) }

/-- A noise byte outside the listen is counted, and that is all. -/
theorem noise_happens {e : State → State} {f : Wln → Wln} (hexec : exec i s = command e s)
    (heffect : e (startTx s) = noise ((startTx s).onWln f)) : Happens i [.wln, .diag] s (TakesNoise (f s.wln) s) := by
  have htells : Tells (startTx s) [] ([] ++ overflows .noiseByte s) (counted .noiseByte s) s.brd.subjects (noise ((startTx s).onWln f)) :=
    ((Tells.ofWln f s).onWln noisy).count (by simp) .noiseByte
  refine Happens.of_block hexec heffect ⟨fun b hb => ?_, by simp, by simp⟩ fun t ht => ?_
  · cases b <;> simp [SameBlock] at hb ⊢
  · obtain ⟨hkept, hsub, hboards, hsaid⟩ := told ht htells (by simp)
    obtain ⟨hdiag, hsends⟩ := hsaid (.inl rfl)
    refine ⟨?_, hdiag, hkept, hboards, hsub, hsends⟩
    rw [ht.wln, noise, count_wln]
    simp

/-- WLN with a character joined to the reply. -/
def replyJoined (x : RxChar) (w : Wln) : Wln := { w with reply := w.reply ++ [x], gapTimer := some 5 }

theorem joinReply_eq (x : RxChar) (s : State) : joinReply x s =
    if 32 ≤ (s.wln.reply ++ [x]).length then closeReply ((s.onWln (replyJoined x)).onWln fun w => { w with trailing := some 5 })
    else s.onWln (replyJoined x) := rfl

/-- The reply's characters by the command that brings one. -/
theorem character_effect (hphase : s.wln.phase ≠ .turnaround ∧ s.wln.phase ≠ .sending) (htrailing : s.wln.trailing = none) :
    windCharacter x (startTx s) = heardCharacter (polarized s.wln.inverted x) (startTx s) := by
  obtain ⟨hturn, hsend⟩ := hphase
  rw [windCharacter_hears (by simpa using hturn) (by simpa using hsend), startTx_wln]
  exact if_neg (by simp [htrailing])

section Character

variable (hi : i = .replyBegin (some x) ∨ i = .replyCharacter x ∨ i = .noiseByte x)

include hi

theorem character_begins (hphase : s.wln.phase = .replyWait) (hline : s.wln.cdLine = none) (htrailing : s.wln.trailing = none) :
    Happens i [.wln] s fun t => t.wln = receiving [polarized s.wln.inverted x] s.wln ∧ Quiet s t := by
  refine Happens.of_wln (exec_character hi s) ((character_effect (by simp [hphase]) htrailing).trans ?_)
    fun t ht hquiet => ⟨ht, hquiet⟩
  exact heardCharacter_begins (by simpa using hphase) (by simpa using hline) _

theorem character_joins (hphase : s.wln.phase = .receiving) (htrailing : s.wln.trailing = none) (hroom : s.wln.reply.length < 31) :
    Happens i [.wln] s fun t => t.wln = replyJoined (polarized s.wln.inverted x) s.wln ∧ Quiet s t := by
  refine Happens.of_wln (exec_character hi s) ((character_effect (by simp [hphase]) htrailing).trans ?_)
    fun t ht hquiet => ⟨ht, hquiet⟩
  rw [heardCharacter_joins (by simpa using hphase), joinReply_eq]
  refine if_neg ?_
  rw [startTx_wln, List.length_append, List.length_singleton]
  omega

/-- The 32nd character closes the reply as the gap would. -/
theorem character_closes (hphase : s.wln.phase = .receiving) (htrailing : s.wln.trailing = none) (hfull : 31 ≤ s.wln.reply.length) :
    ∃ t, exec i s = .next t ∧ exec .replyGapExpiry
      (s.onWln fun w => { replyJoined (polarized s.wln.inverted x) w with trailing := some 5 }) = .next t := by
  refine ⟨_, exec_character hi s, ?_⟩
  have hcloses : windCharacter x (startTx s) = closeReply (((startTx s).onWln (replyJoined (polarized s.wln.inverted x))).onWln
      fun w => { w with trailing := some 5 }) := by
    rw [character_effect (by simp [hphase]) htrailing, heardCharacter_joins (by simpa using hphase), joinReply_eq]
    refine if_pos ?_
    rw [startTx_wln, List.length_append, List.length_singleton]
    omega
  have hgap : replyGap (startTx (s.onWln fun w => { replyJoined (polarized s.wln.inverted x) w with trailing := some 5 })) =
      closeReply (((startTx s).onWln (replyJoined (polarized s.wln.inverted x))).onWln fun w => { w with trailing := some 5 }) := by
    rw [startTx_onWln]
    simp [replyGap, replyJoined, hphase, State.onWln]
  rw [hcloses, ← hgap]
  rfl

theorem character_noise (hquiet : ∀ r heard, s.wln.test ≠ .listening r heard) (htrailing : s.wln.trailing = none)
    (h : s.wln.phase = .none ∨ s.wln.phase = .carrierWait ∨ (s.wln.phase = .replyWait ∧ s.wln.cdLine.isSome = true)) :
    Happens i [.wln, .diag] s (TakesNoise s.wln s) := by
  refine noise_happens (f := id) (exec_character hi s) ?_
  have hhears : s.wln.phase ≠ .turnaround ∧ s.wln.phase ≠ .sending := by
    rcases h with h | h | ⟨h, -⟩ <;> simp [h]
  rw [character_effect hhears htrailing, heardCharacter_noise (by simpa using h), noiseTaken_quiet (by simpa using hquiet)]
  rfl

theorem character_trails (hquiet : ∀ r heard, s.wln.test ≠ .listening r heard) (htrailing : s.wln.trailing.isSome = true)
    (hturn : s.wln.phase ≠ .turnaround) (hsend : s.wln.phase ≠ .sending) :
    Happens i [.wln, .diag] s (TakesNoise { s.wln with trailing := some 5 } s) := by
  refine noise_happens (f := fun w => { w with trailing := some 5 }) (exec_character hi s) ?_
  rw [windCharacter_hears (by simpa using hturn) (by simpa using hsend)]
  have htaken : ∀ y, takenCharacter y (startTx s) = noiseTaken ((startTx s).onWln fun w => { w with trailing := some 5 }) := fun y =>
    if_pos (by simpa using htrailing)
  rw [htaken, noiseTaken_quiet (by simpa using hquiet)]

end Character

/-- Settles O52: the carrier, the turnaround and the poll by their phases, and the characters by the command that brings them. -/
theorem anExchangeGoesThroughItsPhases : Obligations.AnExchangeGoesThroughItsPhases := by
  intro s x
  refine ⟨fun n hphase hline => ?_, fun n hphase hline => ?_, fun hphase hline => ?_, fun hphase => ?_, fun hphase => ?_,
    fun hphase => ?_, fun hphase => ⟨fun hnone => ?_, fun hthere => ?_⟩, fun n hphase hline => ⟨fun hthere => ?_, fun hnone => ?_⟩,
    fun n hphase hline => ⟨fun hquiet => ?_, fun r heard htest => ?_⟩, fun hline hquiet => ?_, fun i hi => ⟨fun hphase => ?_,
    fun hphase hline htrailing => character_begins hi hphase hline htrailing,
    fun hphase htrailing hroom => character_joins hi hphase htrailing hroom,
    fun hphase htrailing hfull => character_closes hi hphase htrailing hfull,
    fun hquiet => ⟨fun htrailing h => character_noise hi hquiet htrailing h,
      fun htrailing hturn hsend => character_trails hi hquiet htrailing hturn hsend⟩⟩, rfl, rfl⟩
  · exact Happens.of_fld_wln rfl (carrierClear_waiting hphase hline) fun t hfld hwln hquiet => ⟨hwln, hfld, hquiet⟩
  · refine Happens.of_fld (f := withOutside n false) rfl ((carrierClear_other hphase).trans ?_) fun t hfld hquiet => ⟨hfld, hquiet⟩
    rw [hline]
    rfl
  · refine Happens.of_nothing rfl ((carrierClear_other hphase).trans ?_)
    rw [hline]
    rfl
  · refine Happens.of_wln (e := turnaroundEnded)
      (f := fun w => { w with phase := .sending, turnTimer := none, contention := 0 }) rfl ?_ fun t ht hquiet => ⟨ht, hquiet⟩
    simp [turnaroundEnded, hphase]
  · exact Happens.of_nothing rfl (turnaroundEnd_other hphase)
  · exact Happens.of_nothing rfl (pollSent_other hphase)
  · have hcarrier := carrier_startTx id (pollOut s.prof.profile.hill) s
    refine Happens.of_wln rfl ((pollSent_effect hphase).trans (if_neg ?_)) fun t ht hquiet => ⟨ht, hquiet⟩
    rw [show carrier ((startTx s).onWln (pollOut s.prof.profile.hill)) = _ from hcarrier]
    exact Bool.eq_false_iff.mp hnone
  · have hcarrier := carrier_startTx id (pollOut s.prof.profile.hill) s
    refine Happens.of_wln rfl ((pollSent_effect hphase).trans (if_pos ?_)) fun t ht hquiet => ⟨ht, hquiet⟩
    rw [show carrier ((startTx s).onWln (pollOut s.prof.profile.hill)) = _ from hcarrier]
    exact hthere
  · exact Happens.of_fld_wln (e := replyBegun none) rfl ((carrierRose_replyWait hphase hline).trans (if_pos hthere))
      fun t hfld hwln hquiet => ⟨hfld, hwln, hquiet⟩
  · exact Happens.of_fld (e := replyBegun none) rfl
      ((carrierRose_replyWait hphase hline).trans (if_neg (Bool.eq_false_iff.mp hnone))) fun t hfld hquiet => ⟨hfld, hquiet⟩
  · refine Happens.of_fld (e := replyBegun none) (f := withOutside n true) rfl ((carrierRose_other hphase hquiet).trans ?_)
      fun t hfld hquiet => ⟨hfld, hquiet⟩
    rw [hline]
    rfl
  · exact Happens.of_fld_wln (e := replyBegun none) rfl (carrierRose_listening hphase hline htest)
      fun t hfld hwln hquiet => ⟨hfld, hquiet, hwln⟩
  · by_cases hphase : s.wln.phase = .replyWait
    · exact Happens.of_nothing (e := replyBegun none) rfl (carrierRose_absent hphase (by simpa [carrierLine, hphase] using hline))
    · refine Happens.of_nothing (e := replyBegun none) rfl ((carrierRose_other hphase hquiet).trans ?_)
      rw [hline]
      rfl
  · exact Happens.of_nothing (exec_character hi s) (windCharacter_deaf hphase x)

end Sys2Proof

/-! PROOFS. LINE TEST and its measurement (R91, R92), and what polling does after it (R79, R80). -/

namespace Sys2Proof

open Machine

variable {s t u y : State} {i : Instr} {x : RxChar} {k n count : Nat} {result : TestResult} {distance : Option Nat}

/-! ## LINE TEST (R91) -/

section Request

variable (hF : Free s) (tag : Byte)

include hF

theorem lineTest_onHill (h : ¬HillClear s) : Refuses (.lineTest tag) .state s := by
  have hsome : (onHill? s).isSome = true := by
    cases ha : onHill? s with
    | none => exact absurd (HillClear.of_none ha) h
    | some a => rfl
  refine refuses_of_block hF rfl rfl (if_pos ?_)
  rw [taken_onHill]
  exact hsome

variable (hclear : HillClear s)

include hclear

theorem lineTest_busy (htest : s.wln.test ≠ .idle) : Refuses (.lineTest tag) .busy s := by
  refine refuses_of_block hF rfl rfl ?_
  simp only [serveLineTest, taken_onHill, hclear.none, taken_wln]
  cases h : s.wln.test with
  | idle => exact absurd h htest
  | waitingExchange | listening | watching => rfl

theorem lineTest_waits (htest : s.wln.test = .idle) (hphase : s.wln.phase ≠ .none) :
    Completes (.lineTest tag) .accepted .none [.wln] s fun t => t.wln = { s.wln with test := .waitingExchange } ∧ Quiet s t := by
  have hserve : serveLineTest (taken 0x52 tag s) =
      accepted ((taken 0x52 tag s).onWln fun w => { w with test := .waitingExchange }) := by
    simp only [serveLineTest, taken_onHill, hclear.none, taken_wln, htest]
    cases h : s.wln.phase with
    | none => exact absurd h hphase
    | carrierWait | turnaround | sending | replyWait | receiving => rfl
  exact Completes.of_block hF rfl rfl hserve rfl (onWln_only _ _) fun t ht => ⟨ht.wln.trans (by simp), ht.quiet rfl (by simp)⟩

theorem lineTest_begins (htest : s.wln.test = .idle) (hphase : s.wln.phase = .none) :
    Completes (.lineTest tag) .accepted .none [.wln] s fun t => (∃ heard, t.wln.test = .listening 1 heard)
      ∧ (s.wln.poll ≠ .stopped → t.wln.poll = .paused) ∧ (s.wln.poll = .stopped → t.wln.poll = .stopped)
      ∧ t.wln.stations = s.wln.stations ∧ Quiet s t := by
  have hserve : serveLineTest (taken 0x52 tag s) = accepted (beginMeasurement (taken 0x52 tag s)) := by
    simp only [serveLineTest, taken_onHill, hclear.none, taken_wln, htest, hphase]
    rfl
  refine Completes.of_block hF rfl rfl hserve rfl (onWln_only _ _) fun t ht => ?_
  rw [ht.wln, beginMeasurement, State.onWln_wln, taken_wln]
  refine ⟨⟨_, rfl⟩, fun hpoll => ?_, fun hpoll => ?_, rfl, ht.quiet rfl (by simp [beginMeasurement])⟩
  · cases h : s.wln.poll with
    | stopped => exact absurd h hpoll
    | inCycle | between | paused => rfl
  · simp [hpoll]

end Request

theorem listenEnd_watches {r : Nat} (htest : s.wln.test = .listening r false) (hcd : sensedFn s .windCd ≠ some true) :
    Happens .listenEnd [.wln] s fun t => t.wln = { s.wln with test := .watching } ∧ Quiet s t := by
  refine Happens.of_wln (e := listenEnded) (f := fun w => { w with test := .watching }) rfl ?_ fun t ht hquiet => ⟨ht, hquiet⟩
  simp [listenEnded, htest, hcd]

/-! ## The measurement's end (R92) -/

/-- WLN as a measurement's end leaves it, before polling resumes. -/
def tested (i : Instr) (result : TestResult) (distance : Option Nat) (w : Wln) : Wln :=
  { w with test := .idle, lastTest := some (result, distance),
           noise := if isCharacter i then min 255 (w.noise + 1) else w.noise,
           trailing := if isCharacter i ∧ w.trailing.isSome then some 5 else w.trailing }

/-- The notices of a measurement's end, and DIAG. -/
def testNotices (i : Instr) (result : TestResult) (distance : Option Nat) (count : Nat) (s : State) : List NoticeBody :=
  (if isCharacter i then overflows .noiseByte s else []) ++ [.lineTest result distance count]

def testDiag (i : Instr) (s : State) : Diag := if isCharacter i then counted .noiseByte s else s.diag

/-- A command has ended a measurement in `s` with a result, and polling is to resume in `y`. -/
structure Measured (i : Instr) (result : TestResult) (distance : Option Nat) (count : Nat) (s y : State) : Prop where
  exec : ∃ e, exec i s = command e s ∧ e (startTx s) = resumePolling y
  gives : TestGives i s result distance count
  wln : y.wln = tested i result distance s.wln
  prof : y.prof = s.prof
  same : ∀ b, b ∉ [.brd, .link, .wln, .diag] → SameBlock s y b
  pending : y.pending = s.pending
  freeCtr : y.freeCtr = if result = .noise then s.freeCtr + 1 else s.freeCtr
  clock : y.link.clock = s.link.clock
  tells : Tells (startTx s) [] (testNotices i result distance count s) (testDiag i s) s.brd.subjects y

/-- The end of a measurement by its pulse. -/
theorem Measured.of_pulse {e : State → State} (hexec : Machine.exec i s = command e s) (hchar : isCharacter i = false)
    (heffect : e (startTx s) = endTest result distance count (startTx s)) (hgives : TestGives i s result distance count)
    (hresult : result ≠ .noise) :
    Measured i result distance count s (notify (.lineTest result distance count)
      ((startTx s).onWln fun w => { w with test := .idle, lastTest := some (result, distance) })) := by
  refine ⟨⟨e, hexec, heffect⟩, hgives, ?_, by simp, fun b hb => ?_, by simp, by simp [hresult], ?_, ?_⟩
  · simp [tested, hchar]
  · cases b <;> simp [SameBlock] at hb ⊢
  · have hcore := queueNotice_core (.lineTest result distance count) (startTx s).link
    exact (congrArg Link.clock hcore).trans (by simp [Link.core])
  · rw [testNotices, testDiag, hchar]
    exact (Tells.ofWln _ s).notify _

/-- The end of a measurement in NOISE, in the state that the noise leaves. -/
theorem Measured.of_noise {e : State → State} {z : State} (hexec : Machine.exec i s = command e s) (heffect : e (startTx s) = endInNoise z)
    (hgives : ∀ count, count ≤ 4096 → TestGives i s .noise none count)
    (hwln : { z.wln with test := .idle, lastTest := some (.noise, none) } = tested i .noise none s.wln)
    (hsame : OnlyChanges [.brd, .link, .wln, .diag] (startTx s) z) (hclock : z.link.clock = s.link.clock)
    (htells : Tells (startTx s) [] (if isCharacter i then overflows .noiseByte s else []) (testDiag i s) s.brd.subjects z) :
    ∃ count y, Measured i .noise none count s y := by
  generalize hcount : min 4096 (Config.noiseEchoCount z.freeCtr) = count
  obtain ⟨hblocks, hfree, hpending⟩ := hsame
  refine ⟨count, notify (.lineTest .noise none count) (({ z with freeCtr := z.freeCtr + 1 } : State).onWln fun w =>
    { w with test := .idle, lastTest := some (.noise, none) }), ⟨e, hexec, ?_⟩, hgives count (by omega), hwln, ?_, fun b hb => ?_, ?_, ?_,
    ?_, ?_⟩
  · rw [heffect, endInNoise, hcount]
    rfl
  · exact (hblocks .prof (by simp)).trans (startTx_prof s)
  · have h := hblocks b hb
    cases b <;> simp [SameBlock] at hb h ⊢ <;> exact h
  · exact hpending.trans (startTx_pending s)
  · rw [if_pos rfl]
    exact congrArg (· + 1) (hfree.trans (startTx_freeCtr s))
  · have hcore := queueNotice_core (.lineTest .noise none count) z.link
    exact (congrArg Link.clock hcore :).trans hclock
  · have h := (htells.frame (u := { z with freeCtr := z.freeCtr + 1 }) rfl rfl rfl).onWln fun w =>
      { w with test := .idle, lastTest := some (.noise, none) }
    exact h.notify _

/-- A character in the listen ends it. -/
theorem noiseTaken_listening {r : Nat} {heard : Bool} (htest : s.wln.test = .listening r heard) : noiseTaken s = endInNoise (noise s) := by
  have hnoise : (noise s).wln.test = .listening r heard := by simpa [noise] using htest
  simp only [noiseTaken, hnoise]

theorem exec_isCharacter (h : isCharacter i = true) : ∃ x, exec i s = command (windCharacter x) s := by
  unfold isCharacter at h
  split at h
  · exact ⟨_, rfl⟩
  · exact ⟨_, rfl⟩
  · exact ⟨_, rfl⟩
  · cases h

/-- The timer of the characters after a closed reply, once another has come (log 23). -/
def trailed (w : Wln) : Wln := { w with trailing := if w.trailing.isSome then some 5 else w.trailing }

theorem onWln_of_same {f : Wln → Wln} (h : f s.wln = s.wln) : s.onWln f = s := by rw [State.onWln, h]

theorem character_listening {r : Nat} {heard : Bool} (htest : s.wln.test = .listening r heard) (hphase : s.wln.phase = .none) (x : RxChar) :
    windCharacter x (startTx s) = endInNoise (noise ((startTx s).onWln trailed)) := by
  rw [windCharacter_hears (by simp [hphase]) (by simp [hphase])]
  unfold takenCharacter
  cases htrailing : s.wln.trailing with
  | none =>
    have hsame : (startTx s).onWln trailed = startTx s := onWln_of_same <| by
      rw [startTx_wln, trailed, if_neg (by simp [htrailing])]
    rw [if_neg (by simp [htrailing]), heardCharacter_noise (.inl (by simpa using hphase)),
      noiseTaken_listening (r := r) (heard := heard) (by simpa using htest), hsame]
  | some k =>
    have hfive : (startTx s).onWln trailed = (startTx s).onWln fun w => { w with trailing := some 5 } := by
      rw [State.onWln, State.onWln, startTx_wln, trailed, if_pos (by rw [htrailing]; rfl)]
    rw [if_pos (by simp [htrailing]), noiseTaken_listening (r := r) (heard := heard) (by simpa using htest), hfive]

theorem testGives_noise (h : i = .listenEnd ∨ isCharacter i = true) (hcount : count ≤ 4096) : TestGives i s .noise none count := by
  rcases h with rfl | h
  · exact ⟨rfl, rfl, hcount⟩
  · unfold isCharacter at h
    split at h
    · exact ⟨rfl, rfl, hcount⟩
    · exact ⟨rfl, rfl, hcount⟩
    · exact ⟨rfl, rfl, hcount⟩
    · cases h

/-- Each command that ends a measurement ends it with a result, and then polling resumes. -/
theorem EndsTest.measured (h : EndsTest i s) : ∃ result distance count y, Measured i result distance count s y := by
  rcases h with ⟨htest, rfl | ⟨positive, n, rfl, hn⟩⟩ | ⟨r, heard, htest, ⟨rfl, hcarrier⟩ | ⟨hchar, hphase⟩⟩
  · refine ⟨.normal, none, 4096, _, .of_pulse (e := echoWindowEnded) rfl rfl ?_ ⟨rfl, rfl, rfl⟩ (by decide)⟩
    simp [echoWindowEnded, htest]
  · refine ⟨if positive then .opened else .short, some (n * s.prof.profile.hill.cableFactor / 1000), n, _,
      .of_pulse (e := echoHeard positive n) rfl rfl ?_ ⟨rfl, rfl, rfl⟩ ?_⟩
    · simp [echoHeard, htest, hn]
    · cases positive <;> decide
  · have heffect : listenEnded (startTx s) = endInNoise (startTx s) := by
      simp only [listenEnded, startTx_wln, htest, startTx_sensedFn]
      exact if_pos hcarrier
    obtain ⟨count, y, hy⟩ := Measured.of_noise (i := .listenEnd) rfl heffect (fun _ => testGives_noise (.inl rfl))
      (by simp [tested, isCharacter]) (.refl _ _) (by simp) (Tells.ofWln id s)
    exact ⟨.noise, none, count, y, hy⟩
  · obtain ⟨x, hexec⟩ := exec_isCharacter (s := s) hchar
    have htells : Tells (startTx s) [] ([] ++ overflows .noiseByte s) (counted .noiseByte s) s.brd.subjects
        (noise ((startTx s).onWln trailed)) := ((Tells.ofWln trailed s).onWln noisy).count (by simp) .noiseByte
    have hwln : (noise ((startTx s).onWln trailed)).wln = noisy (trailed s.wln) := by simp [noise, noisy]
    have hclock : (noise ((startTx s).onWln trailed)).link.clock = s.link.clock :=
      (congrArg Link.clock htells.core :).trans (by simp [Link.core])
    obtain ⟨count, y, hy⟩ := Measured.of_noise hexec (character_listening htest hphase x)
      (fun _ => testGives_noise (.inr hchar)) (by simp [hwln, tested, noisy, trailed, hchar])
      ((onWln_only trailed _).mono (by simp) |>.trans ⟨fun b hb => by cases b <;> simp [SameBlock] at hb ⊢, by simp, by simp⟩)
      hclock (by simpa [testDiag, hchar] using htells)
    exact ⟨.noise, none, count, y, hy⟩

/-! ## What polling does then (R79, R80, R92) -/

/-- Polling resumes to `u`, and the command ends. -/
theorem Measured.ends {bs : List Block} {P : Wln → List NoticeBody → State → Prop} (h : Measured i result distance count s y)
    (hresume : resumePolling y = u) (honly : OnlyChanges (.brd :: .link :: .wln :: .diag :: bs) y u)
    (hcore : u.link.core = y.link.core) (hsub : u.brd.subjects = y.brd.subjects)
    (hP : ∀ t, After s (startTx s) u t → P (tested i result distance s.wln) (testNotices i result distance count s) t) :
    TestEnds i bs s P := by
  obtain ⟨e, hexec, heffect⟩ := h.exec
  obtain ⟨hblocks, hfree, hpending⟩ := honly
  have hafter := After.of_effect s u
  have hlast : e (startTx s) = u := heffect.trans hresume
  refine ⟨settle u, result, distance, count, by rw [hexec, command, hlast], fun b hb => ?_, ?_, ?_, h.gives,
    hafter.kept (LinkKept.of_core (hcore.trans h.tells.core)), ?_, ?_⟩
  · have hu : SameBlock y u b := hblocks b hb
    have hy : SameBlock s y b := h.same b fun hmem => hb (by simp at hmem ⊢; tauto)
    have hall : SameBlock s u b := by cases b <;> exact hu.trans hy
    cases b
    case brd | link => exact absurd hb (by simp)
    case prof => exact hafter.prof.trans hall
    case fld => exact hafter.fld.trans hall
    case cst => exact hafter.cst.trans hall
    case stc => exact hafter.stc.trans hall
    case gate => exact hafter.gate.trans hall
    case wln => exact hafter.wln.trans hall
    case meas => exact hafter.meas.trans hall
    case scr => exact hafter.scr.trans hall
    case diag => exact hafter.diag.trans hall
  · rw [settle_pending, hpending, h.pending]
  · rw [settle_freeCtr, hfree, h.freeCtr]
  · rw [hafter.subjects, hsub, h.tells.subjects]
  · exact hP _ hafter

/-- Polling resumes and changes WLN alone: nothing but the measurement's own notices comes of it. -/
theorem Measured.ends_wln {w : Wln} {P : Wln → List NoticeBody → State → Prop} (h : Measured i result distance count s y)
    (hresume : resumePolling y = y.onWln fun _ => w)
    (hP : ∀ t ns, t.wln = w → TestOnlySends i ns s t → P (tested i result distance s.wln) ns t) : TestEnds i [] s P := by
  refine h.ends hresume ((onWln_only _ _).mono (by simp)) rfl rfl fun t ht => hP t _ ht.wln ?_
  obtain ⟨-, -, hboards, hsaid⟩ := told ht (h.tells.onWln fun _ => w) (by simp)
  obtain ⟨hdiag, hsends⟩ := hsaid (.inl rfl)
  exact ⟨hdiag, hboards, hsends⟩

/-! ### The states that polling resumes in -/

/-- WLN after the measurement, in the state that polling resumes in, with its poll state and cycle timer as they were. -/
theorem Measured.fields (h : Measured i result distance count s y) : y.wln.stations = s.wln.stations ∧ y.wln.cycle = s.wln.cycle
    ∧ y.wln.poll = s.wln.poll ∧ y.wln.test = .idle ∧ y.wln.cycleTimer = s.wln.cycleTimer
    ∧ y.wln.pausedBetween = s.wln.pausedBetween ∧ y.wln.nextSlot = s.wln.nextSlot ∧ y.wln.phase = s.wln.phase := by
  rw [h.wln]
  exact ⟨rfl, rfl, rfl, rfl, rfl, rfl, rfl, rfl⟩

theorem Measured.anyPollable (h : Measured i result distance count s y) : anyPollable y = anyPollable s :=
  anyPollable_congr h.prof fun k => by rw [station_congr h.fields.1]

theorem Measured.nextDue (h : Measured i result distance count s y) : nextDue y = nextDue s := by
  obtain ⟨hstations, hcycle, -, -, -, -, hnext, -⟩ := h.fields
  unfold Machine.nextDue
  have hdue : due y = due s := funext fun k => due_congr h.prof (station_congr hstations k) hcycle
  rw [hdue, hnext]

/-- The test's registers in a cycle that begins. -/
theorem Begun.keepsTest {v w : Wln} (h : Begun k v w) : w.test = v.test ∧ w.lastTest = v.lastTest ∧ w.noise = v.noise
    ∧ w.trailing = v.trailing := by
  obtain ⟨-, hw⟩ := h
  exact ⟨(congrArg Wln.test hw :), (congrArg Wln.lastTest hw :), (congrArg Wln.noise hw :), (congrArg Wln.trailing hw :)⟩

section Resume

variable (h : Measured i result distance count s y)

include h

/-- The next cycle begins where polling resumes, in a state `u` that differs from `y` in WLN alone. -/
theorem Measured.cycle_begins {f : Wln → Wln} (hf : ∀ w, (f w).stations = w.stations ∧ (f w).cycle = w.cycle ∧ (f w).test = w.test
      ∧ (f w).lastTest = w.lastTest ∧ (f w).noise = w.noise ∧ (f w).trailing = w.trailing)
    (hdue : DueIn ((s.wln.cycle + 1) % 65536) k s) (hresume : resumePolling y = nextCycle (y.onWln f)) :
    TestEnds i [] s fun w ns t => CycleBegins s t ∧ KeepsTest w t ∧ TestOnlySends i ns s t := by
  obtain ⟨hstations, hcycle, -⟩ := h.fields
  obtain ⟨hfstations, hfcycle, hftest, hflast, hfnoise, hftrailing⟩ := hf y.wln
  have hu : (y.onWln f).wln.stations = s.wln.stations := hfstations.trans hstations
  have hnumber : (y.onWln f).wln.cycle = s.wln.cycle := hfcycle.trans hcycle
  have hprof : (y.onWln f).prof = s.prof := h.prof
  obtain ⟨w, hw, hbegins, hbegun⟩ := nextCycle_of_due (s := y.onWln f) (k := k)
    (by rw [hnumber]; exact (dueIn_congr hprof hu).mpr hdue)
  obtain ⟨htest, hlast, hnoise, htrailing⟩ := hbegun.keepsTest
  refine h.ends_wln (w := w) (hresume.trans hw) fun t ns ht hsends => ⟨hbegins.congr hprof hu hnumber ht, ?_, hsends⟩
  unfold KeepsTest
  rw [ht, ← h.wln]
  exact ⟨htest.trans hftest, hlast.trans hflast, hnoise.trans hfnoise, htrailing.trans hftrailing⟩

/-- The next cycle begins and ends at once where polling resumes. -/
theorem Measured.cycle_empty {f : Wln → Wln} (hf : ∀ w, (f w).stations = w.stations ∧ (f w).cycle = w.cycle ∧ (f w).test = w.test
      ∧ (f w).lastTest = w.lastTest ∧ (f w).noise = w.noise ∧ (f w).trailing = w.trailing ∧ (f w).phase = w.phase)
    (hoff : OnlyOffline s) (hresume : resumePolling y = nextCycle (y.onWln f)) :
    TestEnds i [.stc] s fun w _ t => EmptyCycle s t ∧ KeepsTest w t := by
  obtain ⟨hstations, hcycle, -, -, -, -, -, hphase⟩ := h.fields
  obtain ⟨hfstations, hfcycle, hftest, hflast, hfnoise, hftrailing, hfphase⟩ := hf y.wln
  have hu : (y.onWln f).wln.stations = s.wln.stations := hfstations.trans hstations
  have hnumber : (y.onWln f).wln.cycle = s.wln.cycle := hfcycle.trans hcycle
  have hprof : (y.onWln f).prof = s.prof := h.prof
  obtain ⟨hempty, ⟨htest, hlast, hnoise, htrailing⟩, honly, hsub⟩ := nextCycle_of_onlyOffline (hoff.congr hprof hu hnumber)
  refine h.ends hresume (((onWln_only f y).mono (by simp)).trans (honly.mono (by simp))) (by simp) hsub fun t ht =>
    ⟨hempty.congr (hfphase.trans hphase) hnumber hprof h.clock ht.wln, ?_⟩
  unfold KeepsTest
  rw [ht.wln, ← h.wln]
  exact ⟨htest.trans hftest, hlast.trans hflast, hnoise.trans hfnoise, htrailing.trans hftrailing⟩

/-! ### From STOPPED -/

theorem Measured.stopped_pollable (hpoll : s.wln.poll = .stopped) : resumePolling y = pollable y := by
  obtain ⟨-, -, hy, -⟩ := h.fields
  simp only [resumePolling, hy, hpoll]

theorem Measured.stopped_stays (hpoll : s.wln.poll = .stopped) (hnone : Machine.anyPollable s = false) :
    TestEnds i [] s fun w ns t => t.wln = w ∧ TestOnlySends i ns s t := by
  have hstays : pollable y = y := if_neg fun hc => by
    rw [h.anyPollable, hnone] at hc
    exact nomatch hc.2.2
  exact h.ends_wln (w := y.wln) ((h.stopped_pollable hpoll).trans hstays) fun t ns ht hsends => ⟨by rw [ht, h.wln], hsends⟩

theorem Measured.stopped_next (hpoll : s.wln.poll = .stopped) (hany : Machine.anyPollable s = true) :
    resumePolling y = nextCycle (y.onWln id) := by
  obtain ⟨-, -, hy, hidle, -⟩ := h.fields
  exact (h.stopped_pollable hpoll).trans (pollable_of_stopped (hy.trans hpoll) hidle (h.anyPollable.trans hany))

/-! ### From PAUSED between cycles -/

theorem Measured.paused_stops (hpoll : s.wln.poll = .paused) (hnone : Machine.anyPollable s = false) :
    TestEnds i [] s fun w ns t => t.wln = { w with poll := .stopped, cycleTimer := none } ∧ TestOnlySends i ns s t := by
  obtain ⟨-, -, hy, -⟩ := h.fields
  have hresume : resumePolling y = y.onWln fun _ => { y.wln with poll := .stopped, cycleTimer := none } := by
    simp only [resumePolling, hy, hpoll, h.anyPollable, hnone]
    rfl
  exact h.ends_wln hresume fun t ns ht hsends => ⟨by rw [ht, h.wln], hsends⟩

section Paused

variable (hpoll : s.wln.poll = .paused) (hany : Machine.anyPollable s = true)

include hpoll hany

/-- Between cycles polling resumes in BETWEEN. -/
theorem Measured.paused_between (hbetween : s.wln.pausedBetween = true) :
    resumePolling y = followOn (y.onWln fun w => { w with poll := .between }) := by
  obtain ⟨-, -, hy, -, -, hpaused, -⟩ := h.fields
  simp only [resumePolling, hy, hpoll, h.anyPollable, hany, hpaused, hbetween]
  rfl

/-- Within a cycle polling resumes with its next due slot. -/
theorem Measured.paused_inCycle (hwithin : s.wln.pausedBetween = false) :
    resumePolling y = continueCycle (y.onWln fun w => { w with poll := .inCycle }) := by
  obtain ⟨-, -, hy, -, -, hpaused, -⟩ := h.fields
  simp only [resumePolling, hy, hpoll, h.anyPollable, hany, hpaused, hwithin]
  rfl

end Paused

theorem Measured.between_waits (hpoll : s.wln.poll = .paused) (hbetween : s.wln.pausedBetween = true)
    (hany : Machine.anyPollable s = true) (htimer : s.wln.cycleTimer.isSome = true) :
    TestEnds i [] s fun w ns t => t.wln = { w with poll := .between } ∧ TestOnlySends i ns s t := by
  obtain ⟨-, -, -, -, hy, -⟩ := h.fields
  have hwaits : followOn (y.onWln fun w => { w with poll := .between }) = y.onWln fun w => { w with poll := .between } :=
    if_neg fun hc => by
      have htimer' : y.wln.cycleTimer = none := hc.2
      rw [hy] at htimer'
      rw [htimer'] at htimer
      cases htimer
  exact h.ends_wln (w := { y.wln with poll := .between }) ((h.paused_between hpoll hany hbetween).trans hwaits)
    fun t ns ht hsends => ⟨by rw [ht, h.wln], hsends⟩

theorem Measured.between_next (hpoll : s.wln.poll = .paused) (hbetween : s.wln.pausedBetween = true)
    (hany : Machine.anyPollable s = true) (htimer : s.wln.cycleTimer = none) :
    resumePolling y = nextCycle (y.onWln fun w => { w with poll := .between }) := by
  obtain ⟨-, -, -, -, hy, -⟩ := h.fields
  have hmoment : followOn (y.onWln fun w => { w with poll := .between }) = cycleMoment (y.onWln fun w => { w with poll := .between }) :=
    if_pos ⟨rfl, hy.trans htimer⟩
  have hgoes : Machine.anyPollable (y.onWln fun w => { w with poll := .between }) = true := h.anyPollable.trans hany
  exact (h.paused_between hpoll hany hbetween).trans (hmoment.trans (if_pos hgoes))

/-! ### From PAUSED within a cycle -/

theorem Measured.within_exchange (hpoll : s.wln.poll = .paused) (hwithin : s.wln.pausedBetween = false)
    (hdue : Machine.nextDue s = some k) : TestEnds i [] s fun w ns t =>
      t.wln.poll = .inCycle ∧ t.wln.cycle = s.wln.cycle ∧ t.wln.cycleTimer = s.wln.cycleTimer
        ∧ t.wln.stations = s.wln.stations ∧ t.wln.polled = k ∧ (t.wln.phase = .carrierWait ∨ t.wln.phase = .turnaround)
        ∧ KeepsTest w t ∧ TestOnlySends i ns s t := by
  obtain ⟨hstations, hcycle, -, -, htimer, -⟩ := h.fields
  obtain ⟨hk, -, hkdue, -⟩ := (nextDue_iff s k).mp hdue
  have hany : Machine.anyPollable s = true := (anyPollable_iff s).mpr ⟨k, hk, ((due_iff s k).mp hkdue).1⟩
  obtain ⟨w, hw, hbegun⟩ := runSlots_of_due (s := y.onWln fun w => { w with poll := .inCycle }) (h.nextDue.trans hdue)
  obtain ⟨htest, hlast, hnoise, htrailing⟩ := hbegun.keepsTest
  obtain ⟨hphase, hw'⟩ := hbegun
  have hin : w.poll = .inCycle := (congrArg Wln.poll hw' :)
  have hcycling : w.poll ≠ .between := by rw [hin]; decide
  have hstays : followOn (y.onWln fun _ => w) = y.onWln fun _ => w := if_neg fun hc => hcycling hc.1
  have hresume : resumePolling y = y.onWln fun _ => w :=
    (h.paused_inCycle hpoll hany hwithin).trans ((congrArg followOn hw).trans hstays)
  refine h.ends_wln hresume fun t ns ht hsends => ?_
  unfold KeepsTest
  rw [ht, ← h.wln]
  exact ⟨hin, (congrArg Wln.cycle hw' :).trans hcycle, (congrArg Wln.cycleTimer hw' :).trans htimer,
    (congrArg Wln.stations hw' :).trans hstations, (congrArg Wln.polled hw' :), hphase, ⟨htest, hlast, hnoise, htrailing⟩, hsends⟩

/-- The kept cycle has ended in `u`, and a cycle may follow. -/
structure CycleEnded (i : Instr) (result : TestResult) (distance : Option Nat) (s y u : State) : Prop where
  resume : resumePolling y = followOn u
  only : OnlyChanges [.brd, .link, .wln, .diag, .cst, .stc, .gate] y u
  core : u.link.core = y.link.core
  subjects : u.brd.subjects = y.brd.subjects
  prof : u.prof = s.prof
  clock : u.link.clock = s.link.clock
  poll : u.wln.poll = .between
  cycle : u.wln.cycle = s.wln.cycle
  cycleTimer : u.wln.cycleTimer = s.wln.cycleTimer
  phase : u.wln.phase = s.wln.phase
  stations : u.wln.stations = s.wln.stations
  gating : u.wln.gating.value = truncatedMean ((gatingReadings s).map Reading.t)
  keeps : KeepsTest (tested i result distance s.wln) u

theorem Measured.within_ends (hpoll : s.wln.poll = .paused) (hwithin : s.wln.pausedBetween = false)
    (hnone : Machine.nextDue s = none) (hany : Machine.anyPollable s = true) : ∃ u, CycleEnded i result distance s y u := by
  generalize hz : (y.onWln fun w => { w with poll := .inCycle }) = z
  have hzdue : Machine.nextDue z = none := by rw [← hz]; exact h.nextDue.trans hnone
  have hzany : Machine.anyPollable z = true := by rw [← hz]; exact h.anyPollable.trans hany
  obtain ⟨window, hold, deferred, hends, hwln⟩ := runSlots_ends hzdue hzany
  have hcontributors : contributors z = contributors s := by
    rw [← hz]
    exact contributors_congr h.prof h.fields.1
  obtain ⟨hgating, -⟩ := readings_congr hcontributors
  have hcore : (runSlots z).link.core = y.link.core := by rw [← hz]; simp
  obtain ⟨hstations, hcycle, -, -, htimer, -, -, hphase⟩ := h.fields
  refine ⟨runSlots z, ?_, ⟨fun b hb => ?_, ?_, ?_⟩, hcore, ?_, ?_, ?_, ?_, ?_, ?_, ?_, ?_, ?_, ?_⟩
  · rw [← hz]
    exact h.paused_inCycle hpoll hany hwithin
  · rw [← hz]
    cases b <;> simp [SameBlock] at hb ⊢
  · rw [← hz]
    simp
  · rw [← hz]
    simp
  · rw [hends, State.onWln_brd, cycleEndWork_subjects, ← hz]
    rfl
  · rw [← hz, runSlots_prof]
    exact h.prof
  · exact (congrArg Link.clock hcore :).trans h.clock
  · rw [hwln]
  · rw [hwln, ← hz]
    exact hcycle
  · rw [hwln, ← hz]
    exact htimer
  · rw [hwln, ← hz]
    exact hphase
  · rw [hwln, ← hz]
    exact hstations
  · rw [hwln, ← hgating]
    rfl
  · unfold KeepsTest
    rw [hwln, ← hz, ← h.wln]
    exact ⟨rfl, rfl, rfl, rfl⟩

omit h in
theorem CycleEnded.follows (hu : CycleEnded i result distance s y u) (htimer : s.wln.cycleTimer = none)
    (hany : Machine.anyPollable s = true) : resumePolling y = nextCycle u := by
  have hmoment : followOn u = cycleMoment u := if_pos ⟨hu.poll, hu.cycleTimer.trans htimer⟩
  have hgoes : Machine.anyPollable u = true :=
    (anyPollable_congr hu.prof fun k => by rw [station_congr hu.stations]).trans hany
  exact hu.resume.trans (hmoment.trans (if_pos hgoes))

theorem CycleEnded.waits (hu : CycleEnded i result distance s y u) (htimer : s.wln.cycleTimer.isSome = true) :
    TestEnds i [.cst, .stc, .gate] s fun w _ t =>
      t.wln.poll = .between ∧ t.wln.cycle = s.wln.cycle ∧ t.wln.cycleTimer = s.wln.cycleTimer ∧ t.wln.phase = s.wln.phase
        ∧ t.wln.stations = s.wln.stations ∧ t.wln.gating.value = truncatedMean ((gatingReadings s).map Reading.t)
        ∧ KeepsTest w t := by
  have hruns : u.wln.cycleTimer ≠ none := by
    rw [hu.cycleTimer]
    exact Option.isSome_iff_ne_none.mp htimer
  have hstays : followOn u = u := if_neg fun hc => hruns hc.2
  refine h.ends (hu.resume.trans hstays) hu.only hu.core hu.subjects fun t ht => ?_
  have hkeeps := hu.keeps
  unfold KeepsTest at hkeeps ⊢
  rw [ht.wln]
  exact ⟨hu.poll, hu.cycle, hu.cycleTimer, hu.phase, hu.stations, hu.gating, hkeeps⟩

theorem CycleEnded.next (hu : CycleEnded i result distance s y u) (htimer : s.wln.cycleTimer = none)
    (hdue : DueIn ((s.wln.cycle + 1) % 65536) k s) : TestEnds i [.cst, .stc, .gate] s fun w _ t =>
      CycleBegins s t ∧ t.wln.gating.value = truncatedMean ((gatingReadings s).map Reading.t) ∧ KeepsTest w t := by
  have hany : Machine.anyPollable s = true := (anyPollable_iff s).mpr ⟨k, hdue.1, hdue.2.1⟩
  obtain ⟨w, hw, hbegins, hbegun⟩ := nextCycle_of_due (s := u) (k := k)
    (by rw [hu.cycle]; exact (dueIn_congr hu.prof hu.stations).mpr hdue)
  obtain ⟨htest, hlast, hnoise, htrailing⟩ := hbegun.keepsTest
  have hgating : w.gating = u.wln.gating := (congrArg Wln.gating hbegun.2 :)
  refine h.ends ((hu.follows htimer hany).trans hw) (hu.only.trans ((onWln_only _ _).mono (by simp))) hu.core hu.subjects
    fun t ht => ⟨hbegins.congr hu.prof hu.stations hu.cycle ht.wln, ?_, ?_⟩
  · rw [ht.wln, State.onWln_wln, hgating]
    exact hu.gating
  · obtain ⟨utest, ulast, unoise, utrailing⟩ := hu.keeps
    unfold KeepsTest
    rw [ht.wln]
    exact ⟨htest.trans utest, hlast.trans ulast, hnoise.trans unoise, htrailing.trans utrailing⟩

theorem CycleEnded.empty (hu : CycleEnded i result distance s y u) (htimer : s.wln.cycleTimer = none) (hoff : OnlyOffline s) :
    TestEnds i [.cst, .stc, .gate] s fun w _ t => EmptyCycle s t ∧ KeepsTest w t := by
  obtain ⟨hempty, ⟨htest, hlast, hnoise, htrailing⟩, honly, hsub⟩ := nextCycle_of_onlyOffline (hoff.congr hu.prof hu.stations hu.cycle)
  refine h.ends (hu.follows htimer hoff.1) (hu.only.trans (honly.mono (by simp))) ?_ (hsub.trans hu.subjects) fun t ht =>
    ⟨hempty.congr hu.phase hu.cycle hu.prof hu.clock ht.wln, ?_⟩
  · rw [nextCycle_link_core]
    exact hu.core
  · obtain ⟨utest, ulast, unoise, utrailing⟩ := hu.keeps
    unfold KeepsTest
    rw [ht.wln]
    exact ⟨htest.trans utest, hlast.trans ulast, hnoise.trans unoise, htrailing.trans utrailing⟩

end Resume

/-- A slot that is due in a cycle can be polled. -/
theorem DueIn.anyPollable {number : Nat} (h : DueIn number k s) : anyPollable s = true := (anyPollable_iff s).mpr ⟨k, h.1, h.2.1⟩

/-- Settles O55: the request, and polling after each end of a measurement by the poll state that it paused. -/
theorem theLineTestMeasures : Obligations.TheLineTestMeasures := by
  refine ⟨fun s tag => ⟨fun hF => lineTest_onHill hF tag, fun hF hclear => lineTest_busy hF tag hclear,
    fun hF hclear => lineTest_waits hF tag hclear, fun hF hclear => lineTest_begins hF tag hclear, fun r htest => listenEnd_watches htest⟩,
    fun s i hends => ?_⟩
  obtain ⟨result, distance, count, y, h⟩ := hends.measured
  have hkept : ∀ w : Wln, (id w).stations = w.stations ∧ (id w).cycle = w.cycle ∧ (id w).test = w.test
      ∧ (id w).lastTest = w.lastTest ∧ (id w).noise = w.noise ∧ (id w).trailing = w.trailing ∧ (id w).phase = w.phase :=
    fun w => ⟨rfl, rfl, rfl, rfl, rfl, rfl, rfl⟩
  refine ⟨fun hpoll => ⟨fun hnone => h.stopped_stays hpoll hnone,
      fun k hdue => h.cycle_begins (fun w => ⟨rfl, rfl, rfl, rfl, rfl, rfl⟩) hdue (h.stopped_next hpoll hdue.anyPollable),
      fun hoff => h.cycle_empty hkept hoff (h.stopped_next hpoll hoff.1)⟩,
    fun hpoll hnone => h.paused_stops hpoll hnone, fun hpoll hbetween => ⟨fun hany htimer => h.between_waits hpoll hbetween hany htimer,
      fun k htimer hdue => h.cycle_begins (fun w => ⟨rfl, rfl, rfl, rfl, rfl, rfl⟩) hdue
        (h.between_next hpoll hbetween hdue.anyPollable htimer),
      fun htimer hoff => h.cycle_empty (fun w => ⟨rfl, rfl, rfl, rfl, rfl, rfl, rfl⟩) hoff (h.between_next hpoll hbetween hoff.1 htimer)⟩,
    fun hpoll hwithin => ⟨fun k hdue => h.within_exchange hpoll hwithin hdue, fun hnone hany htimer => ?_, fun k hnone htimer hdue => ?_,
      fun hnone htimer hoff => ?_⟩⟩
  · obtain ⟨u, hu⟩ := h.within_ends hpoll hwithin hnone hany
    exact CycleEnded.waits h hu htimer
  · obtain ⟨u, hu⟩ := h.within_ends hpoll hwithin hnone hdue.anyPollable
    exact CycleEnded.next h hu htimer hdue
  · obtain ⟨u, hu⟩ := h.within_ends hpoll hwithin hnone hoff.1
    exact CycleEnded.empty h hu htimer hoff

end Sys2Proof

/-! PROOFS. RESTART (R59, R71, R105, R151, R164): what each block holds afterwards, and what the board is told. -/

namespace Sys2Proof.Machine

/-! ## The refilled queue (R144, R151) -/

variable {s t : State} {i : BoardItem} {k : Key} {ks : List Key} {q : List BoardItem} {blank : Bool}

theorem dropBackground_cons (hi : i.key.field.cls ≠ .background) (h : ∃ j ∈ q, j.key.field.cls = .background) :
    dropBackground (i :: q) = i :: dropBackground q := by
  obtain ⟨j, hj, hbackground⟩ := h
  have hsome : (q.findIdx? fun i => i.key.field.cls == .background).isSome = true := by
    rw [List.findIdx?_isSome, List.any_eq_true]
    exact ⟨j, hj, beq_iff_eq.mpr hbackground⟩
  obtain ⟨n, hn⟩ := Option.isSome_iff_exists.mp hsome
  simp [dropBackground, List.findIdx?_cons, hi, hn]

/-- A full queue with a BACKGROUND item keeps its first item, when that is not one (R144). -/
theorem enqueued_keeps_head (blank : Bool) (hk : i.key ≠ k) (hi : i.key.field.cls ≠ .background)
    (h : (i :: q).length < 32 ∨ ∃ j ∈ q, j.key.field.cls = .background) :
    ∃ q', (enqueued k blank (i :: q)).1 = i :: q' := by
  by_cases hmem : k ∈ (i :: q).map BoardItem.key
  · rw [enqueued_of_mem blank hmem, List.map_cons, if_neg hk]
    exact ⟨_, rfl⟩
  · by_cases hroom : (i :: q).length < 32
    · rw [enqueued_of_room blank hmem hroom]
      exact ⟨_, rfl⟩
    · rw [enqueued_of_full blank hmem (Nat.not_lt.mp hroom), dropBackground_cons hi (h.resolve_left hroom)]
      exact ⟨_, rfl⟩

/-- A queue after several enqueues with one blank flag. -/
def refilled (blank : Bool) (ks : List Key) (q : List BoardItem) : List BoardItem :=
  ks.foldl (fun q k => (enqueued k blank q).1) q

theorem refilled_append (ks' : List Key) : refilled blank (ks ++ ks') q = refilled blank ks' (refilled blank ks q) :=
  List.foldl_append

theorem refilled_light (blank : Bool) (ks : List Key) :
    refilled blank (key .light :: ks) [] = refilled blank ks [{ key := key .light, blank }] := rfl

/-- While there is room the first item stays, and each key takes one place at most. -/
theorem refilled_of_room (hk : ∀ k ∈ ks, i.key ≠ k) (hi : i.key.field.cls ≠ .background) (h : (i :: q).length + ks.length ≤ 32) :
    ∃ q', refilled blank ks (i :: q) = i :: q' ∧ (i :: q').length ≤ (i :: q).length + ks.length := by
  induction ks generalizing q with
  | nil => exact ⟨q, rfl, le_rfl⟩
  | cons k r ih =>
    rw [List.length_cons (as := r)] at h
    obtain ⟨hhead, hrest⟩ := List.forall_mem_cons.mp hk
    have hroom : (i :: q).length < 32 := by omega
    obtain ⟨q', hq'⟩ := enqueued_keeps_head blank hhead hi (.inl hroom)
    have hlen := (enqueued_room k blank _ hroom).2
    rw [hq'] at hlen
    obtain ⟨q'', hq'', hlen'⟩ := ih (q := q') hrest (by omega)
    refine ⟨q'', ?_, by rw [List.length_cons (as := r)]; omega⟩
    rw [← hq'', ← hq']
    rfl

/-- BACKGROUND keys leave the first item, even where they fill the queue. -/
theorem refilled_of_background (hk : ∀ k ∈ ks, k.field.cls = .background) (hi : i.key.field.cls ≠ .background)
    (h : (i :: q).length < 32 ∨ ∃ j ∈ q, j.key.field.cls = .background) : ∃ q', refilled blank ks (i :: q) = i :: q' := by
  induction ks generalizing q with
  | nil => exact ⟨q, rfl⟩
  | cons k r ih =>
    obtain ⟨hhead, hrest⟩ := List.forall_mem_cons.mp hk
    have hne : i.key ≠ k := fun heq => hi (heq ▸ hhead)
    obtain ⟨q', hq'⟩ := enqueued_keeps_head blank hne hi h
    have hmem : k ∈ (i :: q').map BoardItem.key := hq' ▸ mem_enqueued k blank (i :: q)
    obtain ⟨j, hj, rfl⟩ := List.mem_map.mp ((List.mem_cons.mp hmem).resolve_left (Ne.symm hne))
    obtain ⟨q'', hq''⟩ := ih (q := q') hrest (.inr ⟨j, hj, hhead⟩)
    refine ⟨q'', ?_⟩
    rw [← hq'', ← hq']
    rfl

theorem messageKeys_length_le (ms : List Text) : (messageKeys ms).length ≤ ms.length := by
  rw [messageKeys_eq, List.length_map]
  exact (List.length_filter_le _ _).trans_eq List.length_range

theorem messageKeys_field {ms : List Text} (h : k ∈ messageKeys ms) : k.field = .message := by
  rw [messageKeys_eq] at h
  obtain ⟨n, -, rfl⟩ := List.mem_map.mp h
  rfl

/-- A refill begins with the LIGHT key. -/
theorem refilled_refreshKeys {ms : List Text} (h : ms.length = 16) (blank : Bool) :
    ∃ rest, refilled blank (refreshKeys ms) [] = { key := key .light, blank } :: rest := by
  have hsplit : refilled blank (refreshKeys ms) [] =
      refilled blank topKeys (refilled blank (singleKeys.tail ++ messageKeys ms) [{ key := key .light, blank }]) := by
    have hkeys : singleKeys ++ messageKeys ms = key .light :: (singleKeys.tail ++ messageKeys ms) := rfl
    rw [refreshKeys, refilled_append, hkeys, refilled_light]
  have hurgent : (key .light).field.cls ≠ .background := by decide
  have hlen := messageKeys_length_le ms
  have hother : ∀ k ∈ singleKeys.tail ++ messageKeys ms, key .light ≠ k := by
    rintro k hk rfl
    rcases List.mem_append.mp hk with hk | hk
    · exact absurd hk (by decide)
    · exact absurd (messageKeys_field hk) (by decide)
  obtain ⟨q, hq, hqlen⟩ := refilled_of_room (i := { key := key .light, blank }) (blank := blank) (q := []) hother hurgent
    (by simp [singleKeys]; omega)
  rw [hsplit, hq]
  refine refilled_of_background (by decide) hurgent (.inl ?_)
  simp [singleKeys] at hqlen ⊢
  omega

theorem restartQueue_of_dark (h : s.stc.light = .dark) : restartQueue s = refilled true (refreshKeys s.brd.messages) [] := if_pos h

theorem restartQueue_of_lit (h : s.stc.light ≠ .dark) :
    restartQueue s = (enqueued (key .light) false (refilled true (refreshKeys s.brd.messages) [])).1 := if_neg h

/-- The first item of the queue after a RESTART is LIGHT, blank where the light was DARK (R59, R151). -/
theorem restartQueue_eq (h : MessagesOk s) :
    ∃ rest, restartQueue s = { key := key .light, blank := decide (s.stc.light = .dark) } :: rest := by
  obtain ⟨rest, hrest⟩ := refilled_refreshKeys h true
  by_cases hdark : s.stc.light = .dark
  · exact ⟨rest, by rw [restartQueue_of_dark hdark, hrest, decide_eq_true hdark]⟩
  · rw [restartQueue_of_lit hdark, hrest, enqueued_of_mem false (by simp), decide_eq_false hdark, List.map_cons, if_pos rfl]
    exact ⟨_, rfl⟩

/-! ## What a RESTART does -/

/-- LINK and BRD after a RESTART, apart from the refill; every other block as RESTART leaves it, but for the light. -/
def emptied (s : State) : State :=
  let s := (s.onCst fun _ => cstReset).onStc fun c => { stcReset with light := c.light }
  let s := ((s.onGate restartGate).onMeas restartMeas).onScr fun _ => { ranking := [] }
  let s := (dropWindow s).onLink restartLink
  s.onBrd fun b => { b with queue := [], subjects := noSubjects, messages := List.replicate 16 [] }

theorem restartEffect_eq (s : State) : restartEffect s = setLight .dark (enqueueAll (refreshKeys s.brd.messages) true (emptied s)) :=
  rfl

@[simp] theorem emptied_prof (s : State) : (emptied s).prof = s.prof := rfl
@[simp] theorem emptied_fld (s : State) : (emptied s).fld = s.fld := rfl
@[simp] theorem emptied_cst (s : State) : (emptied s).cst = cstReset := rfl
@[simp] theorem emptied_stc (s : State) : (emptied s).stc = { stcReset with light := s.stc.light } := rfl
@[simp] theorem emptied_gate (s : State) : (emptied s).gate = restartGate s.gate := rfl
@[simp] theorem emptied_wln (s : State) : (emptied s).wln = { s.wln with window := none } := rfl
@[simp] theorem emptied_meas (s : State) : (emptied s).meas = restartMeas s.meas := rfl
@[simp] theorem emptied_scr (s : State) : (emptied s).scr = { ranking := [] } := rfl
@[simp] theorem emptied_brd (s : State) : (emptied s).brd =
    { s.brd with queue := [], subjects := noSubjects, messages := List.replicate 16 [] } := rfl
@[simp] theorem emptied_link (s : State) : (emptied s).link = restartLink s.link := rfl
@[simp] theorem emptied_diag (s : State) : (emptied s).diag = s.diag := rfl
@[simp] theorem emptied_freeCtr (s : State) : (emptied s).freeCtr = s.freeCtr := rfl
@[simp] theorem emptied_pending (s : State) : (emptied s).pending = s.pending := rfl

theorem restartEffect_stc (s : State) : (restartEffect s).stc = stcReset := by
  rw [restartEffect_eq, setLight_stc]
  by_cases h : s.stc.light = .dark
  · simp [h, stcReset]
  · simp [Ne.symm h, lit, stcReset]

theorem refill_brd (s : State) : (enqueueAll (refreshKeys s.brd.messages) true (emptied s)).brd =
    { s.brd with queue := refilled true (refreshKeys s.brd.messages) [], subjects := noSubjects,
                 messages := List.replicate 16 [] } := by
  rw [enqueueAll_brd, emptied_brd, refilled]

theorem restartEffect_brd (s : State) : (restartEffect s).brd =
    { s.brd with queue := restartQueue s, subjects := noSubjects, messages := List.replicate 16 [] } := by
  by_cases h : s.stc.light = .dark
  · rw [restartEffect_eq, setLight, if_pos (by simp [h]), refill_brd, restartQueue_of_dark h]
  · rw [restartEffect_eq, setLight_of_ne _ _ (by simpa using h), enqueue_brd, notify_brd, State.onStc_brd, refill_brd,
      restartQueue_of_lit h]

/-! ### The notices (R59, R144) -/

/-- LINK `l'` is LINK `l` after some notices. -/
def Noticed (l l' : Link) : Prop := ∃ ns : List NoticeBody, l' = ns.foldl (fun l b => queueNotice b l) l

theorem Noticed.refl (l : Link) : Noticed l l := ⟨[], rfl⟩

theorem Noticed.trans {l l' l'' : Link} (h : Noticed l l') (h' : Noticed l' l'') : Noticed l l'' := by
  obtain ⟨ns, rfl⟩ := h
  obtain ⟨ns', rfl⟩ := h'
  exact ⟨ns ++ ns', List.foldl_append.symm⟩

theorem enqueueWith_noticed (k : Key) (blank : Bool) (s : State) : Noticed s.link (enqueueWith k blank s).link := by
  simp only [enqueueWith]
  split
  · exact ⟨_, count_link _ _⟩
  · exact .refl _

theorem enqueueAll_noticed (ks : List Key) (blank : Bool) (s : State) : Noticed s.link (enqueueAll ks blank s).link := by
  induction ks generalizing s with
  | nil => exact .refl _
  | cons k r ih => exact (enqueueWith_noticed k blank s).trans (ih (enqueueWith k blank s))

theorem setLight_noticed (l : Light) (s : State) : Noticed s.link (setLight l s).link := by
  by_cases h : s.stc.light = l
  · rw [setLight, if_pos h.symm]
    exact .refl _
  · rw [setLight_of_ne s l h]
    exact Noticed.trans ⟨[_], rfl⟩ (enqueueWith_noticed _ _ _)

theorem restartEffect_noticed (s : State) : Noticed (restartLink s.link) (restartEffect s).link :=
  (enqueueAll_noticed _ true (emptied s)).trans (setLight_noticed .dark _)

theorem outgoing_queueNotice (b : NoticeBody) (l : Link) : ∃ more, outgoing (queueNotice b l) = outgoing l ++ more := by
  unfold queueNotice
  split
  · split
    · refine ⟨[{ seq := l.seq, time := l.clock, body := b }], ?_⟩
      cases htx : l.tx <;> simp [outgoing, htx]
    · exact ⟨[], (List.append_nil _).symm⟩
  · exact ⟨[], (List.append_nil _).symm⟩

theorem outgoing_handed (ns : List NoticeBody) (s : State) : ∃ more, outgoing (handed ns s) = outgoing s.link ++ more := by
  induction ns using List.reverseRecOn with
  | nil => exact ⟨[], by rw [handed_nil, startTx_outgoing, List.append_nil]⟩
  | append_singleton ns b ih =>
    obtain ⟨more, hmore⟩ := ih
    obtain ⟨last, hlast⟩ := outgoing_queueNotice b (handed ns s)
    refine ⟨more ++ last, ?_⟩
    rw [handed_append, List.foldl_cons, List.foldl_nil, hlast, hmore, List.append_assoc]

/-- A notice does not look at the cursors. -/
theorem foldl_queueNotice_restartLink (ns : List NoticeBody) (l : Link) :
    ns.foldl (fun l b => queueNotice b l) (restartLink l) = restartLink (ns.foldl (fun l b => queueNotice b l) l) := by
  induction ns generalizing l with
  | nil => rfl
  | cons b r ih =>
    have hb : queueNotice b (restartLink l) = restartLink (queueNotice b l) := by
      unfold queueNotice restartLink; repeat' split
      all_goals rfl
    rw [List.foldl_cons, List.foldl_cons, hb, ih]

theorem foldl_restartLink_taken (kind tag : Byte) (ns : List NoticeBody) (s : State) :
    ns.foldl (fun l b => queueNotice b l) (restartLink (taken kind tag s).link) =
      restartLink { handed ns s with inHand := some { kind, tag, change := none } } := by
  rw [foldl_queueNotice_restartLink, foldl_taken]

theorem enqueueWith_of_mem (blank : Bool) (h : k ∈ s.brd.queue.map BoardItem.key) :
    (enqueueWith k blank s).link = s.link ∧ (enqueueWith k blank s).diag = s.diag := by
  simp [enqueueWith, enqueued_of_mem blank h]

/-- A change of the light with its key in the queue already. -/
theorem setLight_of_queued {l : Light} (hne : s.stc.light ≠ l) (h : key .light ∈ s.brd.queue.map BoardItem.key) :
    (setLight l s).link = queueNotice (.light s.stc.light l ((onHill? s).map Attempt.number)) s.link
      ∧ (setLight l s).diag = s.diag := by
  rw [setLight_of_ne s l hne]
  exact enqueueWith_of_mem false h

/-- The notices of a RESTART whose refill drops nothing. -/
theorem restartEffect_of_room (hm : MessagesOk s) (h : (refreshKeys s.brd.messages).length ≤ 32) :
    (restartEffect s).link = (if s.stc.light = .dark then [] else [NoticeBody.light s.stc.light .dark none]).foldl
        (fun l b => queueNotice b l) (restartLink s.link)
      ∧ (restartEffect s).diag = s.diag := by
  obtain ⟨hlink, hdiag⟩ := enqueueAll_of_room (s := emptied s) true (by simpa using h)
  rw [restartEffect_eq]
  by_cases hdark : s.stc.light = .dark
  · rw [setLight, if_pos (by simp [hdark]), if_pos hdark]
    exact ⟨hlink, hdiag⟩
  · have hthere : key .light ∈ (enqueueAll (refreshKeys s.brd.messages) true (emptied s)).brd.queue.map BoardItem.key := by
      obtain ⟨rest, hrest⟩ := refilled_refreshKeys hm true
      rw [refill_brd, hrest]
      exact List.mem_cons_self
    obtain ⟨hlight, hsame⟩ := setLight_of_queued (l := .dark) (by simpa using hdark) hthere
    have hnobody : onHill? (enqueueAll (refreshKeys s.brd.messages) true (emptied s)) = none := by simp [onHill?, cstReset]
    rw [hlink, hnobody] at hlight
    refine ⟨?_, hsame.trans hdiag⟩
    rw [hlight, if_neg hdark]
    simp

theorem itemText_dark (h : s.stc.light = .dark) (blank : Bool) :
    itemText s { key := key .light, blank } = if blank then [] else ascii ['D', 'A', 'R', 'K'] := by
  have hname : keyText s (key .light) = ascii ['D', 'A', 'R', 'K'] := by simp [keyText, key, h, lightName]
  rw [itemText, hname]
  rfl

/-! ## The command -/

theorem restartLink_core {l l' : Link} (h : l'.core = l.core) : (restartLink l').core = (restartLink l).core := by
  simp only [Link.core, Link.mk.injEq] at h ⊢
  tauto

theorem restart_completes (hF : Free s) (hm : MessagesOk s) (tag : Byte) {P : State → Prop}
    (hP : ∀ t, After s (taken 0x7E tag s) (restartEffect (taken 0x7E tag s)) t →
      (∃ more, outgoing t.link = outgoing s.link ++ more) →
      ((refreshKeys s.brd.messages).length ≤ 32 → Sends (if s.stc.light = .dark then [] else [.light s.stc.light .dark none]) s t) →
      P t) :
    Completes (.restart tag) .done .none [.cst, .stc, .gate, .meas, .scr, .wln, .diag] s P := by
  have hsends : ∀ ns : List NoticeBody, (restartEffect (taken 0x7E tag s)).link =
      ns.foldl (fun l b => queueNotice b l) (restartLink (taken 0x7E tag s).link) →
      Sends ns s (settle (waiting 0x7E tag (done (restartEffect (taken 0x7E tag s))))) := by
    intro ns h
    rw [foldl_restartLink_taken] at h
    exact Sends.served (by rw [done, h]; rfl) (by rw [done, h]; rfl) (by rw [done, h]; exact handed_tx ns s)
  obtain ⟨ns, hns⟩ := restartEffect_noticed (taken 0x7E tag s)
  obtain ⟨more, hmore⟩ := outgoing_handed ns s
  refine Completes.of_served (serve := serveRestart) (done (restartEffect (taken 0x7E tag s))) hF rfl rfl rfl ?_ rfl rfl
    (OnlyChanges.served ⟨fun b hb => ?_, ?_, ?_⟩) (hP _ (After.of_request 0x7E tag s (done (restartEffect (taken 0x7E tag s)))) ⟨more, ?_⟩ fun h => ?_)
  · refine ⟨{ kind := 0x7E, tag, change := none }, ?_, rfl, rfl⟩
    rw [done, hns, foldl_restartLink_taken]
    rfl
  · cases b <;> simp [SameBlock, done, restartEffect_eq] at hb ⊢
  · simp [done, restartEffect_eq]
  · simp [done, restartEffect_eq]
  · exact (hsends ns hns).1.trans hmore
  · have hroom := (restartEffect_of_room (s := taken 0x7E tag s) (by simpa [MessagesOk] using hm) (by simpa using h)).1
    rw [taken_stc] at hroom
    exact hsends _ hroom

/-- Settles O60: the blocks, the refilled queue, and what goes to the board and the host. -/
theorem restartKeepsTheProfileAndTheLines : Obligations.RestartKeepsTheProfileAndTheLines := by
  intro s tag hF hm
  refine restart_completes hF hm tag fun t ht hmore hsends => ?_
  have hbrd : (restartEffect (taken 0x7E tag s)).brd =
      { s.brd with queue := restartQueue s, subjects := noSubjects, messages := List.replicate 16 [] } := by
    rw [restartEffect_brd, taken_brd]
    simp [restartQueue]
  have hgate : t.gate = restartGate s.gate := by rw [ht.gate]; simp [restartEffect_eq]
  have hstc : t.stc = stcReset := ht.stc.trans (restartEffect_stc _)
  have hclear : t.brd.messages = List.replicate 16 [] := by rw [ht.messages, hbrd]
  obtain ⟨ns, hns⟩ := restartEffect_noticed (taken 0x7E tag s)
  rw [foldl_restartLink_taken] at hns
  obtain ⟨hrate, -, -, hbuffer, hmask, hclock, -, hattempt, hrank⟩ := ht.settled
  obtain ⟨⟨hrate', -, -, hbuffer', hmask', hclock', -⟩, -⟩ := handed_kept ns s
  obtain ⟨hbegins, hstands⟩ := ht.frame
  rw [hbrd] at hbegins hstands
  have hqueue : s.brd.sender = none → s.brd.pacing = none → s.brd.ready = true → t.brd.queue = (restartQueue s).tail
      ∧ t.brd.sender = some { key := key .light, text := if s.stc.light = .dark then [] else ascii ['D', 'A', 'R', 'K'] } := by
    intro hsender hpacing hready
    obtain ⟨rest, hrest⟩ := restartQueue_eq hm
    rw [hrest] at hbegins ⊢
    obtain ⟨hleft, hframe⟩ := hbegins _ _ hsender hpacing hready rfl
    refine ⟨hleft.trans (by simp), ?_⟩
    rw [hframe, itemText_dark (by rw [restartEffect_stc]; rfl)]
    simp
  have hlink : t.link.attemptCursor = cursorReset ∧ t.link.rankCursor = cursorReset := by
    rw [hattempt, hrank, hns]; exact ⟨rfl, rfl⟩
  have hkept : t.link.clock = s.link.clock ∧ t.link.mask = s.link.mask ∧ t.link.rate = s.link.rate ∧ t.link.buffer = s.link.buffer := by
    rw [hclock, hmask, hrate, hbuffer, hns]; exact ⟨hclock', hmask', hrate', hbuffer'⟩
  obtain ⟨hattempt, hrank⟩ := hlink
  obtain ⟨hclock, hmask, hrate, hbuffer⟩ := hkept
  refine ⟨?_, hstc, ?_, ?_, ?_, fun hmotion => ?_, fun hmotion => ?_, ?_, ?_, ?_, ?_, ?_, ?_, ?_, hclear, ?_, ?_, ?_, ?_, ht.stall ?_,
    hmore, fun h => ⟨?_, hsends h⟩, fun hheld => hstands ?_, hqueue, fun hempty hdark => ?_, hattempt, hrank, hclock, hmask, hrate, hbuffer⟩
  · rw [ht.cst]; simp [restartEffect_eq]
  · rw [ht.scr]; simp [restartEffect_eq]
  · rw [ht.wln]; simp [restartEffect_eq]
  · rw [ht.meas]; simp [restartEffect_eq, restartMeas]
  · rw [hgate, restartGate, hmotion]; exact ⟨rfl, rfl⟩
  · rw [hgate, restartGate, hmotion]; exact ⟨rfl, rfl⟩
  · rw [hgate]; rfl
  · rw [hgate]; rfl
  · rw [hgate]; rfl
  · rw [hgate]; rfl
  · rw [hgate]; rfl
  · rw [hgate]; rfl
  · rw [hgate]; rfl
  · rw [ht.subjects, hbrd]
  · rw [ht.pacing, hbrd]
  · rw [ht.ready, hbrd]
  · rw [ht.stalled, hbrd]
  · rw [hbrd]
  · rw [ht.diag, (restartEffect_of_room (by simpa [MessagesOk] using hm) (by simpa using h)).2, taken_diag]
  · rcases hheld with h | h | h
    · exact .inl h
    · exact .inr (.inl h)
    · exact .inr (.inr (.inl h))
  · rw [restartQueue_of_dark hdark, hempty]
    decide

end Sys2Proof.Machine

/-! PROOFS. A millisecond in which no command waits: what comes due, in which order it is put in the queue, and what moves
(R159, logs 1, 3, 9). -/

namespace Sys2Proof.Machine

variable {s : State} {i j : Instr} {c : Bool}

/-! ## What comes due -/

@[simp] theorem mem_dueIf : i ∈ dueIf c j ↔ c = true ∧ i = j := by cases c <;> simp [dueIf]

@[simp] theorem runsOut_iff (t : Option Nat) : runsOut t = true ↔ RunsOut t := by cases t <;> simp [runsOut, RunsOut]

theorem listenRunsOut_iff (t : TestState) : listenRunsOut t = true ↔
    t = .listening 0 false ∨ t = .listening 0 true ∨ t = .listening 1 false ∨ t = .listening 1 true := by
  cases t with
  | listening r heard =>
    have hr : r ≤ 1 ↔ r = 0 ∨ r = 1 := by omega
    cases heard <;> simp [listenRunsOut, hr]
  | idle | waitingExchange | watching => simp [listenRunsOut]

theorem turnsStale_iff (s : State) : turnsStale s = true ↔ FallsDue s .gatingMeanStale := by
  simp [turnsStale, FallsDue, and_assoc]

/-- What the start window brings, by what is left of it. -/
theorem mem_dueStart : i ∈ dueStart s ↔
    (RunsOut s.fld.leave.timer ∧ i = .debounceExpiry .leave) ∨ (RunsOut s.fld.stop.timer ∧ i = .debounceExpiry .juryStop)
      ∨ (RunsOut s.stc.flashTimer ∧ i = .flashTimerExpiry)
      ∨ (FallsDue s .warningPeriodReached ∧ i = .warningPeriodReached)
      ∨ (FallsDue s .countdownSecondChange ∧ i = .countdownSecondChange) ∨ (RunsOut s.stc.window ∧ i = .startWindowExpiry) := by
  cases hw : s.stc.window with
  | none => simp [dueStart, hw, RunsOut, FallsDue]
  | some r =>
    have hwarning : FallsDue s .warningPeriodReached ↔
        (r - 1 ≤ s.prof.profile.hill.warning ∧ s.prof.profile.hill.warning < r) ∧ 0 < s.prof.profile.hill.warning := by
      simp only [FallsDue, hw, Option.getD_some]
      tauto
    have hsecond : FallsDue s .countdownSecondChange ↔ 1 < r ∧ wholeSeconds (r - 1) < wholeSeconds r := by
      simp only [FallsDue, hw, Option.getD_some, wholeSeconds]
    have hend : RunsOut (some r) ↔ r ≤ 1 := .rfl
    simp only [dueStart, hw, hwarning, hsecond, hend, List.mem_append, mem_dueIf, runsOut_iff, Bool.and_eq_true, decide_eq_true_eq,
      or_assoc]

theorem mem_dueGate : i ∈ dueGate s ↔
    (RunsOut s.gate.stepTimer ∧ i = .stepTimeout) ∨ (RunsOut s.gate.settleTimer ∧ i = .settleExpiry)
      ∨ (RunsOut s.gate.homeTimer ∧ i = .homeTimeout) := by
  simp only [dueGate, List.mem_append, mem_dueIf, runsOut_iff, or_assoc]

theorem mem_dueWind : i ∈ dueWind s ↔
    (RunsOut s.wln.carrierTimer ∧ i = .contentionMiss) ∨ (RunsOut s.wln.turnTimer ∧ i = .turnaroundEnd)
      ∨ (RunsOut s.wln.replyTimer ∧ i = .replyTimeout) ∨ (RunsOut s.wln.gapTimer ∧ i = .replyGapExpiry)
      ∨ (RunsOut s.wln.cycleTimer ∧ i = .cyclePeriodExpiry) ∨ (FallsDue s .gatingMeanStale ∧ i = .gatingMeanStale)
      ∨ (RunsOut s.wln.windHold ∧ i = .windDeferExpiry) ∨ (FallsDue s .listenEnd ∧ i = .listenEnd) := by
  have hlisten : listenRunsOut s.wln.test = true ↔ FallsDue s .listenEnd := listenRunsOut_iff s.wln.test
  simp only [dueWind, List.mem_append, mem_dueIf, runsOut_iff, turnsStale_iff, hlisten, or_assoc]

theorem mem_dueMeasuring : i ∈ dueMeasuring s ↔
    (RunsOut s.meas.trapTimer ∧ i = .trapTimerExpiry) ∨ (RunsOut s.meas.silenceA ∧ i = .silenceTimerExpiry .a)
      ∨ (RunsOut s.meas.silenceB ∧ i = .silenceTimerExpiry .b)
      ∨ (RunsOut (s.meas.markLimit.map Prod.snd) ∧ i = .markLimitExpiry)
      ∨ ∃ w ∈ s.meas.waits, w.2 ≤ 1 ∧ .secondMarkWaitExpiry w.1 = i := by
  simp [dueMeasuring, and_assoc, RunsOut]

theorem mem_dueBoard : i ∈ dueBoard s ↔
    (RunsOut s.brd.pacing ∧ i = .pacingExpiry) ∨ (RunsOut s.brd.stallTimer ∧ i = .stallTimerExpiry) := by
  simp [dueBoard]

/-- The events that come due are those of the timers that end, and of what the clock reaches. -/
theorem mem_dueEvents : i ∈ dueEvents s ↔ FallsDue s i := by
  simp only [dueEvents, List.mem_append, mem_dueStart, mem_dueGate, mem_dueWind, mem_dueMeasuring, mem_dueBoard]
  cases i with
  | debounceExpiry line => cases line <;> simp [FallsDue]
  | silenceTimerExpiry console => cases console <;> simp [FallsDue, silence]
  | secondMarkWaitExpiry n => simp [FallsDue, and_comm]
  | _ => simp [FallsDue]

/-! ## The order in which it is put in the queue (log 3) -/

theorem insertKeyed_perm (k : Nat) (i : Instr) (l : List (Nat × Instr)) : (insertKeyed k i l).Perm ((k, i) :: l) := by
  induction l with
  | nil => exact .refl _
  | cons e r ih =>
    unfold insertKeyed
    split
    · exact .refl _
    · exact (ih.cons e).trans (.swap _ _ _)

theorem inOpenOrder_perm (ctr : Nat) (is : List Instr) : (inOpenOrder ctr is).Perm is := by
  have hfold : ∀ l : List (Instr × Nat),
      ((l.foldr (fun e l => insertKeyed (Config.tieKey ctr e.2) e.1 l) []).map Prod.snd).Perm (l.map Prod.fst) := by
    intro l
    induction l with
    | nil => exact .refl _
    | cons e r ih => exact ((insertKeyed_perm _ _ _).map Prod.snd).trans (ih.cons e.1)
  exact (hfold is.zipIdx).trans (by rw [List.zipIdx_map_fst])

@[simp] theorem startTx_dueEvents (s : State) : dueEvents (startTx s) = dueEvents s := by
  unfold startTx; repeat' split
  all_goals rfl

@[simp] theorem startTx_turnsStale (s : State) : turnsStale (startTx s) = turnsStale s := by
  simp [turnsStale]

/-! ## What moves -/

theorem tickTrailing_of_runsOut {t : Option Nat} (h : RunsOut t) : tickTrailing t = none := if_pos ((runsOut_iff t).mpr h)

theorem tickTrailing_of_not {t : Option Nat} (h : ¬RunsOut t) : tickTrailing t = t.map (· - 1) :=
  if_neg fun hr => h ((runsOut_iff t).mp hr)

theorem tickTest_of_not_listening {t : TestState} (h : ∀ r heard, t ≠ .listening r heard) : tickTest t = t := by
  cases t with
  | listening r heard => exact absurd rfl (h r heard)
  | idle | waitingExchange | watching => rfl

/-- Settles O3: the millisecond is a command, and what comes due waits behind it. -/
theorem anEmptyQueueLetsAMillisecondPass : Obligations.AnEmptyQueueLetsAMillisecondPass := by
  intro s hs
  have hstep : step s = .next (settle (timePasses (startTx s))) := by rw [step, hs]; rfl
  refine ⟨_, hstep, ?_⟩
  have ht := After.of_effect s (timePasses (startTx s))
  obtain ⟨hlink, hhand, hseq⟩ := startTx_kept s
  obtain ⟨hrate, hbrk, hasm, hbuffer, hmask, hclock, hset, hattempt, hrank⟩ := hlink
  obtain ⟨hrate', hbrk', hasm', hbuffer', hmask', hclock', hset', hattempt', hrank'⟩ := ht.settled
  have hpending : (settle (timePasses (startTx s))).pending = inOpenOrder s.freeCtr (dueEvents s) := by
    rw [settle_pending]; simp [timePasses, hs]
  have hbrd : (timePasses (startTx s)).brd = tickBrd s.brd := by simp [timePasses]
  have hwln : (settle (timePasses (startTx s))).wln = tickWln (turnsStale s) s.wln := by rw [ht.wln]; simp [timePasses]
  have hfld : (settle (timePasses (startTx s))).fld = tickFld s.freeCtr s.prof.profile.lines s.fld := by
    rw [ht.fld]; simp [timePasses]
  generalize settle (timePasses (startTx s)) = t at *
  refine ⟨?_, ?_, ?_, ?_, ?_, ?_, ?_, ?_, ?_, ?_, ?_, ?_, fun h => ?_, fun h => ?_, fun r heard h => ?_, fun h => ?_, ?_, ?_, ?_, ?_,
    ?_, ?_, ht.frames [] ?_ ?_, fun n hn hready hqueue hline => ?_, hrate'.trans hrate, hbrk'.trans hbrk, hmask'.trans hmask,
    hset'.trans hset, hattempt'.trans hattempt, hrank'.trans hrank, hasm'.trans hasm, hbuffer'.trans hbuffer, ht.inHand.trans hhand,
    ht.silent rfl rfl rfl, hpending ▸ inOpenOrder_perm _ _, fun i => mem_dueEvents⟩
  · rw [hclock', timePasses, tickLink, hclock]
  · rw [ht.prof]; simp [timePasses]
  · rw [ht.cst]; simp [timePasses]
  · rw [ht.scr]; simp [timePasses]
  · rw [ht.diag]; simp [timePasses]
  · rw [ht.stc]; simp [timePasses, tickStc, lessOne]
  · rw [ht.gate]; simp [timePasses, tickGate, lessOne]
  · rw [hfld]; rfl
  · rw [hfld]; rfl
  · rw [hfld]; rfl
  · rw [hwln]; rfl
  · rw [hwln, ← turnsStale_iff]; simp [tickWln]
  · rw [hwln]; exact tickTrailing_of_runsOut h
  · rw [hwln]; exact tickTrailing_of_not h
  · rw [hwln, tickWln, h]; rfl
  · rw [hwln]; exact tickTest_of_not_listening h
  · rw [ht.meas]; simp [timePasses, tickMeas, lessOne]
  · rw [ht.pacing, hbrd]; rfl
  · rw [ht.messages, hbrd]; rfl
  · rw [ht.ready, hbrd]; rfl
  · rw [ht.stalled, hbrd]; rfl
  · rw [ht.subjects, hbrd]; rfl
  · rw [hbrd]; rfl
  · rw [hbrd]; rfl
  · obtain ⟨hstays, -⟩ := ht.frame.2 (.inr (.inr (.inl (by rw [hbrd]; exact hready))))
    have hstall := ht.stallRule
    have hprof : t.prof = s.prof := by rw [ht.prof]; simp [timePasses]
    have hruns : t.brd.ready = false ∧ t.brd.queue ≠ [] ∧ (lineOf t .boardReady).isSome = true := by
      refine ⟨?_, ?_, by simpa [lineOf, hprof] using hline⟩
      · rw [ht.ready, hbrd]; exact hready
      · rw [hstays, hbrd]; exact hqueue
    unfold StallFollows at hstall
    rw [hstall, if_pos hruns, hbrd]
    simp [tickBrd, lessOne, hn]

end Sys2Proof.Machine

/-! PROOFS. The laws of the hill, the light, the trap and the waits taken together (R32, R34, R40, R42, R46, R56, R57, R60, R106, R114,
R117): what of a state they read, and what they say with the attempt on the hill at hand. -/

namespace Sys2Proof

open Machine

/-! ## What the laws read -/

/-- What the laws of the hill read of a state. -/
structure Scene where
  round : Nat
  rstate : RoundState
  startList : List Nat
  attempts : List Attempt
  light : Light
  heldArm : Bool
  clearPending : Bool
  coach : Option (Nat × Nat)
  /-- The positioner is in motion. -/
  moves : Bool
  /-- The speed trap watches or counts. -/
  watches : Bool
  /-- The attempts whose second-mark waits run. -/
  waits : List Nat

def trapRuns (m : Meas) : Bool := m.trap == .ready || m.trap == .counting

def scene (s : State) : Scene where
  round := s.cst.round
  rstate := s.cst.rstate
  startList := s.cst.startList
  attempts := s.cst.attempts
  light := s.stc.light
  heldArm := s.stc.heldArm
  clearPending := s.stc.clearPending
  coach := s.stc.coach
  moves := s.gate.state.motion
  watches := trapRuns s.meas
  waits := s.meas.waits.map Prod.fst

/-! ## The attempts and the waits -/

/-- The attempts are numbered in order, `j` is the one on the hill, without marks and distance, and a wait runs for an attempt that
waits for its second mark. -/
structure Records (as : List Attempt) (ws : List Nat) (j : Option Attempt) : Prop where
  numbers : as.map Attempt.number = List.range' 1 as.length
  onHill : ∀ a, j = some a ↔ a ∈ as ∧ a.state.onHill = true
  marks : ∀ a, j = some a → a.markA = none ∧ a.markB = none ∧ a.distance = none ∧ a.distanceStatus = .none
  waits : ∀ n ∈ ws, ∃ a ∈ as, a.number = n ∧ a.state = .scoring ∧ a.distanceStatus = .pendingSecond

/-- The attempts with the one of a number changed. -/
def revised (n : Nat) (f : Attempt → Attempt) (as : List Attempt) : List Attempt := as.map fun a => if a.number = n then f a else a

namespace Records

variable {as : List Attempt} {ws ws' : List Nat} {j : Option Attempt} {a b : Attempt} {n : Nat} {f : Attempt → Attempt}

theorem number_inj (h : Records as ws j) (ha : a ∈ as) (hb : b ∈ as) (hn : a.number = b.number) : a = b :=
  List.inj_on_of_nodup_map (h.numbers ▸ List.nodup_range' (step := 1)) ha hb hn

theorem revised_numbers (hf : ∀ r, (f r).number = r.number) (as : List Attempt) :
    (revised n f as).map Attempt.number = as.map Attempt.number := by
  rw [revised, List.map_map]
  refine List.map_congr_left fun r _ => ?_
  by_cases hr : r.number = n <;> simp [hr, hf]

theorem mem_revised {r : Attempt} : r ∈ revised n f as ↔ (∃ x ∈ as, x.number = n ∧ f x = r) ∨ (r ∈ as ∧ r.number ≠ n) := by
  simp only [revised, List.mem_map]
  constructor
  · rintro ⟨x, hx, rfl⟩
    by_cases hn : x.number = n
    · exact .inl ⟨x, hx, hn, (if_pos hn).symm⟩
    · rw [if_neg hn]
      exact .inr ⟨hx, hn⟩
  · rintro (⟨x, hx, hn, rfl⟩ | ⟨hr, hn⟩)
    · exact ⟨x, hx, if_pos hn⟩
    · exact ⟨r, hr, if_neg hn⟩

/-- A change of the attempt of one number, where what becomes of it on the hill and of its wait is known. -/
theorem revise (h : Records as ws j) {j' : Option Attempt} (hf : ∀ r, (f r).number = r.number)
    (hon : ∀ r, j' = some r ↔ (∃ x ∈ as, x.number = n ∧ f x = r ∧ r.state.onHill = true) ∨ (j = some r ∧ r.number ≠ n))
    (hmarks : ∀ x ∈ as, x.number = n → (f x).state.onHill = true →
      (f x).markA = none ∧ (f x).markB = none ∧ (f x).distance = none ∧ (f x).distanceStatus = .none)
    (hwaits : n ∈ ws → ∀ x ∈ as, x.number = n → (f x).state = .scoring ∧ (f x).distanceStatus = .pendingSecond) :
    Records (revised n f as) ws j' where
  numbers := by rw [revised_numbers hf, h.numbers, revised, List.length_map]
  onHill r := by
    rw [hon, mem_revised]
    constructor
    · rintro (⟨x, hx, hn, rfl, hr⟩ | ⟨hr, hn⟩)
      · exact ⟨.inl ⟨x, hx, hn, rfl⟩, hr⟩
      · obtain ⟨hmem, hr⟩ := (h.onHill r).mp hr
        exact ⟨.inr ⟨hmem, hn⟩, hr⟩
    · rintro ⟨⟨x, hx, hn, rfl⟩ | ⟨hmem, hn⟩, hr⟩
      · exact .inl ⟨x, hx, hn, rfl, hr⟩
      · exact .inr ⟨(h.onHill r).mpr ⟨hmem, hr⟩, hn⟩
  marks r hr := by
    rcases (hon r).mp hr with ⟨x, hx, hn, rfl, hxr⟩ | ⟨hj, -⟩
    · exact hmarks x hx hn hxr
    · exact h.marks r hj
  waits m hm := by
    obtain ⟨x, hx, hn, hstate, hstatus⟩ := h.waits m hm
    by_cases hmn : m = n
    · subst hmn
      obtain ⟨hstate, hstatus⟩ := hwaits hm x hx hn
      exact ⟨f x, mem_revised.mpr (.inl ⟨x, hx, hn, rfl⟩), (hf x).trans hn, hstate, hstatus⟩
    · exact ⟨x, mem_revised.mpr (.inr ⟨hx, hn ▸ hmn⟩), hn, hstate, hstatus⟩

/-- No wait runs for the attempt on the hill. -/
theorem onHill_not_mem (h : Records as ws (some a)) : a.number ∉ ws := fun hmem => by
  obtain ⟨x, hx, hn, hstate, -⟩ := h.waits _ hmem
  obtain ⟨ha, hon⟩ := (h.onHill a).mp rfl
  rw [h.number_inj hx ha hn] at hstate
  rw [hstate] at hon
  cases hon

/-- The attempt on the hill stays there. -/
theorem stays (h : Records as ws (some a)) (hf : ∀ r, (f r).number = r.number) (hon : (f a).state.onHill = true)
    (hmarks : (f a).markA = none ∧ (f a).markB = none ∧ (f a).distance = none ∧ (f a).distanceStatus = .none) :
    Records (revised a.number f as) ws (some (f a)) := by
  obtain ⟨ha, -⟩ := (h.onHill a).mp rfl
  refine h.revise hf (fun r => ⟨fun hr => .inl ⟨a, ha, rfl, Option.some.inj hr, ?_⟩, ?_⟩) (fun x hx hn _ => ?_)
    fun hmem => absurd hmem h.onHill_not_mem
  · rw [← Option.some.inj hr]; exact hon
  · rintro (⟨x, hx, hn, rfl, -⟩ | ⟨hr, hn⟩)
    · rw [h.number_inj hx ha hn]
    · exact absurd (by rw [Option.some.inj hr]) hn
  · rw [h.number_inj hx ha hn]
    exact hmarks

/-- The attempt on the hill leaves it. -/
theorem leaves (h : Records as ws (some a)) (hf : ∀ r, (f r).number = r.number) (hon : (f a).state.onHill = false) :
    Records (revised a.number f as) ws none := by
  obtain ⟨ha, -⟩ := (h.onHill a).mp rfl
  have hoff : ∀ x ∈ as, x.number = a.number → (f x).state.onHill = false := fun x hx hn => by
    rw [h.number_inj hx ha hn]
    exact hon
  refine h.revise hf (fun r => ⟨fun hr => (by cases hr), ?_⟩) (fun x hx hn hr => ?_) fun hmem => absurd hmem h.onHill_not_mem
  · rintro (⟨x, hx, hn, rfl, hr⟩ | ⟨hr, hn⟩)
    · rw [hoff x hx hn] at hr; cases hr
    · exact absurd (by rw [Option.some.inj hr]) hn
  · rw [hoff x hx hn] at hr; cases hr

/-- An attempt that is not on the hill changes, and does not come onto it. -/
theorem aside (h : Records as ws j) (ha : a ∈ as) (hoff : a.state.onHill = false) (hf : ∀ r, (f r).number = r.number)
    (hon : (f a).state.onHill = false)
    (hwaits : a.number ∈ ws → (f a).state = .scoring ∧ (f a).distanceStatus = .pendingSecond) :
    Records (revised a.number f as) ws j := by
  refine h.revise hf (fun r => ⟨fun hr => .inr ⟨hr, fun hn => ?_⟩, ?_⟩) (fun x hx hn hr => ?_) fun hmem x hx hn => ?_
  · obtain ⟨hmem, hr⟩ := (h.onHill r).mp hr
    rw [h.number_inj hmem ha hn, hoff] at hr
    cases hr
  · rintro (⟨x, hx, hn, rfl, hr⟩ | ⟨hr, -⟩)
    · rw [h.number_inj hx ha hn, hon] at hr; cases hr
    · exact hr
  · rw [h.number_inj hx ha hn, hon] at hr; cases hr
  · rw [h.number_inj hx ha hn]
    exact hwaits hmem

/-- What the laws read of an attempt. -/
def SameRecord (f : Attempt → Attempt) : Prop :=
  ∀ r, (f r).number = r.number ∧ (f r).round = r.round ∧ (f r).state = r.state ∧ (f r).markA = r.markA ∧ (f r).markB = r.markB
    ∧ (f r).distance = r.distance ∧ (f r).distanceStatus = r.distanceStatus

/-- A change beside what the laws read. -/
theorem touch (h : Records as ws j) (hf : SameRecord f) :
    Records (revised n f as) ws (j.map fun a => if a.number = n then f a else a) where
  numbers := by rw [revised_numbers fun r => (hf r).1, h.numbers, revised, List.length_map]
  onHill r := by
    rw [Option.map_eq_some_iff]
    constructor
    · rintro ⟨a, ha, rfl⟩
      obtain ⟨hmem, hon⟩ := (h.onHill a).mp ha
      refine ⟨List.mem_map.mpr ⟨a, hmem, rfl⟩, ?_⟩
      by_cases hn : a.number = n
      · rw [if_pos hn, (hf a).2.2.1]; exact hon
      · rw [if_neg hn]; exact hon
    · rintro ⟨hmem, hon⟩
      obtain ⟨a, ha, rfl⟩ := List.mem_map.mp hmem
      refine ⟨a, (h.onHill a).mpr ⟨ha, ?_⟩, rfl⟩
      by_cases hn : a.number = n
      · rwa [if_pos hn, (hf a).2.2.1] at hon
      · rwa [if_neg hn] at hon
  marks r hr := by
    obtain ⟨a, ha, rfl⟩ := Option.map_eq_some_iff.mp hr
    by_cases hn : a.number = n
    · obtain ⟨-, -, -, hA, hB, hdistance, hstatus⟩ := hf a
      rw [if_pos hn, hA, hB, hdistance, hstatus]
      exact h.marks a ha
    · rw [if_neg hn]
      exact h.marks a ha
  waits m hm := by
    obtain ⟨x, hx, hn, hwait⟩ := h.waits m hm
    refine ⟨_, List.mem_map.mpr ⟨x, hx, rfl⟩, ?_⟩
    by_cases hxn : x.number = n
    · obtain ⟨hnumber, -, hstate, -, -, -, hstatus⟩ := hf x
      rw [if_pos hxn, hnumber, hstate, hstatus]
      exact ⟨hn, hwait⟩
    · rw [if_neg hxn]
      exact ⟨hn, hwait⟩

theorem fewer (h : Records as ws j) (hsub : ws' ⊆ ws) : Records as ws' j := { h with waits := fun n hn => h.waits n (hsub hn) }

/-- A new attempt comes onto the hill. -/
theorem append (h : Records as ws none) (hnumber : a.number = as.length + 1) (hon : a.state.onHill = true)
    (hmarks : a.markA = none ∧ a.markB = none ∧ a.distance = none ∧ a.distanceStatus = .none) :
    Records (as ++ [a]) ws (some a) where
  numbers := by simp [h.numbers, List.range'_concat, hnumber, Nat.add_comm]
  onHill r := by
    rw [List.mem_append, List.mem_singleton]
    constructor
    · rintro hr
      cases hr
      exact ⟨.inr rfl, hon⟩
    · rintro ⟨hr | rfl, hr'⟩
      · exact absurd ((h.onHill r).mpr ⟨hr, hr'⟩) (fun hc => nomatch hc)
      · rfl
  marks r hr := Option.some.inj hr ▸ hmarks
  waits n hn := by
    obtain ⟨x, hx, hwait⟩ := h.waits n hn
    exact ⟨x, List.mem_append.mpr (.inl hx), hwait⟩

/-- Every attempt on the hill leaves it at once, and no wait runs on. -/
theorem cancel (h : Records as ws j) (hf : ∀ r, (f r).number = r.number) (hoff : ∀ r ∈ as, (f r).state.onHill = false) :
    Records (as.map f) [] none where
  numbers := by
    rw [List.map_map, List.length_map, ← h.numbers]
    exact List.map_congr_left fun r _ => hf r
  onHill r := by
    refine ⟨fun hr => (by cases hr), fun ⟨hmem, hr⟩ => ?_⟩
    obtain ⟨x, hx, rfl⟩ := List.mem_map.mp hmem
    rw [hoff x hx] at hr
    cases hr
  marks r hr := by cases hr
  waits n hn := by cases hn

end Records

/-! ## The laws -/

/-- The laws, with the attempt on the hill at hand. -/
structure Scene.Lawful (c : Scene) (j : Option Attempt) : Prop where
  records : Records c.attempts c.waits j
  round : ∀ a, j = some a → a.round = c.round ∧ c.rstate = .opened
  held : c.heldArm = true → j = none
  coach : ∀ b k, c.coach = some (b, k) → c.startList.head? = some b ∧ j = none
  moves : c.moves = true → j = none
  clear : c.clearPending = true → ∃ a, j = some a ∧ a.state = .waiting
  trap : c.watches = true → ∃ a, j = some a ∧ a.state = .inRun
  light : LightFits c.rstate (j.map Attempt.state) c.light

/-- The laws of the hill, the light, the trap and the waits. -/
def Fine (s : State) : Prop := ∃ j, (scene s).Lawful j

variable {s t : State} {j : Option Attempt} {a : Attempt} {n : Nat}

theorem Records.onHill_eq {ws : List Nat} (h : Records s.cst.attempts ws j) : onHill? s = j := by
  cases hs : onHill? s with
  | some a => exact ((h.onHill a).mpr (onHill_mem hs)).symm
  | none =>
    cases j with
    | none => rfl
    | some a =>
      obtain ⟨hmem, hon⟩ := (h.onHill a).mp rfl
      rw [HillClear.of_none hs a hmem] at hon
      cases hon

theorem Scene.Lawful.onHill (h : (scene s).Lawful j) : onHill? s = j := h.records.onHill_eq

theorem attempt_mem (h : attempt? s n = some a) : a ∈ (scene s).attempts ∧ a.number = n :=
  ⟨List.mem_of_find?_eq_some h, by simpa using List.find?_some h⟩

theorem trapRuns_iff (m : Meas) : trapRuns m = true ↔ m.trap = .ready ∨ m.trap = .counting := by
  simp [trapRuns]

theorem HillOk.records (hill : HillOk s) (hmarks : MarksOk s) : Records (scene s).attempts (scene s).waits (onHill? s) where
  numbers := hill.1
  onHill a := by
    refine ⟨onHill_mem, fun ⟨ha, hon⟩ => ?_⟩
    cases hs : onHill? s with
    | none => rw [HillClear.of_none hs a ha] at hon; cases hon
    | some b => rw [hill.onHill_unique hs ha hon]
  marks a ha := by
    obtain ⟨hmem, hon⟩ := onHill_mem ha
    exact hmarks.1 a hmem hon
  waits n hn := by
    obtain ⟨w, hw, rfl⟩ := List.mem_map.mp hn
    obtain ⟨a, ha, hwait⟩ := hmarks.2 w hw
    obtain ⟨hmem, hnumber⟩ := attempt_mem ha
    exact ⟨a, hmem, hnumber, hwait⟩

/-- The laws as the statements give them. -/
theorem fine_of_laws (hill : HillLaws s) (hclear : ClearOk s) (htrap : TrapOk s) (hlight : LightOk s) (hmarks : MarksOk s) : Fine s := by
  obtain ⟨hok, hcoach, hgate⟩ := hill
  refine ⟨onHill? s, hok.records hmarks, fun a ha => hok.round_of_onHill ha, fun hheld => (hok.2.2.2 hheld).none, fun b k hc => ?_,
    fun hm => (hgate hm).none, hclear, fun hw => htrap ((trapRuns_iff _).mp hw), hlight⟩
  obtain ⟨hhead, hnobody⟩ := hcoach b k hc
  exact ⟨hhead, hnobody.none⟩

theorem Scene.Lawful.hillOk (h : (scene s).Lawful j) : HillOk s := by
  have hon : ∀ a ∈ s.cst.attempts, a.state.onHill = true → j = some a := fun a ha hs => (h.records.onHill a).mpr ⟨ha, hs⟩
  refine ⟨h.records.numbers, ?_, fun a ha hs => h.round a (hon a ha hs), fun hheld => .of_none (h.onHill.trans (h.held hheld))⟩
  have hnodup : (s.cst.attempts.filter fun a => a.state.onHill).Nodup :=
    (List.Nodup.of_map _ (h.records.numbers ▸ List.nodup_range' (step := 1))).filter _
  match hfilter : s.cst.attempts.filter fun a => a.state.onHill with
  | [] | [_] => simp [hfilter]
  | a :: b :: rest =>
    have hmem : ∀ x ∈ a :: b :: rest, j = some x := fun x hx => by
      rw [← hfilter] at hx
      obtain ⟨hx, hs⟩ := List.mem_filter.mp hx
      exact hon x hx hs
    have hab : a = b := Option.some.inj ((hmem a (by simp)).symm.trans (hmem b (by simp)))
    rw [hfilter, hab] at hnodup
    simp at hnodup

theorem Scene.Lawful.laws (h : (scene s).Lawful j) : HillLaws s ∧ ClearOk s ∧ TrapOk s ∧ LightOk s ∧ MarksOk s := by
  have hill := h.onHill
  refine ⟨⟨h.hillOk, fun b k hc => ?_, fun hm => .of_none (hill.trans (h.moves hm))⟩, fun hp => hill ▸ h.clear hp,
    fun ht => hill ▸ h.trap ((trapRuns_iff _).mpr ht), ?_, fun a ha hs => h.records.marks a ((h.records.onHill a).mpr ⟨ha, hs⟩),
    fun w hw => ?_⟩
  · obtain ⟨hhead, hnobody⟩ := h.coach b k hc
    exact ⟨hhead, .of_none (hill.trans hnobody)⟩
  · unfold LightOk
    rw [hill]
    exact h.light
  · obtain ⟨a, ha, hn, hwait⟩ := h.records.waits w.1 (List.mem_map.mpr ⟨w, hw, rfl⟩)
    exact ⟨a, hn ▸ h.hillOk.attempt ha, hwait⟩

theorem fine_iff : Fine s ↔ HillLaws s ∧ ClearOk s ∧ TrapOk s ∧ LightOk s ∧ MarksOk s :=
  ⟨fun ⟨_, h⟩ => h.laws, fun ⟨hill, hclear, htrap, hlight, hmarks⟩ => fine_of_laws hill hclear htrap hlight hmarks⟩

end Sys2Proof

/-! PROOFS. The scene after each operation: most leave it, a few write one part of it. -/

namespace Sys2Proof

open Machine

variable (s : State)

/-! ## Operations that leave the scene -/

@[simp] theorem scene_onProf (f : Prof → Prof) : scene (s.onProf f) = scene s := rfl
@[simp] theorem scene_onFld (f : Fld → Fld) : scene (s.onFld f) = scene s := rfl
@[simp] theorem scene_onWln (f : Wln → Wln) : scene (s.onWln f) = scene s := rfl
@[simp] theorem scene_onScr (f : Scr → Scr) : scene (s.onScr f) = scene s := rfl
@[simp] theorem scene_onBrd (f : Brd → Brd) : scene (s.onBrd f) = scene s := rfl
@[simp] theorem scene_onLink (f : Link → Link) : scene (s.onLink f) = scene s := rfl
@[simp] theorem scene_onDiag (f : Diag → Diag) : scene (s.onDiag f) = scene s := rfl

/-- The scene depends on CST, STC, GATE and MEAS. -/
theorem scene_congr {s t : State} (hcst : t.cst = s.cst) (hstc : t.stc = s.stc) (hgate : t.gate = s.gate) (hmeas : t.meas = s.meas) :
    scene t = scene s := by
  unfold scene; rw [hcst, hstc, hgate, hmeas]

@[simp] theorem scene_notify (b : NoticeBody) : scene (notify b s) = scene s := rfl
@[simp] theorem scene_notifyState (n r b : Nat) (o : Option AttemptState) (x : AttemptState) :
    scene (notifyState n r b o x s) = scene s := rfl
@[simp] theorem scene_count (k : CounterKind) : scene (count k s) = scene s :=
  scene_congr (by simp) (by simp) (by simp) (by simp)
@[simp] theorem scene_reportFault (k : FaultKind) (d : Nat) : scene (reportFault k d s) = scene s := rfl
@[simp] theorem scene_setOutside (i : Option Nat) (v : Bool) : scene (setOutside i v s) = scene s :=
  scene_congr (by simp) (by simp) (by simp) (by simp)
@[simp] theorem scene_enqueueWith (k : Key) (b : Bool) : scene (enqueueWith k b s) = scene s :=
  scene_congr (by simp) (by simp) (by simp) (by simp)
@[simp] theorem scene_enqueue (k : Key) : scene (enqueue k s) = scene s := scene_enqueueWith s k false
@[simp] theorem scene_enqueueSubject (f : BoardField) (n : Nat) : scene (enqueueSubject f n s) = scene s := scene_enqueue _ _
@[simp] theorem scene_enqueueAll (ks : List Key) (b : Bool) : scene (enqueueAll ks b s) = scene s :=
  scene_congr (by simp) (by simp) (by simp) (by simp)
@[simp] theorem scene_setCompetitor (bib : Nat) (f : Competitor → Competitor) : scene (setCompetitor bib f s) = scene s := rfl
@[simp] theorem scene_reRank (bib : Nat) : scene (reRank bib s) = scene s := rfl
@[simp] theorem scene_announceRanking (b : List (Option (Nat × Option Nat × Nat))) (u : Option Nat) :
    scene (announceRanking b u s) = scene s := scene_congr (by simp) (by simp) (by simp) (by simp)
@[simp] theorem scene_notifyComplete (r : Bool) (a : Attempt) (p : Points) : scene (notifyComplete r a p s) = scene s := rfl
@[simp] theorem scene_stopWindow : scene (stopWindow s) = scene s := by
  unfold scene
  rw [stopWindow_stc]
  split <;> simp
@[simp] theorem scene_dropWindow : scene (dropWindow s) = scene s := rfl
@[simp] theorem scene_announceDistance (n : Nat) (u v : Option Nat) : scene (announceDistance n u v s) = scene s :=
  scene_congr (by simp) (by simp) (by simp) (by simp)

/-- A competitor's record changes and is re-ranked. -/
@[simp] theorem scene_reRankAfter (bib : Nat) {change : State → State} (h : ∀ s, scene (change s) = scene s) :
    scene (reRankAfter bib change s) = scene s := by
  simp [reRankAfter, h]

/-! ## Operations that write a part of it -/

@[simp] theorem scene_setAttempt (n : Nat) (f : Attempt → Attempt) :
    scene (setAttempt n f s) = { scene s with attempts := revised n f (scene s).attempts } := rfl
@[simp] theorem scene_setLight (l : Light) : scene (setLight l s) = { scene s with light := l } := by
  unfold scene
  rw [setLight_stc]
  split
  next h => simp [h]
  next h => simp [lit]
@[simp] theorem scene_updateLight : scene (updateLight s) = { scene s with light := lightFor s } := scene_setLight s _
@[simp] theorem scene_dropClear : scene (dropClear s) = { scene s with clearPending := false } := rfl
@[simp] theorem scene_dropHeldArm (c : DropCause) : scene (dropHeldArm c s) = { scene s with heldArm := false } := by
  unfold scene
  simp
@[simp] theorem scene_endCheck : scene (endCheck s) = { scene s with rstate := endChecked s.cst } := by
  unfold scene
  simp
@[simp] theorem scene_onGate (f : Gate → Gate) : scene (s.onGate f) = { scene s with moves := (f s.gate).state.motion } := rfl
@[simp] theorem scene_requestReturn : scene (requestReturn s) = { scene s with moves := (requestReturn s).gate.state.motion } := by
  unfold scene
  simp
@[simp] theorem scene_returnInIdle : scene (returnInIdle s) = { scene s with moves := (returnInIdle s).gate.state.motion } := by
  unfold scene
  simp
@[simp] theorem scene_startMove (k : MoveKind) (c t : Nat) :
    scene (startMove k c t s) = { scene s with moves := (startMove k c t s).gate.state.motion } := by
  unfold scene
  simp
@[simp] theorem scene_manualMove (k : MoveKind) (t : Nat) : scene (manualMove k t s) = scene s := by
  simp [manualMove, scene]

end Sys2Proof

/-! PROOFS. How the laws of the hill pass from one scene to the next: an attempt comes onto the hill, stays, leaves, or changes beside
it; the light follows, the gate returns, the round ends. -/

namespace Sys2Proof

open Machine

variable {s t : State} {c : Scene} {j : Option Attempt} {a : Attempt} {n : Nat} {f : Attempt → Attempt} {l : Light}

theorem Fine.of_scene (h : Fine s) (hs : scene t = scene s) : Fine t := by
  unfold Fine
  rw [hs]
  exact h

/-- What `lightFor` gives fits (R40). -/
theorem lightFits_lightFor (s : State) : LightFits s.cst.rstate ((onHill? s).map Attempt.state) (lightFor s) := by
  unfold lightFor
  cases hr : s.cst.rstate with
  | none => rfl
  | confirmed => rfl
  | opened | suspended | ended =>
    cases ha : onHill? s with
    | none => rfl
    | some a =>
      cases hstate : a.state with
      | cleared =>
        cases hw : s.stc.window with
        | none => simp [LightFits, hstate]
        | some r =>
          by_cases hlow : r ≤ s.prof.profile.hill.warning ∧ 0 < s.prof.profile.hill.warning
          · simp [LightFits, hstate, hlow]
          · simp only [LightFits, hstate, Option.map_some, if_neg hlow, true_or]
      | _ => simp [LightFits, hstate]

namespace Scene.Lawful

/-! ## Parts that the laws leave free -/

theorem updateLight (h : ({ scene s with light := l }).Lawful j) : (scene (updateLight s)).Lawful j := by
  have hon : onHill? s = j := Records.onHill_eq h.records
  rw [scene_updateLight]
  exact { h with light := hon ▸ lightFits_lightFor s }

/-- With nobody on the hill the positioner may move. -/
theorem rest (h : c.Lawful none) (m : Bool) : ({ c with moves := m }).Lawful none := { h with moves := fun _ => rfl }

/-- A change of the positioner that does not begin a motion. -/
theorem still (h : c.Lawful j) {m : Bool} (hm : m = true → c.moves = true) : ({ c with moves := m }).Lawful j :=
  { h with moves := fun hmoves => h.moves (hm hmoves) }

/-- In motion there is nobody on the hill (R60). -/
theorem of_motion (h : (scene s).Lawful j) (hm : s.gate.state.motion = true) : (scene s).Lawful none := h.moves hm ▸ h

theorem requestReturn (h : (scene s).Lawful none) : (scene (requestReturn s)).Lawful none := by
  rw [scene_requestReturn]
  exact h.rest _

theorem coachReturn (h : (scene s).Lawful none) (a : Attempt) : (scene (coachReturn a s)).Lawful none := by
  unfold Machine.coachReturn
  split
  · exact h.requestReturn
  · exact h

/-- A new start list, once no coach reduction is pending. -/
theorem relist (h : c.Lawful j) (list : List Nat) : ({ c with coach := none, startList := list }).Lawful j :=
  { h with coach := fun _ _ hc => nomatch hc }

/-- The coach-pending record follows a new head of the list (R57), where the light has to follow too. -/
theorem afterHeadChange_unlit (h : ({ scene s with coach := none, light := l }).Lawful j) (hcoach : s.stc.coach ≠ none → j = none) :
    ({ scene (afterHeadChange s) with light := l }).Lawful j := by
  unfold Machine.afterHeadChange
  split
  next b k hc =>
    have hnobody : j = none := hcoach (by rw [hc]; exact fun hn => nomatch hn)
    subst hnobody
    split
    next hhead =>
      refine { h with coach := fun b' k' hc' => ⟨?_, rfl⟩ }
      have hbk : some (b, k) = some (b', k') := hc.symm.trans hc'
      cases hbk
      exact hhead
    · rw [scene_requestReturn]
      exact h.rest _
  next hc =>
    have hnone : ∀ b k, (scene s).coach = some (b, k) → (scene s).startList.head? = some b ∧ j = none := fun b k hbk =>
      nomatch hc.symm.trans hbk
    exact { h with coach := hnone }

theorem afterHeadChange (h : ({ scene s with coach := none }).Lawful j) (hcoach : s.stc.coach ≠ none → j = none) :
    (scene (afterHeadChange s)).Lawful j := by
  have hlight : (Machine.afterHeadChange s).stc.light = s.stc.light := by
    unfold Machine.afterHeadChange
    repeat' split
    all_goals simp
  have hall := h.afterHeadChange_unlit (l := s.stc.light) hcoach
  rw [← hlight] at hall
  exact hall

/-- A coach reduction is pending with nobody on the hill only. -/
theorem nobody_of_coach (h : (scene s).Lawful j) (hcoach : s.stc.coach ≠ none) : j = none := by
  cases hc : s.stc.coach with
  | none => exact absurd hc hcoach
  | some p => exact (h.coach p.1 p.2 hc).2

/-- The round's end changes nothing that is seen (R18). -/
theorem endCheck (h : (scene s).Lawful j) : (scene (endCheck s)).Lawful j := by
  rw [scene_endCheck]
  by_cases hended : s.cst.rstate = .opened ∧ s.cst.startList = [] ∧
      s.cst.attempts.all fun a => !(a.round == s.cst.round && (a.state.onHill || a.state == .scoring))
  · have ⟨hopen, _, hall⟩ := hended
    have hnobody : j = none := by
      cases j with
      | none => rfl
      | some a =>
        obtain ⟨ha, hon⟩ := (h.records.onHill a).mp rfl
        have := List.all_eq_true.mp hall a ha
        simp [(h.round a rfl).1, scene, hon] at this
    subst hnobody
    rw [show endChecked s.cst = .ended from if_pos hended]
    have hred : LightFits s.cst.rstate none s.stc.light := h.light
    rw [hopen] at hred
    exact { h with round := fun _ ha => (nomatch ha), light := hred }
  · rw [show endChecked s.cst = s.cst.rstate from if_neg hended]
    exact h

theorem fewer (h : c.Lawful j) {ws : List Nat} (hsub : ws ⊆ c.waits) : ({ c with waits := ws }).Lawful j :=
  { h with records := h.records.fewer hsub }

theorem uncoach (h : c.Lawful j) : ({ c with coach := none }).Lawful j := h.relist c.startList

theorem unheld (h : c.Lawful j) : ({ c with heldArm := false }).Lawful j := { h with held := fun hh => (nomatch hh) }

theorem unclear (h : c.Lawful j) : ({ c with clearPending := false }).Lawful j := { h with clear := fun hp => (nomatch hp) }

/-- The trap may watch an attempt in the in-run. -/
theorem watch (h : c.Lawful j) (hrun : j.map Attempt.state = some .inRun) (w : Bool) : ({ c with watches := w }).Lawful j :=
  { h with trap := fun _ => Option.map_eq_some_iff.mp hrun }

theorem unwatch (h : c.Lawful j) : ({ c with watches := false }).Lawful j := { h with trap := fun ht => (nomatch ht) }

/-- An ended round that opens again (R26, R29). -/
theorem reopen (h : c.Lawful j) : ({ c with rstate := if c.rstate = RoundState.ended then .opened else c.rstate }).Lawful j := by
  by_cases hended : c.rstate = .ended
  · have hnobody : j = none := by
      cases j with
      | none => rfl
      | some a => exact absurd (h.round a rfl).2 (by rw [hended]; decide)
    subst hnobody
    have hred := h.light
    rw [hended] at hred
    rw [if_pos hended]
    exact { h with round := fun _ ha => (nomatch ha), light := hred }
  · rw [if_neg hended]
    exact h

/-! ## Changes of an attempt -/

/-- A change beside what the laws read. -/
theorem touch (h : c.Lawful j) (hf : Records.SameRecord f) (n : Nat) :
    ({ c with attempts := revised n f c.attempts }).Lawful (j.map fun a : Attempt => if a.number = n then f a else a) := by
  have hsame : ∀ a : Attempt, (if a.number = n then f a else a).state = a.state ∧ (if a.number = n then f a else a).round = a.round := fun a => by
    obtain ⟨-, hround, hstate, -⟩ := hf a
    split
    · exact ⟨hstate, hround⟩
    · exact ⟨rfl, rfl⟩
  have hstate : (j.map fun a : Attempt => if a.number = n then f a else a).map Attempt.state = j.map Attempt.state := by
    rw [Option.map_map]
    exact Option.map_congr fun a _ => (hsame a).1
  refine { h with records := h.records.touch hf, round := ?_, held := ?_, coach := ?_, moves := ?_, clear := ?_, trap := ?_, light := ?_ }
  · intro r hr
    obtain ⟨a, ha, rfl⟩ := Option.map_eq_some_iff.mp hr
    rw [(hsame a).2]
    exact h.round a ha
  · exact fun hheld => by rw [h.held hheld]; rfl
  · intro b k hc
    obtain ⟨hhead, hnobody⟩ := h.coach b k hc
    exact ⟨hhead, by rw [hnobody]; rfl⟩
  · exact fun hm => by rw [h.moves hm]; rfl
  · intro hp
    obtain ⟨a, ha, hw⟩ := h.clear hp
    exact ⟨_, by rw [ha]; rfl, (hsame a).1.trans hw⟩
  · intro ht
    obtain ⟨a, ha, hr⟩ := h.trap ht
    exact ⟨_, by rw [ha]; rfl, (hsame a).1.trans hr⟩
  · rw [hstate]
    exact h.light

theorem touched (h : c.Lawful j) (hf : Records.SameRecord f) (n : Nat) : ∃ j',
    ({ c with attempts := revised n f c.attempts }).Lawful j' ∧ j'.map Attempt.state = j.map Attempt.state := by
  refine ⟨_, h.touch hf n, ?_⟩
  rw [Option.map_map]
  refine Option.map_congr fun a _ => ?_
  obtain ⟨-, -, hstate, -⟩ := hf a
  by_cases hn : a.number = n <;> simp [hn, hstate]

/-- An attempt that is not on the hill changes. -/
theorem aside (h : c.Lawful j) (ha : a ∈ c.attempts) (hoff : a.state.onHill = false) (hf : ∀ r, (f r).number = r.number)
    (hon : (f a).state.onHill = false)
    (hwaits : a.number ∈ c.waits → (f a).state = .scoring ∧ (f a).distanceStatus = .pendingSecond) :
    ({ c with attempts := revised a.number f c.attempts }).Lawful j :=
  { h with records := h.records.aside ha hoff hf hon hwaits }

/-- What goes with an attempt on the hill. -/
theorem at_hill (h : c.Lawful (some a)) : c.rstate = .opened ∧ a.round = c.round ∧ c.heldArm = false ∧ c.coach = none ∧ c.moves = false := by
  obtain ⟨hround, hopen⟩ := h.round a rfl
  refine ⟨hopen, hround, Bool.eq_false_iff.mpr fun hh => (nomatch h.held hh), ?_, Bool.eq_false_iff.mpr fun hm => (nomatch h.moves hm)⟩
  cases hc : c.coach with
  | none => rfl
  | some p => exact absurd (h.coach p.1 p.2 hc).2 fun hn => nomatch hn

/-- The attempt on the hill stays there, in another state. -/
theorem stays (h : c.Lawful (some a)) (hf : ∀ r, (f r).number = r.number ∧ (f r).round = r.round) (hon : (f a).state.onHill = true)
    (hmarks : (f a).markA = none ∧ (f a).markB = none ∧ (f a).distance = none ∧ (f a).distanceStatus = .none) {clearPending watches : Bool}
    (hlight : LightFits .opened (some (f a).state) l) (hclear : clearPending = true → (f a).state = .waiting)
    (htrap : watches = true → (f a).state = .inRun) :
    ({ c with attempts := revised a.number f c.attempts, light := l, clearPending, watches }).Lawful (some (f a)) := by
  obtain ⟨hopen, hround, hheld, hcoach, hmoves⟩ := h.at_hill
  refine ⟨h.records.stays (fun r => (hf r).1) hon hmarks, fun r hr => ?_, fun hh => absurd (hh : c.heldArm = true) (by simp [hheld]),
    fun b k hc => absurd (hc : c.coach = some (b, k)) (by simp [hcoach]), fun hm => absurd (hm : c.moves = true) (by simp [hmoves]),
    fun hp => ⟨f a, rfl, hclear hp⟩, fun ht => ⟨f a, rfl, htrap ht⟩, ?_⟩
  · rw [← Option.some.inj hr, (hf a).2]
    exact ⟨hround, hopen⟩
  · change LightFits c.rstate _ l
    rw [hopen]
    exact hlight

/-- The attempt on the hill leaves it. -/
theorem leaves (h : c.Lawful (some a)) (hf : ∀ r, (f r).number = r.number) (hon : (f a).state.onHill = false)
    {clearPending watches : Bool} (hclear : clearPending = false) (htrap : watches = false) :
    ({ c with attempts := revised a.number f c.attempts, light := .red, clearPending, watches }).Lawful none := by
  obtain ⟨hopen, -, -, hcoach, -⟩ := h.at_hill
  refine ⟨h.records.leaves hf hon, fun _ hr => (nomatch hr), fun _ => rfl, fun b k hc => absurd (hc : c.coach = some (b, k)) (by simp [hcoach]),
    fun _ => rfl, fun hp => absurd (hp : clearPending = true) (by simp [hclear]), fun ht => absurd (ht : watches = true) (by simp [htrap]), ?_⟩
  change LightFits c.rstate none .red
  rw [hopen]
  rfl

/-- A clear is pending for an attempt in WAITING only, and the trap watches one in the in-run. -/
theorem idle (h : c.Lawful (some a)) : (a.state ≠ .waiting → c.clearPending = false) ∧ (a.state ≠ .inRun → c.watches = false) := by
  refine ⟨fun hs => Bool.eq_false_iff.mpr fun hp => ?_, fun hs => Bool.eq_false_iff.mpr fun ht => ?_⟩
  · obtain ⟨_, ha, hw⟩ := h.clear hp
    cases ha
    exact hs hw
  · obtain ⟨_, ha, hr⟩ := h.trap ht
    cases ha
    exact hs hr

/-- With nobody on the hill no clear is pending and the trap does not watch. -/
theorem nobody (h : c.Lawful none) : c.clearPending = false ∧ c.watches = false := by
  refine ⟨Bool.eq_false_iff.mpr fun hp => ?_, Bool.eq_false_iff.mpr fun ht => ?_⟩
  · obtain ⟨_, ha, -⟩ := h.clear hp
    cases ha
  · obtain ⟨_, ha, -⟩ := h.trap ht
    cases ha

/-- An attempt comes onto the hill. -/
theorem arms (h : c.Lawful none) (hopen : c.rstate = .opened) (hheld : c.heldArm = false) (hmoves : c.moves = false)
    (bib : Nat) (coach : Option Nat) (list : List Nat) :
    ({ c with attempts := c.attempts ++ [newAttempt (c.attempts.length + 1) c.round bib coach], startList := list, light := .amber,
              clearPending := false, coach := none }).Lawful (some (newAttempt (c.attempts.length + 1) c.round bib coach)) := by
  obtain ⟨-, hwatches⟩ := h.nobody
  refine ⟨h.records.append rfl rfl ⟨rfl, rfl, rfl, rfl⟩, fun r hr => ?_, fun hh => absurd (hh : c.heldArm = true) (by simp [hheld]),
    fun _ _ hc => (nomatch hc), fun hm => absurd (hm : c.moves = true) (by simp [hmoves]), fun hp => (nomatch hp),
    fun ht => absurd (ht : c.watches = true) (by simp [hwatches]), ?_⟩
  · cases hr
    exact ⟨rfl, hopen⟩
  · change LightFits c.rstate (some .waiting) .amber
    rw [hopen]
    rfl

end Scene.Lawful

end Sys2Proof

/-! PROOFS. The laws of the hill at the bar: an arm, a green, a lapse, a leave, a void and a stop (R38, R42 to R55). -/

namespace Sys2Proof

open Machine

variable {s t : State} {j : Option Attempt} {a : Attempt} {n : Nat} {f : Attempt → Attempt}

/-! ## Arming (R43, R45) -/

/-- The coach reduction goes with the head of the list (R56). -/
theorem Scene.Lawful.coachSteps (h : (scene s).Lawful j) {bib : Nat} {rest : List Nat} (hlist : s.cst.startList = bib :: rest) :
    (if (coachSteps s bib).isSome then none else s.stc.coach) = none := by
  unfold Machine.coachSteps
  cases hc : s.stc.coach with
  | none => rfl
  | some p =>
    have hhead : s.cst.startList.head? = some p.1 := (h.coach p.1 p.2 hc).1
    rw [hlist, List.head?_cons, Option.some.injEq] at hhead
    simp [hhead]

theorem Scene.Lawful.armEffect (h : (scene s).Lawful none) (hopen : s.cst.rstate = .opened) (hheld : s.stc.heldArm = false)
    (hmoves : s.gate.state.motion = false) : Fine (armEffect s) := by
  cases hlist : s.cst.startList with
  | nil =>
    have hsame : Machine.armEffect s = s := by simp only [Machine.armEffect, hlist]
    rw [hsame]
    exact ⟨none, h⟩
  | cons bib rest =>
    have hlit := h.arms hopen hheld hmoves bib (Machine.coachSteps s bib) rest
    rw [← h.coachSteps hlist] at hlit
    simp only [Machine.armEffect, hlist]
    exact .of_scene ⟨_, Scene.Lawful.updateLight hlit⟩ (by rw [scene_enqueueSubject, scene_notifyState])

theorem Scene.Lawful.dropHeldArm (h : (scene s).Lawful j) (cause : DropCause) : (scene (dropHeldArm cause s)).Lawful j := by
  rw [scene_dropHeldArm]
  exact h.unheld

/-- A held arm when the positioner has come to rest (R45). -/
theorem Scene.Lawful.takeHeldArm (h : (scene s).Lawful j) (hmoves : s.gate.state.motion = false) : Fine (takeHeldArm s) := by
  unfold Machine.takeHeldArm
  split
  next hheld =>
    have hnobody : j = none := h.held hheld
    subst hnobody
    split
    · exact ⟨none, h.dropHeldArm _⟩
    next hopen =>
      split
      · exact ⟨none, h.dropHeldArm _⟩
      · exact Scene.Lawful.armEffect (s := s.onStc fun c => { c with heldArm := false }) h.unheld (not_not.mp hopen) rfl hmoves
  · exact ⟨j, h⟩

/-! ## Green (R46, R48, R49) -/

theorem Scene.Lawful.giveGreen (h : (scene s).Lawful (some a)) (hwaiting : a.state = .waiting) : Fine (giveGreen a s) := by
  have hmarks := h.records.marks a rfl
  have hwatches := h.idle.2 (by rw [hwaiting]; decide)
  have hlit := h.stays (f := greened s.link.clock s.gate) (l := .green) (clearPending := false) (watches := (scene s).watches)
    (fun _ => ⟨rfl, rfl⟩) rfl hmarks (.inl rfl) (fun hp => nomatch hp) (fun ht => by rw [hwatches] at ht; cases ht)
  have hlight : (scene (Machine.updateLight (cleared a s))).Lawful (some (greened s.link.clock s.gate a)) :=
    Scene.Lawful.updateLight (l := .green) hlit
  rw [giveGreen_eq]
  exact .of_scene ⟨_, hlight⟩ (by rw [scene_notifyState, scene_count, scene_enqueue, scene_enqueue])

theorem scene_withholdGreen (a : Attempt) (s : State) : scene (withholdGreen a s) = scene s := by
  simp only [withholdGreen]
  split
  · exact scene_count s _
  · exact (scene_notify _ _).trans (scene_count s _)

theorem Fine.judgeClear (h : Fine s) : Fine (judgeClear s) := by
  unfold Machine.judgeClear
  split
  next hpending =>
    split
    next a ha =>
      obtain ⟨j, hj⟩ := h
      obtain rfl := hj.onHill.symm.trans ha
      obtain ⟨b, hb, hwaiting⟩ := hj.clear hpending
      cases hb
      split
      · exact hj.giveGreen hwaiting
      · exact .of_scene ⟨_, hj⟩ (scene_withholdGreen a s)
    · exact h
  · exact h

/-! ## The lapse (R51) -/

theorem Scene.Lawful.lapse (h : (scene s).Lawful (some a)) (hstate : a.state = .cleared) : Fine (lapse a s) := by
  obtain ⟨hclear, htrap⟩ := h.idle
  have hleft := h.leaves (f := fun r => { r with state := .lapsed }) (fun _ => rfl) rfl (hclear (by rw [hstate]; decide))
    (htrap (by rw [hstate]; decide))
  have hlit : (scene (Machine.updateLight (setAttempt a.number (fun r => { r with state := .lapsed }) s))).Lawful none :=
    Scene.Lawful.updateLight (l := .red) hleft
  have hranked : scene (lapsedRanked a s) = scene (Machine.updateLight (setAttempt a.number (fun r => { r with state := .lapsed }) s)) := by
    rw [lapsedRanked, scene_reRankAfter _ _ (scene_setCompetitor · _ _), lapsedAtBar, scene_stopWindow]
  rw [lapse_eq]
  refine ⟨none, (Scene.Lawful.endCheck ?_).coachReturn a⟩
  rw [scene_notifyState, scene_count, hranked]
  exact hlit

theorem Fine.windowExpired (h : Fine s) : Fine (windowExpired s) := by
  unfold Machine.windowExpired
  split
  · split
    next a ha =>
      split
      next hstate =>
        obtain ⟨j, hj⟩ := h
        obtain rfl := hj.onHill.symm.trans ha
        exact hj.lapse hstate
      · exact h
    · exact h
  · exact h

/-! ## Leave (R52) -/

/-- WLN and MEAS take an attempt that is in the in-run. -/
theorem Scene.Lawful.handLeave (h : (scene s).Lawful j) (hrun : j.map Attempt.state = some .inRun) (n : Nat) : Fine (handLeave n s) := by
  obtain ⟨j', hj, hstate⟩ := h.touched (f := sampling) (fun _ => ⟨rfl, rfl, rfl, rfl, rfl, rfl, rfl⟩) n
  have hscene : scene (Machine.handLeave n s) =
      { scene s with attempts := revised n sampling (scene s).attempts, watches := trapRuns (watching n s) } := by
    rw [handLeave_eq]
    have hwaits : (watching n s).waits = s.meas.waits := by unfold watching; split <;> rfl
    simp [scene, hwaits, revised, changed]
  unfold Fine
  rw [hscene]
  exact ⟨j', hj.watch (hstate.trans hrun) _⟩

theorem Scene.Lawful.launched {x : State} (h : ({ scene x with light := .red }).Lawful j) (hrun : j.map Attempt.state = some .inRun)
    (a : Attempt) : Fine (launched a x) :=
  .of_scene (h.updateLight.handLeave hrun a.number) (scene_notifyState _ _ _ _ _ _)

theorem Scene.Lawful.leaveBar (h : (scene s).Lawful (some a)) (hbar : a.state = .waiting ∨ a.state = .cleared) (stamp : Nat)
    (manual : Bool) : Fine (leaveBar a stamp manual s) := by
  obtain ⟨hclear, htrap⟩ := h.idle
  have hmarks := h.records.marks a rfl
  have hwatches : (scene s).watches = false := htrap (by rcases hbar with h | h <;> rw [h] <;> decide)
  have hruns : ∀ f : Attempt → Attempt, (∀ r, (f r).number = r.number ∧ (f r).round = r.round) → (f a).state = .inRun →
      ((f a).markA = none ∧ (f a).markB = none ∧ (f a).distance = none ∧ (f a).distanceStatus = .none) →
      ({ scene s with attempts := revised a.number f (scene s).attempts, light := .red, clearPending := false,
                      watches := (scene s).watches }).Lawful (some (f a)) := fun f hf hrun hmarks =>
    h.stays hf (by rw [hrun]; rfl) hmarks (by rw [hrun]; rfl) (fun hp => nomatch hp) fun _ => hrun
  rcases hbar with hstate | hstate
  · rw [leaveBar_of_waiting hstate, leaveEarly_eq]
    refine Scene.Lawful.launched (j := some (leftEarly stamp manual s.gate a)) ?_ rfl a
    rw [scene_enqueue]
    exact hruns _ (fun _ => ⟨rfl, rfl⟩) rfl hmarks
  · rw [leaveBar_of_cleared hstate]
    refine Scene.Lawful.launched (j := some (left stamp manual a)) ?_ rfl a
    rw [scene_stopWindow]
    have hpending : (scene s).clearPending = false := hclear (by rw [hstate]; decide)
    have hleft := hruns (left stamp manual) (fun _ => ⟨rfl, rfl⟩) rfl hmarks
    rw [← hpending] at hleft
    exact hleft

theorem atBar_onHill (h : atBar? s = some a) : onHill? s = some a ∧ (a.state = .waiting ∨ a.state = .cleared) := by
  obtain ⟨ha, hstate⟩ := Option.filter_eq_some_iff.mp h
  exact ⟨ha, by simpa using hstate⟩

theorem Fine.leaveEvent (h : Fine s) (stamp : Nat) : Fine (leaveEvent stamp s) := by
  unfold Machine.leaveEvent
  split
  next a hat =>
    obtain ⟨ha, hbar⟩ := atBar_onHill hat
    obtain ⟨j, hj⟩ := h
    obtain rfl := hj.onHill.symm.trans ha
    exact hj.leaveBar hbar stamp false
  · exact h.of_scene (scene_count s _)

/-! ## Voids (R38) -/

/-- The void's change of the record and of the start list. -/
def putBack (a : Attempt) (s : State) : State := returnToHead a.bib (setAttempt a.number (fun r => { r with state := .voided }) s)

theorem scene_putBack (a : Attempt) (s : State) : scene (putBack a s) =
    { scene s with attempts := revised a.number (fun r => { r with state := .voided }) (scene s).attempts,
                   startList := a.bib :: (scene s).startList,
                   rstate := if (scene s).rstate = .ended then .opened else (scene s).rstate } := rfl

/-- The attempt on the hill is taken back: nobody is on it. -/
theorem Scene.Lawful.takeBack_onHill (h : (scene s).Lawful (some a)) : (scene (takeBack a (putBack a s))).Lawful none := by
  obtain ⟨hopen, -, -, hcoach, -⟩ := h.at_hill
  obtain ⟨hclear, htrap⟩ := h.idle
  have hon := ((h.records.onHill a).mp rfl).2
  have hleft : ∀ clearPending watches : Bool, clearPending = false → watches = false →
      ({ scene (putBack a s) with light := .red, clearPending, watches }).Lawful none := by
    intro clearPending watches hc hw
    have hgone := (h.leaves (f := fun r => { r with state := .voided }) (fun _ => rfl) rfl hc hw).relist (a.bib :: (scene s).startList)
    rw [scene_putBack, if_neg (by rw [hopen]; decide)]
    rw [← hcoach] at hgone
    exact hgone
  cases hstate : a.state with
  | waiting | cleared =>
    have hback : takeBack a (putBack a s) = Machine.updateLight (stopWindow (dropClear (putBack a s))) := by simp only [takeBack, hstate]
    rw [hback]
    refine Scene.Lawful.updateLight (l := .red) ?_
    rw [scene_stopWindow]
    exact hleft false (scene s).watches rfl (htrap (by rw [hstate]; decide))
  | inRun | flight =>
    have hback : takeBack a (putBack a s) = Machine.updateLight (dropWindow (stopMeasuring (putBack a s))) := by simp only [takeBack, hstate]
    rw [hback]
    refine Scene.Lawful.updateLight (l := .red) ?_
    exact hleft (scene s).clearPending false (hclear (by rw [hstate]; decide)) rfl
  | scoring | complete | lapsed | voided | cancelled => rw [hstate] at hon; cases hon

/-- A wait runs for attempts in SCORING only. -/
theorem Records.not_waiting {as : List Attempt} {ws : List Nat} (h : Records as ws j) (ha : a ∈ as) (hstate : a.state ≠ .scoring) :
    a.number ∉ ws := fun hmem => by
  obtain ⟨x, hx, hn, hscoring, -⟩ := h.waits _ hmem
  rw [h.number_inj hx ha hn] at hscoring
  exact hstate hscoring

/-- An attempt beside the hill is taken back. -/
theorem Scene.Lawful.takeBack_aside (h : (scene s).Lawful j) (ha : a ∈ s.cst.attempts) (hoff : a.state.onHill = false) :
    ({ scene (takeBack a (putBack a s)) with coach := none }).Lawful j
      ∧ (takeBack a (putBack a s)).stc.coach = s.stc.coach := by
  have hback : ∀ ws, ws ⊆ (scene s).waits → a.number ∉ ws → ({ scene (putBack a s) with coach := none, waits := ws }).Lawful j := by
    intro ws hsub hnot
    have hvoid := (h.fewer hsub).aside (f := fun r => { r with state := .voided }) ha hoff (fun _ => rfl) rfl fun hmem => absurd hmem hnot
    exact (hvoid.relist (a.bib :: (scene s).startList)).reopen
  have hsame : a.state ≠ .scoring → ({ scene (putBack a s) with coach := none }).Lawful j := fun hstate =>
    hback (scene s).waits (List.Subset.refl _) (h.records.not_waiting ha hstate)
  cases hstate : a.state with
  | scoring =>
    have hscene : scene (takeBack a (putBack a s)) =
        { scene (putBack a s) with waits := ((putBack a s).meas.waits.filter fun w => w.1 != a.number).map Prod.fst } := by
      simp only [takeBack, hstate]
      split <;> rfl
    have hcoach : (takeBack a (putBack a s)).stc.coach = s.stc.coach := by
      simp only [takeBack, hstate]
      split <;> rfl
    rw [hscene]
    refine ⟨hback _ (List.map_subset _ List.filter_sublist.subset) fun hmem => ?_, hcoach⟩
    obtain ⟨w, hw, hn⟩ := List.mem_map.mp hmem
    have := (List.mem_filter.mp hw).2
    simp [hn] at this
  | complete | lapsed =>
    have hstc : (takeBack a (putBack a s)).stc = (putBack a s).stc := by
      simp only [takeBack, hstate]
      exact reRankAfter_stc _ _ _
    have hscene : scene (takeBack a (putBack a s)) = scene (putBack a s) := by
      simp only [takeBack, hstate]
      exact scene_reRankAfter _ _ fun _ => rfl
    rw [hscene, hstc]
    exact ⟨hsame (by rw [hstate]; decide), rfl⟩
  | voided | cancelled =>
    have hback : takeBack a (putBack a s) = putBack a s := by simp only [takeBack, hstate]
    rw [hback]
    exact ⟨hsame (by rw [hstate]; decide), rfl⟩
  | waiting | cleared | inRun | flight => rw [hstate] at hoff; cases hoff

theorem voidAttempt_putBack (a : Attempt) (s : State) : voidAttempt a s = afterHeadChange (coachReturn a
    (notifyState a.number a.round a.bib (some a.state) .voided (takeBack a (putBack a s)))) := rfl

/-- The attempt on the hill is voided. -/
theorem Scene.Lawful.voidAttempt_onHill (h : (scene s).Lawful (some a)) : (scene (voidAttempt a s)).Lawful none := by
  have hback : (scene (notifyState a.number a.round a.bib (some a.state) .voided (takeBack a (putBack a s)))).Lawful none := by
    rw [scene_notifyState]
    exact h.takeBack_onHill
  rw [voidAttempt_putBack]
  exact Scene.Lawful.afterHeadChange (hback.coachReturn a).uncoach fun _ => rfl

/-- An attempt beside the hill is voided. -/
theorem Scene.Lawful.voidAttempt_aside (h : (scene s).Lawful j) (ha : a ∈ s.cst.attempts) (hoff : a.state.onHill = false) :
    (scene (voidAttempt a s)).Lawful j := by
  obtain ⟨hback, hcoach⟩ := h.takeBack_aside ha hoff
  have hsame : Machine.coachReturn a (notifyState a.number a.round a.bib (some a.state) .voided (takeBack a (putBack a s))) =
      notifyState a.number a.round a.bib (some a.state) .voided (takeBack a (putBack a s)) := if_neg (by simp [hoff])
  rw [voidAttempt_putBack, hsame]
  exact Scene.Lawful.afterHeadChange hback fun hsome => h.nobody_of_coach fun hc => hsome (hcoach.trans hc)

theorem Fine.voidAttempt (h : Fine s) (ha : a ∈ s.cst.attempts) : Fine (voidAttempt a s) := by
  obtain ⟨j, hj⟩ := h
  cases hon : a.state.onHill with
  | true =>
    obtain rfl := (hj.records.onHill a).mpr ⟨ha, hon⟩
    exact ⟨none, hj.voidAttempt_onHill⟩
  | false => exact ⟨j, hj.voidAttempt_aside ha hon⟩

/-! ## Stop (R55) -/

theorem Fine.touch (h : Fine s) (hf : Records.SameRecord f) (n : Nat) : Fine (setAttempt n f s) := by
  obtain ⟨j, hj⟩ := h
  exact ⟨_, hj.touch hf n⟩

theorem Fine.dropHeldArm (h : Fine s) (cause : DropCause) : Fine (dropHeldArm cause s) := by
  obtain ⟨j, hj⟩ := h
  exact ⟨j, hj.dropHeldArm cause⟩

theorem Fine.stopEvent (h : Fine s) (cause : DropCause) : Fine (stopEvent cause s) := by
  unfold Machine.stopEvent
  split
  next a ha =>
    split
    · exact h.voidAttempt (onHill_mem ha).1
    · exact h.touch (f := fun r => { r with juryStopped := true }) (fun _ => ⟨rfl, rfl, rfl, rfl, rfl, rfl, rfl⟩) a.number
  · exact h.dropHeldArm cause

end Sys2Proof

/-! PROOFS. The laws of the hill through the positioner's work: its pulses, timers and requests (R56, R60 to R69). -/

namespace Sys2Proof

open Machine

variable {s t : State} {j : Option Attempt}

/-! ## Motion -/

theorem Scene.Lawful.onGate (h : (scene s).Lawful none) (f : Gate → Gate) : (scene (s.onGate f)).Lawful none := by
  rw [scene_onGate]
  exact h.rest _

/-- In motion any change of GATE is lawful. -/
theorem Scene.Lawful.onGate_moving (h : (scene s).Lawful j) (hm : s.gate.state.motion = true) (f : Gate → Gate) :
    (scene (s.onGate f)).Lawful none := (h.of_motion hm).onGate f

theorem Scene.Lawful.startMove (h : (scene s).Lawful none) (kind : MoveKind) (c target : Nat) :
    (scene (startMove kind c target s)).Lawful none := by
  rw [scene_startMove]
  exact h.rest _

theorem Scene.Lawful.returnInIdle (h : (scene s).Lawful none) : (scene (returnInIdle s)).Lawful none := by
  rw [scene_returnInIdle]
  exact h.rest _

theorem Fine.manualMove (h : Fine s) (kind : MoveKind) (target : Nat) : Fine (manualMove kind target s) :=
  h.of_scene (scene_manualMove s kind target)

/-- In FAULT nothing moves, no arm is held and no coach reduction is pending (R65). -/
theorem scene_enterFault (kind : FaultKind) (last : Option Nat) (s : State) :
    scene (enterFault kind last s) = { scene s with moves := false, heldArm := false, coach := none } := by
  unfold scene
  rw [enterFault_gate, enterFault_stc]
  simp [enterFault, gateFaulted, GateState.motion]

theorem Scene.Lawful.enterFault (h : (scene s).Lawful none) (kind : FaultKind) (last : Option Nat) : Fine (enterFault kind last s) := by
  refine ⟨none, ?_⟩
  rw [scene_enterFault]
  exact ((h.rest false).unheld).uncoach

/-! ## Index pulses and timers -/

theorem pulseMoving_cases (d : Direction) (s : State) : pulseMoving d s = s ∨ ∃ f, pulseMoving d s = s.onGate f := by
  unfold pulseMoving
  split
  · split
    · exact .inr ⟨_, rfl⟩
    · exact .inr ⟨_, rfl⟩
  · exact .inl rfl

theorem Scene.Lawful.pulseMoving (h : (scene s).Lawful none) (d : Direction) : Fine (pulseMoving d s) := by
  rcases pulseMoving_cases d s with heq | ⟨f, heq⟩
  · rw [heq]
    exact ⟨none, h⟩
  · rw [heq]
    exact ⟨none, h.onGate f⟩

theorem Scene.Lawful.pulseSettling (h : (scene s).Lawful none) : Fine (pulseSettling s) := by
  have hcount : (scene (count .gateStray s)).Lawful none := by rw [scene_count]; exact h
  simp only [Machine.pulseSettling]
  split
  · split
    · exact ⟨none, hcount.onGate _⟩
    · exact hcount.enterFault _ _
  · exact ⟨none, hcount⟩

theorem Fine.indexPulse (h : Fine s) : Fine (indexPulse s) := by
  obtain ⟨j, hj⟩ := h
  unfold Machine.indexPulse
  split
  · have hout : (scene (setOutside (lineOf s .gateIndex) false s)).Lawful j := by rw [scene_setOutside]; exact hj
    generalize setOutside (lineOf s .gateIndex) false s = x at hout
    simp only []
    cases hstate : x.gate.state with
    | movingUp => exact (hout.of_motion (by rw [hstate]; rfl)).pulseMoving _
    | movingDown => exact (hout.of_motion (by rw [hstate]; rfl)).pulseMoving _
    | settling => exact (hout.of_motion (by rw [hstate]; rfl)).pulseSettling
    | homing => exact ⟨j, hout⟩
    | idle | unknown | fault | manual => exact .of_scene ⟨j, hout⟩ (scene_count x _)
  · exact ⟨j, hj⟩

theorem scene_reached (s : State) : scene (reached s) = { scene s with moves := false } := by
  simp [reached, GateState.motion]

/-- The target is reached: a return that waits, else a held arm (R45, R64, R69). -/
theorem Scene.Lawful.arrive (h : (scene s).Lawful none) : Fine (arrive s) := by
  have hreached : (scene (reached s)).Lawful none := by
    rw [scene_reached]
    exact h.rest false
  have hreturned : (scene (returnedAfter s)).Lawful none := by
    unfold returnedAfter
    split
    · exact hreached.returnInIdle
    · exact hreached
  rw [arrive_eq]
  split
  next hidle => exact hreturned.takeHeldArm (by rw [hidle]; rfl)
  · exact ⟨none, hreturned⟩

theorem Fine.settleExpired (h : Fine s) : Fine (settleExpired s) := by
  obtain ⟨j, hj⟩ := h
  unfold Machine.settleExpired
  split
  next hsettling =>
    have hm : s.gate.state.motion = true := by rw [hsettling.2]; rfl
    have hstop := hj.onGate_moving hm fun g => { g with settleTimer := none }
    simp only []
    split
    · exact hstop.arrive
    · split
      · exact hstop.enterFault _ _
      · split
        · exact ⟨none, hstop.onGate _⟩
        · exact ⟨none, hstop⟩
  · exact ⟨j, hj⟩

theorem Fine.stepTimedOut (h : Fine s) : Fine (stepTimedOut s) := by
  obtain ⟨j, hj⟩ := h
  unfold Machine.stepTimedOut
  split
  next hmoving =>
    refine (hj.of_motion ?_).enterFault _ _
    rcases hmoving.2 with h | h <;> rw [h] <;> rfl
  · exact ⟨j, hj⟩

theorem Fine.homeTimedOut (h : Fine s) : Fine (homeTimedOut s) := by
  obtain ⟨j, hj⟩ := h
  unfold Machine.homeTimedOut
  split
  next hhoming => exact (hj.of_motion (by rw [hhoming.2]; rfl)).enterFault _ _
  · exact ⟨j, hj⟩

theorem Fine.gateHome (h : Fine s) (active : Bool) : Fine (gateHome active s) := by
  obtain ⟨j, hj⟩ := h
  unfold Machine.gateHome
  split
  · have hout : (scene (setOutside (lineOf s .gateHome) (!active) s)).Lawful j := by rw [scene_setOutside]; exact hj
    simp only []
    split
    next hhoming => exact ⟨none, hout.onGate_moving (by rw [hhoming.2]; rfl) _⟩
    · exact ⟨j, hout⟩
  · exact ⟨j, hj⟩

/-! ## Requests (R42, R56, R62, R66) -/

theorem Fine.ite {c : Prop} [Decidable c] {a b : Served} (ha : c → Fine a.st) (hb : ¬c → Fine b.st) : Fine (if c then a else b).st := by
  split
  next hc => exact ha hc
  next hc => exact hb hc

theorem Scene.Lawful.nobody_of_isSome (h : (scene s).Lawful j) (hno : ¬(onHill? s).isSome = true) : (scene s).Lawful none := by
  have hnone : j = none := by rw [← h.onHill]; simpa using hno
  exact hnone ▸ h

/-- A request that is served with nobody on the hill only. -/
theorem Fine.unless_onHill {a b : Served} (h : Fine s) (ha : Fine a.st) (hb : (scene s).Lawful none → Fine b.st) :
    Fine (if (onHill? s).isSome = true then a else b).st := by
  obtain ⟨j, hj⟩ := h
  exact Fine.ite (fun _ => ha) fun hno => hb (hj.nobody_of_isSome hno)

theorem Fine.serveMoveGate (h : Fine s) (target : Nat) : Fine (serveMoveGate target s).st := by
  unfold Machine.serveMoveGate
  refine ite (fun _ => h) fun _ => h.unless_onHill h fun hnobody => ite (fun _ => h) fun _ => ite (fun _ => h) fun _ => ite (fun _ => h) fun _ => ?_
  have hjury := hnobody.onGate fun g => { g with jury := some target }
  exact ite (fun _ => ite (fun _ => Fine.manualMove ⟨_, hjury⟩ _ _) fun _ => ⟨_, hjury.startMove _ _ _⟩) fun _ => ⟨_, hjury⟩

theorem Fine.serveHomeGate (h : Fine s) : Fine (serveHomeGate s).st := by
  unfold Machine.serveHomeGate
  refine ite (fun _ => h) fun _ => ite (fun _ => h) fun _ => h.unless_onHill h fun hnobody => ite (fun _ => h) fun _ => ite (fun _ => ?_) fun _ => ?_
  · exact .of_scene ⟨none, hnobody.onGate _⟩ ((scene_enqueue _ _).trans (scene_notify _ _))
  · exact .of_scene ⟨none, hnobody.onGate _⟩ (scene_notify _ _)

theorem Fine.serveCoachReduction (h : Fine s) (bib k : Nat) : Fine (serveCoachReduction bib k s).st := by
  unfold Machine.serveCoachReduction
  refine ite (fun _ => h) fun _ => ite (fun _ => h) fun _ => h.unless_onHill h fun hnobody => ite (fun _ => h) fun _ =>
    ite (fun _ => h) fun hhead => ite (fun _ => h) fun _ => ?_
  split
  · exact h
  refine ite (fun _ => h) fun _ => ite (fun _ => h) fun _ => ?_
  have hcoach : (scene (s.onStc fun c => { c with coach := some (bib, k) })).Lawful none := by
    refine { hnobody with coach := fun b k' hc => ⟨?_, rfl⟩ }
    cases hc
    exact not_not.mp hhead
  exact ite (fun _ => ite (fun _ => Fine.manualMove ⟨_, hcoach⟩ _ _) fun _ => ⟨_, hcoach.startMove _ _ _⟩) fun _ => ⟨_, hcoach⟩

end Sys2Proof

/-! PROOFS. The laws of the hill through the requests and the events of the start (R13, R42 to R55). -/

namespace Sys2Proof

open Machine

variable {s t : State} {j : Option Attempt} {a : Attempt}

namespace Fine

/-! ## Timers and lines -/

theorem flashExpired (h : Fine s) : Fine (flashExpired s) := by
  unfold Machine.flashExpired
  split
  · exact h
  · exact h

/-- The light follows. -/
theorem updateLight (h : Fine s) : Fine (updateLight s) := by
  obtain ⟨j, hj⟩ := h
  exact ⟨j, Scene.Lawful.updateLight (l := s.stc.light) hj⟩

theorem warningReached (h : Fine s) : Fine (warningReached s) := by
  unfold Machine.warningReached
  split
  · split
    · exact updateLight (s := s.onStc _) h
    · exact h
  · exact h

theorem countdownChanged (h : Fine s) : Fine (countdownChanged s) := by
  unfold Machine.countdownChanged
  split
  next r n _ _ =>
    split
    · exact .of_scene (s := s.onStc fun c => { c with window := some (min r ((n - 1) * 1000)), countdown := some (n - 1) }) h
        (scene_enqueue _ _)
    · exact h
  · exact h

theorem lineEdge (h : Fine s) (l : DebouncedLine) (level : Bool) : Fine (lineEdge l level s) := by
  unfold Machine.lineEdge
  split
  · exact h.of_scene (by rw [scene_onFld, scene_setOutside])
  · exact h

theorem debounced (h : Fine s) (l : DebouncedLine) (level : Bool) (stamp : Nat) : Fine (debounced l level stamp s) := by
  cases l with
  | leave =>
    cases level with
    | true => exact h.leaveEvent stamp
    | false => exact h
  | juryStop =>
    cases level with
    | true => exact h
    | false => exact h.stopEvent .juryStop

theorem debounceExpired (h : Fine s) (l : DebouncedLine) : Fine (debounceExpired l s) := by
  unfold Machine.debounceExpired
  simp only []
  split
  · exact (h.of_scene (scene_onFld s _)).debounced _ _ _
  · exact h

/-! ## Requests -/

theorem serveArmNext (h : Fine s) : Fine (serveArmNext s).st := by
  unfold Machine.serveArmNext
  refine ite (fun _ => h) fun hopen => ite (fun _ => h) fun hheld => h.unless_onHill h fun hnobody => ite (fun _ => h) fun _ =>
    ite (fun _ => h) fun _ => ite (fun _ => h) fun _ => ?_
  have hrest : s.gate.state.motion = false → Fine (armEffect s) := hnobody.armEffect (not_not.mp hopen) (Bool.eq_false_iff.mpr hheld)
  have hholds : Fine (s.onStc fun c => { c with heldArm := true }) := ⟨none, { hnobody with held := fun _ => rfl }⟩
  cases hstate : s.gate.state with
  | unknown | fault => exact h
  | idle | manual => exact hrest (by rw [hstate]; rfl)
  | movingUp | movingDown | settling | homing => exact hholds

theorem serveClear (h : Fine s) : Fine (serveClear s).st := by
  unfold Machine.serveClear
  split
  · exact h
  next a ha =>
    refine ite (fun _ => h) fun hstate => ite (fun _ => h) fun _ => ?_
    obtain ⟨j, hj⟩ := h
    obtain rfl := hj.onHill.symm.trans ha
    have hwaiting : a.state = .waiting := not_not.mp hstate
    have hpending : (scene (s.onStc fun c => { c with clearPending := true, windWaitSent := false })).Lawful (some a) :=
      { hj with clear := fun _ => ⟨a, rfl, hwaiting⟩ }
    exact ite (fun _ => hpending.giveGreen hwaiting) fun _ => ⟨_, hpending⟩

theorem serveHold (h : Fine s) : Fine (serveHold s).st := by
  unfold Machine.serveHold
  split
  · exact h
  · obtain ⟨j, hj⟩ := h
    exact ite (fun _ => ⟨j, hj.unclear⟩) fun _ => ⟨j, hj⟩

theorem serveStop (h : Fine s) : Fine (serveStop s).st := h.stopEvent .stop

theorem serveMarkLeave (h : Fine s) : Fine (serveMarkLeave s).st := by
  unfold Machine.serveMarkLeave
  refine ite (fun _ => h) fun _ => ?_
  split
  next a hat =>
    obtain ⟨ha, hbar⟩ := atBar_onHill hat
    obtain ⟨j, hj⟩ := h
    obtain rfl := hj.onHill.symm.trans ha
    exact hj.leaveBar hbar s.link.clock true
  · exact h.of_scene (scene_count s _)

theorem serveVoidAttempt (h : Fine s) (n : Nat) : Fine (serveVoidAttempt n s).st := by
  unfold Machine.serveVoidAttempt
  refine ite (fun _ => h) fun _ => ?_
  split
  · exact h
  next a ha => exact ite (fun _ => h) fun _ => ite (fun _ => h) fun _ => ite (fun _ => h) fun _ => h.voidAttempt (attempt_mem ha).1

end Fine

end Sys2Proof

/-! PROOFS. The laws of the hill through scoring: completion and recomputation, the judges' marks, the jury's figures and the
distance (R103, R116 to R119, R123, R124, R127, R128, R132). -/

namespace Sys2Proof

open Machine

variable {s t u w : State} {j : Option Attempt} {a b r : Attempt} {n : Nat} {f : Attempt → Attempt}

/-! ## An attempt beside the hill and its wait -/

theorem Records.rewait {as : List Attempt} {ws ws' : List Nat} (h : Records as ws j) (ha : a ∈ as)
    (hoff : a.state.onHill = false) (hf : ∀ r, (f r).number = r.number) (hon : (f a).state.onHill = false)
    (hws : ∀ n ∈ ws', (n ∈ ws ∧ n ≠ a.number) ∨ (n = a.number ∧ (f a).state = .scoring ∧ (f a).distanceStatus = .pendingSecond)) :
    Records (revised a.number f as) ws' j := by
  have hothers := (h.fewer (ws' := ws.filter fun n => n != a.number) List.filter_sublist.subset).aside ha hoff hf hon
    fun hmem => absurd (List.mem_filter.mp hmem).2 (by simp)
  refine { hothers with waits := fun n hn => ?_ }
  rcases hws n hn with ⟨hmem, hne⟩ | ⟨rfl, hwait⟩
  · exact hothers.waits n (List.mem_filter.mpr ⟨hmem, by simpa using hne⟩)
  · exact ⟨f a, Records.mem_revised.mpr (.inl ⟨a, ha, rfl, rfl⟩), hf a, hwait⟩

/-- An attempt that is not on the hill changes, and its wait follows. -/
theorem Scene.Lawful.rewait {c : Scene} (h : c.Lawful j) {ws : List Nat} (ha : a ∈ c.attempts) (hoff : a.state.onHill = false)
    (hf : ∀ r, (f r).number = r.number) (hon : (f a).state.onHill = false)
    (hws : ∀ n ∈ ws, (n ∈ c.waits ∧ n ≠ a.number) ∨
      (n = a.number ∧ (f a).state = .scoring ∧ (f a).distanceStatus = .pendingSecond)) :
    ({ c with attempts := revised a.number f c.attempts, waits := ws }).Lawful j :=
  { h with records := h.records.rewait ha hoff hf hon hws }

/-- A wait runs for attempts that wait for their second mark only. -/
theorem Scene.Lawful.not_waiting {c : Scene} (h : c.Lawful j) (ha : a ∈ c.attempts) (hstatus : a.distanceStatus ≠ .pendingSecond) :
    a.number ∉ c.waits := fun hmem => by
  obtain ⟨x, hx, hn, -, hpending⟩ := h.records.waits _ hmem
  rw [h.records.number_inj hx ha hn] at hpending
  exact hstatus hpending

/-! ## Completion and recomputation (R128, R132) -/

theorem not_pending_of_settled (h : settled a = true) : a.distanceStatus ≠ .pendingSecond := fun hpending => by
  rcases ((settled_iff a).mp h).1 with hd | hd | hd <;> rw [hpending] at hd <;> cases hd

theorem Scene.Lawful.completeAttempt (h : (scene s).Lawful j) (ha : attempt? s a.number = some a) (hstate : a.state = .scoring)
    (hsettled : settled a = true) : (scene (completeAttempt a s)).Lawful j := by
  obtain ⟨hmem, -⟩ := attempt_mem ha
  unfold Machine.completeAttempt
  refine Scene.Lawful.endCheck ?_
  rw [scene_notifyComplete, scene_announceRanking, scene_enqueueSubject, scene_reRank]
  exact h.aside (f := completedWith (pointsNow s a)) hmem (by rw [hstate]; rfl) (fun _ => rfl) rfl
    fun hwait => absurd hwait (h.not_waiting hmem (not_pending_of_settled hsettled))

theorem scene_repointed (a : Attempt) (p : Points) (s : State) :
    scene (repointed a p s) = { scene s with attempts := revised a.number (withPoints p) (scene s).attempts } := by
  unfold repointed
  split <;> rfl

theorem Scene.Lawful.recompute (h : (scene s).Lawful j) (ha : attempt? s a.number = some a) (hstate : a.state = .complete) :
    (scene (recompute a.number s)).Lawful j := by
  obtain ⟨hmem, -⟩ := attempt_mem ha
  have hpointed : (scene (repointed a (pointsNow s a) s)).Lawful j := by
    rw [scene_repointed]
    exact h.aside (f := withPoints (pointsNow s a)) hmem (by rw [hstate]; rfl) (fun _ => rfl)
      (by change a.state.onHill = false; rw [hstate]; rfl) fun hwait => absurd hwait (h.records.not_waiting hmem (by rw [hstate]; decide))
  rw [recompute_eq ha]
  split
  · exact hpointed
  · rw [scene_notifyComplete, scene_announceRanking, scene_enqueueSubject]
    exact hpointed

/-- The laws through SCR's follow-up of an input. -/
theorem Followed.lawful (h : Followed b w r u) (hb : attempt? w b.number = some b) (hw : (scene w).Lawful j) : (scene u).Lawful j := by
  cases h with
  | idle => exact hw
  | completes hstate hsettled => exact hw.completeAttempt hb hstate hsettled
  | recomputes hstate => exact hw.recompute hb hstate

theorem Scene.Lawful.checkCompletion (h : (scene s).Lawful j) (n : Nat) : (scene (checkCompletion n s)).Lawful j := by
  cases hb : attempt? s n with
  | none =>
    have hsame : Machine.checkCompletion n s = s := by simp only [Machine.checkCompletion, hb]
    rw [hsame]
    exact h
  | some b =>
    obtain rfl := (attempt_mem hb).2
    obtain ⟨r, hu⟩ := Followed.check hb
    exact hu.lawful hb h

theorem Scene.Lawful.afterInput (h : (scene s).Lawful j) (n : Nat) : (scene (afterInput n s)).Lawful j := by
  cases hb : attempt? s n with
  | none =>
    have hsame : Machine.afterInput n s = s := by simp only [Machine.afterInput, hb]
    rw [hsame]
    exact h
  | some b =>
    obtain rfl := (attempt_mem hb).2
    obtain ⟨r, hu⟩ := Followed.afterInput hb
    exact hu.lawful hb h

/-! ## Marks, wind and distance by requests (R103, R119, R123, R124) -/

theorem Fine.afterInput (h : Fine s) (n : Nat) : Fine (afterInput n s) := by
  obtain ⟨j, hj⟩ := h
  exact ⟨j, hj.afterInput n⟩

theorem Fine.checkCompletion (h : Fine s) (n : Nat) : Fine (checkCompletion n s) := by
  obtain ⟨j, hj⟩ := h
  exact ⟨j, hj.checkCompletion n⟩

theorem Fine.serveEnterMark (h : Fine s) (n judge mark : Nat) : Fine (serveEnterMark n judge mark s).st := by
  unfold Machine.serveEnterMark
  refine ite (fun _ => h) fun _ => ?_
  split
  · exact h
  · refine ite (fun _ => h) fun _ => ite (fun _ => h) fun _ => Fine.afterInput ?_ n
    have hmark : Fine (setAttempt n (withMark judge mark) s) :=
      h.touch (f := withMark judge mark) (fun _ => ⟨rfl, rfl, rfl, rfl, rfl, rfl, rfl⟩) n
    split
    · exact hmark.of_scene (scene_enqueueSubject _ _ _)
    · exact hmark

theorem Fine.serveCloseMarks (h : Fine s) (n : Nat) : Fine (serveCloseMarks n s).st := by
  unfold Machine.serveCloseMarks
  refine ite (fun _ => h) fun _ => ?_
  split
  · exact h
  · refine ite (fun _ => h) fun _ => ite (fun _ => h) fun _ => ite (fun _ => h) fun _ => ite (fun _ => ?_) fun _ => h
    have hclosed : Fine (setAttempt n (fun r => { r with style := .closed4 }) s) :=
      h.touch (f := closed) (fun _ => ⟨rfl, rfl, rfl, rfl, rfl, rfl, rfl⟩) n
    exact (hclosed.of_scene (scene_enqueueSubject _ _ _)).checkCompletion n

/-- The waits of the other attempts. -/
theorem mem_stopped {ws : List (Nat × Nat)} {m : Nat} (h : m ∈ (ws.filter fun w => w.1 != n).map Prod.fst) :
    m ∈ ws.map Prod.fst ∧ m ≠ n := by
  obtain ⟨w, hw, rfl⟩ := List.mem_map.mp h
  obtain ⟨hmem, hne⟩ := List.mem_filter.mp hw
  exact ⟨List.mem_map.mpr ⟨w, hmem, rfl⟩, by simpa using hne⟩

/-- An attempt that is not on the hill changes, and its wait stops. -/
theorem Scene.Lawful.stopWait (h : (scene s).Lawful j) (ha : a ∈ s.cst.attempts) (hoff : a.state.onHill = false)
    (hf : ∀ r, (f r).number = r.number) (hon : (f a).state.onHill = false) :
    (scene (stopWait a.number (setAttempt a.number f s))).Lawful j :=
  h.rewait ha hoff hf hon fun _ hm => .inl (mem_stopped hm)

theorem Fine.serveSetDistance (h : Fine s) (n d : Nat) : Fine (serveSetDistance n d s).st := by
  unfold Machine.serveSetDistance
  refine ite (fun _ => h) fun _ => ?_
  split
  · exact h
  next a ha =>
    refine ite (fun _ => h) fun _ => ite (fun _ => h) fun hstate => ?_
    obtain ⟨j, hj⟩ := h
    obtain ⟨hmem, rfl⟩ := attempt_mem ha
    have hoff : a.state.onHill = false := by
      rcases not_and_or.mp hstate with hstate | hstate <;> rw [not_not.mp hstate] <;> rfl
    have hstored : (scene (Machine.stopWait a.number (setAttempt a.number (juryDistance d) s))).Lawful j :=
      hj.stopWait hmem hoff (fun _ => rfl) hoff
    refine Fine.afterInput (.of_scene ⟨j, hstored⟩ (scene_announceDistance _ _ _ _)) a.number

theorem Fine.serveSetWind (h : Fine s) (n : Nat) (x : Int) : Fine (serveSetWind n x s).st := by
  unfold Machine.serveSetWind
  refine ite (fun _ => h) fun _ => ?_
  split
  · exact h
  · exact ite (fun _ => h) fun _ => ite (fun _ => h) fun _ =>
      (h.touch (f := juryWind x) (fun _ => ⟨rfl, rfl, rfl, rfl, rfl, rfl, rfl⟩) n).afterInput n

/-! ## The distance (R116, R117, R118) -/

theorem scene_resolving (b : Attempt) (res : Option Nat × DistanceStatus) (x : State) : scene (resolving b res x) =
    { scene x with attempts := revised b.number (resolvedAs res (entersHeld res b)) (scene x).attempts,
                   waits := (waitsAfter b.number x.prof.profile.hill.secondMarkWait b.distanceStatus res.2 x.meas.waits).map Prod.fst } := by
  have honly := resolving_only b res x
  unfold scene
  rw [resolving_cst, resolving_meas, show (resolving b res x).stc = x.stc from honly.1 .stc (by simp),
    show (resolving b res x).gate = x.gate from honly.1 .gate (by simp)]
  rfl

/-- A wait follows the status that a resolution gives. -/
theorem mem_waitsAfter {ws : List (Nat × Nat)} {m wait : Nat} {old new : DistanceStatus}
    (h : m ∈ (waitsAfter n wait old new ws).map Prod.fst) : (m ∈ ws.map Prod.fst ∧ m ≠ n) ∨ (m = n ∧ new = .pendingSecond) := by
  unfold waitsAfter at h
  split at h
  next hnew =>
    have hmem : m ∈ ws.map Prod.fst ∨ m = n := by
      split at h
      · exact .inl h
      · simpa using h
    by_cases hm : m = n
    · exact .inr ⟨hm, hnew⟩
    · exact .inl ⟨hmem.resolve_right hm, hm⟩
  next => exact .inl (mem_stopped h)

theorem Scene.Lawful.resolve (h : (scene s).Lawful j) (hb : attempt? s n = some b) (hstate : b.state = .scoring) :
    (scene (resolve n s)).Lawful j := by
  obtain ⟨hmem, rfl⟩ := attempt_mem hb
  generalize hres : resolution s.prof.profile.hill s.meas b = res
  have hresolving : (scene (resolving b res s)).Lawful j := by
    rw [scene_resolving]
    refine h.rewait hmem (by rw [hstate]; rfl) (fun _ => rfl) (by change b.state.onHill = false; rw [hstate]; rfl) fun m hm => ?_
    rcases mem_waitsAfter hm with hm | ⟨hm, hstatus⟩
    · exact .inl hm
    · exact .inr ⟨hm, hstate, hstatus⟩
  rw [resolve_eq hb, hres]
  refine Scene.Lawful.checkCompletion ?_ _
  rw [scene_announceDistance]
  exact hresolving

/-- A mark that does not come: the attempt of the number is not on the hill. -/
theorem Scene.Lawful.settleSingle (h : (scene s).Lawful j) (hoff : ∀ a, j = some a → a.number ≠ n) :
    (scene (settleSingle n s)).Lawful j := by
  unfold Machine.settleSingle
  split
  next a ha =>
    obtain ⟨hmem, rfl⟩ := attempt_mem ha
    have haside : a.state.onHill = false := Bool.eq_false_iff.mpr fun hon => hoff a ((h.records.onHill a).mpr ⟨hmem, hon⟩) rfl
    refine Scene.Lawful.checkCompletion ?_ _
    rw [scene_announceDistance]
    exact h.stopWait hmem haside (fun _ => rfl) haside
  · exact h.fewer fun m hm => (mem_stopped hm).1

/-- No wait runs for the attempt on the hill. -/
theorem Scene.Lawful.waits_off (h : (scene s).Lawful j) (hn : n ∈ (scene s).waits) : ∀ a, j = some a → a.number ≠ n := by
  rintro a rfl rfl
  exact h.records.onHill_not_mem hn

theorem Fine.waitExpired (h : Fine s) (n : Nat) : Fine (waitExpired n s) := by
  unfold Machine.waitExpired
  split
  next hany =>
    obtain ⟨j, hj⟩ := h
    obtain ⟨w, hw, hn⟩ := List.any_eq_true.mp hany
    exact ⟨j, hj.settleSingle (hj.waits_off (List.mem_map.mpr ⟨w, hw, by simpa using hn⟩))⟩
  · exact h

theorem Scene.Lawful.settleSingles (h : (scene s).Lawful j) (ns : List Nat) (hoff : ∀ n ∈ ns, ∀ a, j = some a → a.number ≠ n) :
    (scene (ns.foldl (fun s n => Machine.settleSingle n s) s)).Lawful j := by
  induction ns generalizing s with
  | nil => exact h
  | cons n ns ih =>
    exact ih (h.settleSingle (hoff n List.mem_cons_self)) fun m hm => hoff m (List.mem_cons_of_mem n hm)

theorem Fine.silenceExpired (h : Fine s) (c : Console) : Fine (silenceExpired c s) := by
  unfold Machine.silenceExpired
  split
  · have hsilent : Fine (s.onMeas fun m => m.withSilence c none) := h.of_scene (by cases c <;> rfl)
    simp only []
    split
    · obtain ⟨j, hj⟩ := hsilent
      unfold becomeSilent
      simp only []
      generalize hu : Machine.notify (.console c .active .silent) ((s.onMeas fun m => m.withSilence c none).onMeas fun m => m.withState c .silent) = u
      have hscene : scene u = scene (s.onMeas fun m => m.withSilence c none) := by
        rw [← hu]
        cases c <;> rfl
      have hu : (scene u).Lawful j := by rw [hscene]; exact hj
      exact ⟨j, hu.settleSingles _ fun n hn => hu.waits_off (List.mem_of_mem_filter hn)⟩
    · exact hsilent
  · exact h

end Sys2Proof

/-! PROOFS. The laws of the hill through the measuring: the speed trap, the end of the on-hill phase and the console lines (R106 to
R115). -/

namespace Sys2Proof

open Machine

variable {s t u w x y : State} {j : Option Attempt} {a b r : Attempt} {n : Nat} {f : Attempt → Attempt}

theorem scene_changed (n : Nat) (f : Attempt → Attempt) (s : State) :
    scene (s.onCst (changed n f)) = { scene s with attempts := revised n f (scene s).attempts } := rfl

theorem Fine.addFault (h : Fine s) (n : Nat) (d : DeferredFault) : Fine (addFault n d s) := by
  rw [addFault_eq]
  exact h.touch (f := fun a => { a with faults := joined d a.faults }) (fun _ => ⟨rfl, rfl, rfl, rfl, rfl, rfl, rfl⟩) n

/-! ## The speed trap (R106, R107, R108) -/

/-- In the in-run and in flight the light is red, and no clear is pending (R40, R46). -/
theorem Scene.Lawful.airborne {c : Scene} (h : c.Lawful (some a)) (hair : a.state = .inRun ∨ a.state = .flight) :
    c.light = .red ∧ c.clearPending = false := by
  refine ⟨?_, h.idle.1 (by rcases hair with h | h <;> rw [h] <;> decide)⟩
  have hlight := h.light
  rw [h.at_hill.1, Option.map_some] at hlight
  rcases hair with h | h <;> rw [h] at hlight <;> exact hlight

theorem Fine.breakA (h : Fine s) : Fine (breakA s) := by
  unfold Machine.breakA
  split
  next hready =>
    refine h.of_scene ?_
    simp [scene, trapRuns, hready]
  all_goals exact h

theorem Fine.cellA (h : Fine s) : Fine (cellA s) := by
  unfold Machine.cellA
  split
  · exact Fine.breakA (h.of_scene (scene_setOutside s _ _))
  · exact h

theorem Fine.endInterval (h : Fine s) (hcounting : s.meas.trap = .counting) (interval : Nat) : Fine (endInterval interval s) := by
  obtain ⟨j, hj⟩ := h
  obtain ⟨a, rfl, hrun⟩ := hj.trap (by simp [scene, trapRuns, hcounting])
  obtain ⟨hred, hclear⟩ := hj.airborne (.inl hrun)
  have hflies := hj.stays (f := tookOff s.link.clock (validSpeed s.prof.profile.hill.baseline interval)) (l := .red)
    (clearPending := (scene s).clearPending) (watches := false) (fun _ => ⟨rfl, rfl⟩) rfl (hj.records.marks a rfl) rfl
    (fun hp => absurd hp (by simp [hclear])) (fun ht => nomatch ht)
  rw [← hred] at hflies
  have hflight : (scene ((s.onMeas (timed interval)).onCst (changed a.number
      (tookOff s.link.clock (validSpeed s.prof.profile.hill.baseline interval))))).Lawful _ := hflies
  rw [endInterval_eq hj.onHill]
  exact .of_scene ⟨_, hflight⟩ ((scene_notifyState _ _ _ _ _ _).trans (scene_enqueueSubject _ _ _))

theorem Fine.breakB (h : Fine s) (interval : Nat) : Fine (breakB interval s) := by
  unfold Machine.breakB
  split
  · exact h
  · exact h.of_scene (scene_count s _)
  · exact h.of_scene (scene_count s _)
  next hcounting => exact h.endInterval hcounting interval

theorem Fine.cellB (h : Fine s) (interval : Nat) : Fine (cellB interval s) := by
  unfold Machine.cellB
  split
  · exact Fine.breakB (h.of_scene (scene_setOutside s _ _)) _
  · exact h

theorem Fine.trapTimedOut (h : Fine s) : Fine (trapTimedOut s) := by
  unfold Machine.trapTimedOut
  split
  · obtain ⟨j, hj⟩ := h
    have hspent : Fine (s.onMeas fun m => { m with trap := .spent, trapTimer := none }) := ⟨j, hj.unwatch⟩
    unfold faultOnHill
    split
    · exact hspent.addFault _ _
    · exact hspent
  · exact h

/-! ## The end of the on-hill phase (R114, R115) -/

theorem LeftHill.lawful {cause : EndCause} (h : LeftHill a b cause x w) (hx : ({ scene x with watches := false }).Lawful none) :
    (scene w).Lawful none := by
  have hscene : scene w = { scene x with
      attempts := revised a.number (offHillRecord b.samples x.meas.trap) (scene x).attempts, watches := false,
      moves := w.gate.state.motion } := by
    unfold scene
    rw [h.cst, h.meas, show w.stc = x.stc from h.only.1 .stc (by simp)]
    rfl
  rw [hscene]
  exact (hx.touch (f := offHillRecord b.samples x.meas.trap) (fun _ => ⟨rfl, rfl, rfl, rfl, rfl, rfl, rfl⟩) a.number).rest _

theorem LeftHill.attempt {cause : EndCause} (h : LeftHill a b cause x w) (hb : attempt? x a.number = some b) :
    attempt? w a.number = some (offHillRecord b.samples x.meas.trap b) :=
  attempt_changed_same (fun _ => rfl) (congrArg Cst.attempts h.cst) hb

/-- The attempt in the air ends its on-hill phase: from `s`, with its record changed by `f`. -/
theorem Scene.Lawful.leaveHill (h : (scene s).Lawful (some a)) (hair : a.state = .inRun ∨ a.state = .flight) (cause : EndCause)
    (hf : ∀ r, (f r).number = r.number ∧ (f r).bib = r.bib) (hstate : (f a).state = .scoring) (hopen : DistanceOpen (f a)) :
    LeftHill a (f a) cause (stopMarkLimit (s.onCst (changed a.number f))) (leaveHill a cause (stopMarkLimit (s.onCst (changed a.number f))))
      ∧ (scene (leaveHill a cause (stopMarkLimit (s.onCst (changed a.number f))))).Lawful none := by
  obtain ⟨hred, hclear⟩ := h.airborne hair
  obtain ⟨hmem, hon⟩ := (h.records.onHill a).mp rfl
  have hb : attempt? (stopMarkLimit (s.onCst (changed a.number f))) a.number = some (f a) :=
    attempt_changed_same (fun r => (hf r).1) rfl (h.hillOk.attempt hmem)
  have hleft := leaveHill_left hb hopen hon (hf a).2 cause
  refine ⟨hleft, hleft.lawful ?_⟩
  have hgone := h.leaves (f := f) (watches := false) (fun r => (hf r).1) (by rw [hstate]; rfl) hclear rfl
  rw [← hred] at hgone
  exact hgone

theorem Fine.markLimitExpired (h : Fine s) : Fine (markLimitExpired s) := by
  unfold Machine.markLimitExpired
  split
  · split
    next a ha =>
      split
      next hair =>
        obtain ⟨j, hj⟩ := h
        have hon : a.state.onHill = true := by rcases hair with h | h <;> rw [h] <;> rfl
        obtain rfl := (hj.records.onHill a).mpr ⟨(attempt_mem ha).1, hon⟩
        rw [limitReached_eq]
        exact ⟨none, (hj.leaveHill (f := limited) hair .limit (fun _ => ⟨rfl, rfl⟩) rfl ⟨nofun, nofun, nofun⟩).2⟩
      · exact h
    · exact h
  · exact h

/-! ## Marks (R111 to R114, R116) -/

theorem Scene.Lawful.firstMark (h : (scene s).Lawful (some a)) (hair : a.state = .inRun ∨ a.state = .flight) (c : Console)
    (raw edit : Nat) : (scene (matchedMark c raw edit a s)).Lawful none := by
  obtain ⟨hA, hB, -, hstatus⟩ := h.records.marks a rfl
  obtain ⟨hmem, -⟩ := (h.records.onHill a).mp rfl
  have hmark : markOf c a = none := by
    cases c
    · exact hA
    · exact hB
  have hopen : DistanceOpen (firstMarked c (markFrom s raw edit) (markBeyond s raw) a) := by
    unfold DistanceOpen firstMarked
    rw [storedMark_status, hstatus]
    decide
  have hkeeps := firstMarked_keeps c (markFrom s raw edit) (markBeyond s raw)
  obtain ⟨hleft, hnobody⟩ := h.leaveHill hair .mark (fun r => ⟨(hkeeps r).1, (hkeeps r).2.2.1⟩) rfl hopen
  rw [matchedMark_airborne hmark hair]
  have hb := hleft.attempt (attempt_changed_same (fun r => (hkeeps r).1) rfl (h.hillOk.attempt hmem))
  exact hnobody.resolve hb rfl

theorem Scene.Lawful.nextMark (h : (scene s).Lawful j) (ha : a ∈ s.cst.attempts) (hscoring : a.state = .scoring) (c : Console)
    (raw edit : Nat) : (scene (matchedMark c raw edit a s)).Lawful j := by
  unfold matchedMark
  split
  · exact h
  · simp only []
    generalize hf : storedMark c (markFrom s raw edit) (markBeyond s raw) = f
    have hkeeps : ∀ r, (f r).number = r.number ∧ (f r).state = r.state ∧ (f r).distanceStatus = r.distanceStatus := fun r => by
      rw [← hf]
      exact ⟨(storedMark_keeps c _ _ r).1, storedMark_state c _ _ r, storedMark_status c _ _ r⟩
    obtain ⟨-, hstate, hstatus⟩ := hkeeps a
    rw [storeMark_eq, hf]
    have hstored : (scene (s.onCst (changed a.number f))).Lawful j := by
      rw [scene_changed]
      refine h.aside ha (by rw [hscoring]; rfl) (fun r => (hkeeps r).1) (by rw [hstate, hscoring]; rfl) fun hwait => ?_
      obtain ⟨b, hb, hn, -, hpending⟩ := h.records.waits _ hwait
      rw [h.records.number_inj hb ha hn] at hpending
      exact ⟨hstate.trans hscoring, hstatus.trans hpending⟩
    have hb := attempt_changed_same (u := s.onCst (changed a.number f)) (fun r => (hkeeps r).1) rfl (h.hillOk.attempt ha)
    exact hstored.resolve hb (hstate.trans hscoring)

theorem Fine.handleMark (h : Fine s) (c : Console) (bib raw edit : Nat) : Fine (handleMark c bib raw edit s) := by
  unfold Machine.handleMark
  split
  next a ha =>
    obtain ⟨hmem, hstate⟩ := matchMark_some ha
    obtain ⟨j, hj⟩ := h
    rw [← or_assoc] at hstate
    rcases hstate with hair | hscoring
    · have hon : a.state.onHill = true := by rcases hair with h | h <;> rw [h] <;> rfl
      obtain rfl := (hj.records.onHill a).mpr ⟨hmem, hon⟩
      exact ⟨none, hj.firstMark hair c raw edit⟩
    · exact ⟨j, hj.nextMark hmem hscoring c raw edit⟩
  · exact h.of_scene ((scene_notify _ _).trans (scene_count s _))

/-! ## The console lines (R109, R110) -/

theorem Fine.validArrival (h : Fine s) (c : Console) : Fine (validArrival c s) := by
  unfold Machine.validArrival
  refine h.of_scene ?_
  simp only []
  split
  · cases c <;> rfl
  · cases c <;> rfl

theorem Fine.judgeRecord (h : Fine s) (c : Console) (r : List RxChar) : Fine (judgeRecord c r s) := by
  unfold Machine.judgeRecord takeRecord
  split
  · simp only []
    split
    · exact (h.validArrival c).handleMark _ _ _ _
    · exact h.validArrival c
  · exact h.of_scene (scene_count s _)

theorem Fine.withAssembly (h : Fine s) (c : Console) (x : List RxChar) : Fine (s.onMeas fun m => m.withAssembly c x) :=
  h.of_scene (by cases c <;> rfl)

theorem Fine.consoleByte (h : Fine s) (c : Console) (x : RxChar) : Fine (consoleByte c s x) := by
  unfold Machine.consoleByte
  split
  · exact h
  · split
    · split
      · exact h.withAssembly c _
      · exact h
    · simp only []
      split
      · exact h.withAssembly c _
      · exact (h.withAssembly c []).judgeRecord c _

theorem Fine.consoleBytes (h : Fine s) (c : Console) (xs : List RxChar) : Fine (consoleBytes c xs s) := by
  induction xs generalizing s with
  | nil => exact h
  | cons x xs ih => exact ih (h.consoleByte c x)

theorem Fine.dropPartialRecord (h : Fine s) (c : Console) : Fine (dropPartialRecord c s) := by
  unfold Machine.dropPartialRecord
  split
  · exact h
  · exact (h.withAssembly c []).of_scene (scene_count _ _)

end Sys2Proof

/-! PROOFS. The laws of the hill through the rounds, the start list, RESTART and a hard reset (R18 to R28, R71, R164, R165). -/

namespace Sys2Proof

open Machine

variable {s t : State} {c : Scene} {j : Option Attempt} {a : Attempt} {l : Light}

/-! ## Rounds (R19 to R24) -/

namespace Scene.Lawful

/-- Nobody is on the hill of a round that is not open (R32). -/
theorem nobody_of_rstate (h : c.Lawful j) (hr : c.rstate ≠ .opened) : c.Lawful none := by
  have hnobody : j = none := by
    cases j with
    | none => rfl
    | some a => exact absurd (h.round a rfl).2 hr
  exact hnobody ▸ h

/-- With nobody on the hill the round takes another state, where the light fits it. -/
theorem turn (h : c.Lawful none) {r : RoundState} (hlight : LightFits r none l) : ({ c with rstate := r, light := l }).Lawful none :=
  { h with round := fun _ ha => (nomatch ha), light := hlight }

/-- A round opens with a start list (R19). -/
theorem openWith (h : (scene s).Lawful none) (list : List Nat) : Fine (openWith list s) := by
  have hopen := (h.turn (r := .opened) (l := .red) rfl).relist list
  have hunlit := afterHeadChange_unlit (l := .red)
    (s := (s.onCst fun c => { c with round := c.round + 1, rstate := .opened, startList := list }).onGate fun g => { g with reference := none })
    { hopen with round := fun _ ha => (nomatch ha) } fun _ => rfl
  exact ⟨none, Scene.Lawful.updateLight (l := .red) hunlit⟩

end Scene.Lawful

namespace Fine

theorem serveOpenRound (h : Fine s) (source : Nat) (q : Option Nat) : Fine (serveOpenRound source q s).st := by
  obtain ⟨j, hj⟩ := h
  have h : Fine s := ⟨j, hj⟩
  unfold Machine.serveOpenRound
  refine ite (fun _ => h) fun _ => ite (fun _ => h) fun hmay => ite (fun _ => h) fun _ => ?_
  have hnobody := hj.nobody_of_rstate fun hopen : s.cst.rstate = .opened => hmay (by simp [mayOpen, hopen])
  split
  · exact hnobody.openWith []
  · exact ite (fun _ => ite (fun _ => h) fun _ => hnobody.openWith _) fun _ => h
  · exact h

theorem serveConfirmRound (h : Fine s) : Fine (serveConfirmRound s).st := by
  unfold Machine.serveConfirmRound
  refine ite (fun hended => ?_) fun _ => h
  obtain ⟨j, hj⟩ := h
  have hnobody := hj.nobody_of_rstate (by change s.cst.rstate ≠ _; rw [hended]; decide)
  exact ⟨none, Scene.Lawful.updateLight (l := .dark) (hnobody.turn rfl)⟩

/-- The jumper at the bar is voided before a suspension, and then nobody is on the hill (R21). -/
theorem voidAtBar (h : Fine s) (hno : ¬((onHill? s).any fun a => a.state == .inRun || a.state == .flight) = true) :
    (scene (voidAtBar s)).Lawful none := by
  obtain ⟨j, hj⟩ := h
  unfold Machine.voidAtBar
  cases hat : atBar? s with
  | some a =>
    obtain rfl := hj.onHill.symm.trans (atBar_onHill hat).1
    exact hj.voidAttempt_onHill
  | none =>
    have hnobody : j = none := by
      rw [← hj.onHill]
      cases ha : onHill? s with
      | none => rfl
      | some a =>
        have hon := (onHill_mem ha).2
        simp only [atBar?, ha, Option.filter_some, ite_eq_right_iff, reduceCtorEq, imp_false, Option.any_some] at hat hno
        cases hstate : a.state <;> simp [hstate, AttemptState.onHill] at hat hno hon
    subst hnobody
    exact hj

theorem serveSuspendRound (h : Fine s) : Fine (serveSuspendRound s).st := by
  unfold Machine.serveSuspendRound
  refine ite (fun _ => h) fun _ => ite (fun _ => h) fun hno => ?_
  have hdropped := (h.voidAtBar hno).dropHeldArm .suspend
  exact ⟨none, Scene.Lawful.updateLight (l := .red) (hdropped.turn (r := .suspended) rfl)⟩

theorem serveResumeRound (h : Fine s) : Fine (serveResumeRound s).st := by
  unfold Machine.serveResumeRound
  refine ite (fun hsuspended => ?_) fun _ => h
  obtain ⟨j, hj⟩ := h
  have hnobody := hj.nobody_of_rstate (by change s.cst.rstate ≠ _; rw [hsuspended]; decide)
  have hred : LightFits s.cst.rstate none s.stc.light := hnobody.light
  rw [hsuspended] at hred
  have hopened : (scene (setRoundState .opened s)).Lawful none := hnobody.turn (r := .opened) (l := s.stc.light) hred
  exact ⟨none, hopened.endCheck⟩

end Fine

/-! ### CANCEL ROUND (R23, R24) -/

theorem scene_stopped (s : State) : scene (stopped s) =
    { scene s with round := (cancelRecords s.cst).round, rstate := (cancelRecords s.cst).rstate, startList := [],
                   attempts := (cancelRecords s.cst).attempts, heldArm := false, clearPending := false, watches := false, waits := [] } := by
  unfold scene
  rw [stopped_cst, stopped_stc, stopped_gate, stopped_meas]
  rfl

/-- The round is cancelled, and everything in flight is stopped; the light has to follow. -/
theorem Scene.Lawful.stopped (h : (scene s).Lawful j) :
    ({ scene (stopped s) with coach := none, light := .dark }).Lawful none := by
  have hoff : ∀ r ∈ s.cst.attempts, (if cancelled s.cst.round r then { r with state := .cancelled } else r : Attempt).state.onHill = false :=
    fun r hr => by
      split
      · rfl
      next hkept =>
        refine Bool.eq_false_iff.mpr fun hon => hkept ?_
        have hround := (h.round r ((h.records.onHill r).mpr ⟨hr, hon⟩)).1
        have hround : r.round = s.cst.round := hround
        simp only [cancelled, hround, beq_self_eq_true, Bool.true_and, Bool.and_eq_true, bne_iff_ne, ne_eq]
        constructor <;> intro hstate <;> rw [hstate] at hon <;> cases hon
  have hrecords := h.records.cancel (f := fun r => if cancelled s.cst.round r then { r with state := .cancelled } else r)
    (fun r => by split <;> rfl) hoff
  have hdark : LightFits (cancelRecords s.cst).rstate none .dark := by
    unfold cancelRecords
    simp only []
    split <;> rfl
  rw [scene_stopped]
  exact ⟨hrecords, fun _ ha => (nomatch ha), fun _ => rfl, fun _ _ hc => (nomatch hc), fun _ => rfl, fun hp => (nomatch hp),
    fun ht => (nomatch ht), hdark⟩

theorem Scene.Lawful.cancelOpenRound (h : (scene s).Lawful j) : Fine (cancelOpenRound s) := by
  have hhead := Scene.Lawful.afterHeadChange_unlit h.stopped fun _ => rfl
  have hreturned : ({ scene (afterCancel (onHill? s) s) with light := .dark }).Lawful none := by
    rcases cancelledReturn_cases (onHill? s) (Machine.afterHeadChange (Sys2Proof.stopped s)) with hcase | hcase
    · rw [afterCancel, hcase, scene_requestReturn]
      exact hhead.rest _
    · rw [afterCancel, hcase]
      exact hhead
  exact .of_scene ⟨none, Scene.Lawful.updateLight hreturned⟩ ((scene_notify _ _).trans (scene_announceRanking _ _ _))

namespace Fine

theorem serveCancelRound (h : Fine s) : Fine (serveCancelRound s).st := by
  obtain ⟨j, hj⟩ := h
  exact ite (fun _ => hj.cancelOpenRound) fun _ => ⟨j, hj⟩

/-! ## The start list (R25 to R28) -/

theorem serveAddEntries (h : Fine s) (es : List Entry) : Fine (serveAddEntries es s).st := by
  unfold Machine.serveAddEntries
  refine ite (fun _ => h) fun _ => ite (fun _ => h) fun _ => ite (fun _ => h) fun _ => ite (fun _ => h) fun _ => ite (fun _ => h) fun _ =>
    ite (fun _ => h) fun _ => ?_
  obtain ⟨j, hj⟩ := h
  exact ⟨j, Scene.Lawful.afterHeadChange (s := s.onCst (addToList es)) (hj.relist _).reopen hj.nobody_of_coach⟩

theorem serveWithdrawEntry (h : Fine s) (bib : Nat) : Fine (serveWithdrawEntry bib s).st := by
  unfold Machine.serveWithdrawEntry
  refine ite (fun _ => h) fun _ => ite (fun _ => h) fun _ => ite (fun _ => h) fun _ => ?_
  obtain ⟨j, hj⟩ := h
  exact ⟨j, (Scene.Lawful.afterHeadChange (s := s.onCst fun c => { c with startList := c.startList.erase bib }) (hj.relist _)
    hj.nobody_of_coach).endCheck⟩

theorem serveMoveEntry (h : Fine s) (bib target : Nat) : Fine (serveMoveEntry bib target s).st := by
  unfold Machine.serveMoveEntry
  refine ite (fun _ => h) fun _ => ite (fun _ => h) fun _ => ite (fun _ => h) fun _ => ?_
  obtain ⟨j, hj⟩ := h
  exact ⟨j, Scene.Lawful.afterHeadChange (s := s.onCst fun c => { c with startList := moved bib target c.startList }) (hj.relist _)
    hj.nobody_of_coach⟩

/-! ## RESTART and a hard reset (R164, R165) -/

/-- An empty competition on a dark hill. -/
theorem of_reset (hcst : t.cst = cstReset) (hstc : t.stc = stcReset) (htrap : trapRuns t.meas = false) (hwaits : t.meas.waits = []) :
    Fine t := by
  have hscene : scene t = Scene.mk 0 .none [] [] .dark false false none t.gate.state.motion false [] := by
    unfold scene
    rw [hcst, hstc, htrap, hwaits]
    rfl
  refine ⟨none, ?_⟩
  rw [hscene]
  exact ⟨⟨rfl, by simp, fun _ ha => (nomatch ha), fun _ hn => (nomatch hn)⟩, fun _ ha => (nomatch ha), fun _ => rfl,
    fun _ _ hc => (nomatch hc), fun _ => rfl, fun hp => (nomatch hp), fun ht => (nomatch ht), rfl⟩

theorem restartEffect (s : State) : Fine (restartEffect s) := by
  have hkeeps : (Machine.restartEffect s).cst = cstReset ∧ (Machine.restartEffect s).meas = restartMeas s.meas := by
    rw [restartEffect_eq]
    constructor <;> simp
  obtain ⟨hcst, hmeas⟩ := hkeeps
  exact of_reset hcst (restartEffect_stc s) (by rw [hmeas]; rfl) (by rw [hmeas]; rfl)

theorem hardReset (cause : ResetCause) (s : State) : Fine (hardReset cause s) := by
  obtain ⟨f, ready, hu, -⟩ := applyProfile_freshState s
  obtain ⟨w, hw, -⟩ := beginPolling_wln (s := applyProfile (freshState s)) (by rw [hu]; rfl)
  rw [Machine.hardReset, hw, hu]
  exact of_reset rfl rfl rfl rfl

theorem timePasses (h : Fine s) : Fine (timePasses s) := by
  refine h.of_scene ?_
  simp [scene, Machine.timePasses, tickStc, tickGate, tickMeas, trapRuns, Function.comp_def]

end Fine

end Sys2Proof

/-! PROOFS. The light shows the hill: every request, every event, the millisecond and every reset keep the laws of the hill, the light,
the trap and the waits (R32, R34, R40, R42, R46, R56, R57, R60, R106, R114, R117). -/

namespace Sys2Proof

open Machine

variable {s t : State} {j : Option Attempt}

namespace Fine

/-! ## The wind line -/

theorem windLaw : WindLaw Fine where
  onProf _ _ h := h
  onFld _ _ h := h
  onWln _ _ h := h
  onDiag _ _ h := h
  freeCtr _ _ h := h
  notify _ _ h := h
  enqueueWith s k b h := h.of_scene (scene_enqueueWith s k b)
  sampled _ n m h := h.touch (f := fun r => { r with samples := r.samples ++ [m] }) (fun _ => ⟨rfl, rfl, rfl, rfl, rfl, rfl, rfl⟩) n
  addFault _ n d h := h.addFault n d
  judgeClear _ h := h.judgeClear

theorem wind (h : Fine s) : WindSafe Fine s := ⟨windLaw, h⟩

/-! ## The profile and the lines (R4 to R16) -/

theorem followConsoleB (h : Fine s) (inUse : Bool) : Fine (followConsoleB inUse s) := by
  unfold Machine.followConsoleB
  simp only []
  repeat' split
  all_goals exact h

theorem serveSetHill (h : Fine s) (hill : HillSection) : Fine (serveSetHill hill s).st := by
  unfold Machine.serveSetHill
  split
  · exact h
  · refine ite (fun _ => ?_) fun _ => h
    exact followConsoleB (s := (edit (fun p => { p with hill := hill }) s).onWln (followWindSettings hill)) h _

theorem serveSetSurvey (h : Fine s) (points : List SurveyPoint) : Fine (serveSetSurvey points s).st := by
  unfold Machine.serveSetSurvey
  repeat' split
  all_goals exact h

theorem followDebounce (h : Fine s) (old : List Assignment) (l : DebouncedLine) : Fine (followDebounce old l s) := by
  unfold Machine.followDebounce
  split
  · exact h
  · exact h

/-- The drive's assignment begins no motion (R16). -/
theorem motion_followDrive (complete : Bool) (g : Gate) (h : (followDrive complete g).state.motion = true) : g.state.motion = true := by
  unfold followDrive at h
  split at h
  · split at h
    · cases h
    · exact h
  · split at h
    · exact h
    · cases h

theorem setReady (h : Fine s) (level : Bool) : Fine (setReady level s) := by
  unfold Machine.setReady
  simp only []
  split
  · exact h
  · exact h

theorem followLines (h : Fine s) (old : List Assignment) : Fine (followLines old s) := by
  have hlines : Fine (s.onFld fun f => { f with written := writtenAfter old s.prof.profile.lines f.written }) := h
  have hdebounced := (hlines.followDebounce old .leave).followDebounce old .juryStop
  unfold Machine.followLines
  simp only []
  generalize Machine.followDebounce old .juryStop (Machine.followDebounce old .leave _) = u at hdebounced
  obtain ⟨j, hj⟩ := hdebounced
  have hdriven : Fine ((u.onWln (followTxen old s.prof.profile.lines)).onGate (followDrive (driveComplete s.prof.profile.lines))) :=
    ⟨j, hj.still (motion_followDrive _ u.gate)⟩
  split
  · exact hdriven
  · exact hdriven.setReady _

theorem serveSetLines (h : Fine s) (codes : List (Nat × Nat)) : Fine (serveSetLines codes s).st := by
  unfold Machine.serveSetLines
  refine ite (fun _ => h) fun _ => ?_
  split
  · exact h
  · refine ite (fun _ => h) fun _ => ?_
    split
    next l _ => exact ite (fun _ => followLines (s := edit (fun p => { p with lines := l }) s) h _) fun _ => h
    · exact h

theorem serveStoreProfile (h : Fine s) : Fine (serveStoreProfile s).st := by
  unfold Machine.serveStoreProfile
  repeat' split
  all_goals exact h

theorem serveReadProfile (h : Fine s) (selector k : Nat) : Fine (serveReadProfile selector k s).st := by
  unfold Machine.serveReadProfile
  repeat' split
  all_goals exact h

theorem serveWriteLine (h : Fine s) (line level : Nat) : Fine (serveWriteLine line level s).st := by
  unfold Machine.serveWriteLine
  repeat' split
  all_goals exact h

theorem writeEnded (h : Fine s) (verified : Bool) : Fine (writeEnded verified s) := by
  unfold Machine.writeEnded
  repeat' split
  all_goals exact h

/-! ## The board (R144 to R150) -/

theorem serveBoardMessage (h : Fine s) (line : Nat) (text : Text) : Fine (serveBoardMessage line text s).st := by
  unfold Machine.serveBoardMessage
  refine ite (fun _ => h) fun _ => ?_
  exact .of_scene (s := s.onBrd fun b => { b with messages := b.messages.set (line - 1) (text.take 32) }) h (scene_enqueue _ _)

theorem serveBoardRefresh (h : Fine s) : Fine (serveBoardRefresh s).st := by
  rw [Machine.serveBoardRefresh, done_st]
  exact h.of_scene (scene_enqueueAll s _ _)

theorem frameEnded (h : Fine s) : Fine (frameEnded s) := by
  unfold Machine.frameEnded
  split
  · exact .of_scene (s := s.onBrd fun b => { b with sender := none, pacing := some s.prof.profile.hill.pacing }) h (scene_count _ _)
  · exact h

theorem readyChanged (h : Fine s) (level : Bool) : Fine (readyChanged level s) := by
  unfold Machine.readyChanged
  split
  · exact (h.of_scene (scene_setOutside s _ _)).setReady level
  · exact h

theorem stallExpired (h : Fine s) : Fine (stallExpired s) := by
  unfold Machine.stallExpired
  split
  · exact h
  · exact h

/-! ## The link's requests and the reads (R36, R153 to R163) -/

theorem serveReadAttempt (h : Fine s) (n : Nat) : Fine (serveReadAttempt n s).st := by
  unfold Machine.serveReadAttempt
  repeat' split
  all_goals exact h

theorem serveSetCursor (h : Fine s) (selector position mode : Nat) : Fine (serveSetCursor selector position mode s).st := by
  unfold Machine.serveSetCursor
  repeat' split
  all_goals exact h

theorem serveReadAtCursor (h : Fine s) (selector : Nat) : Fine (serveReadAtCursor selector s).st := by
  unfold Machine.serveReadAtCursor
  repeat' split
  all_goals exact h

theorem serveSetClock (h : Fine s) (time : Nat) : Fine (serveSetClock time s).st := by
  unfold Machine.serveSetClock
  repeat' split
  all_goals exact h

theorem serveSetLink (h : Fine s) (rate setting : Nat) : Fine (serveSetLink rate setting s).st := by
  unfold Machine.serveSetLink
  repeat' split
  all_goals exact h

theorem serveSelectCounter (h : Fine s) (n kind qualifier : Nat) : Fine (serveSelectCounter n kind qualifier s).st := by
  unfold Machine.serveSelectCounter
  repeat' split
  all_goals exact h

/-! ## Every request and every event -/

theorem serve (h : Fine s) (i : Instr) : Fine (serve i s).st :=
  match i with
  | .setHill _ hill => h.serveSetHill hill
  | .setStation _ k presence address bearing roles => (h.wind.serveSetStation k presence address bearing roles).holds
  | .setSurvey _ points => h.serveSetSurvey points
  | .setLines _ codes => h.serveSetLines codes
  | .storeProfile _ => h.serveStoreProfile
  | .readProfile _ selector k => h.serveReadProfile selector k
  | .writeLine _ line level => h.serveWriteLine line level
  | .openRound _ source q => h.serveOpenRound source q
  | .addEntries _ es => h.serveAddEntries es
  | .withdrawEntry _ bib => h.serveWithdrawEntry bib
  | .moveEntry _ bib target => h.serveMoveEntry bib target
  | .confirmRound _ => h.serveConfirmRound
  | .cancelRound _ => h.serveCancelRound
  | .suspendRound _ => h.serveSuspendRound
  | .resumeRound _ => h.serveResumeRound
  | .armNext _ => h.serveArmNext
  | .clear _ => h.serveClear
  | .hold _ => h.serveHold
  | .stop _ => h.serveStop
  | .markLeave _ => h.serveMarkLeave
  | .coachReduction _ bib k => h.serveCoachReduction bib k
  | .moveGate _ target => h.serveMoveGate target
  | .homeGate _ => h.serveHomeGate
  | .enterMark _ n judge mark => h.serveEnterMark n judge mark
  | .closeMarks _ n => h.serveCloseMarks n
  | .setDistance _ n d => h.serveSetDistance n d
  | .setWind _ n w => h.serveSetWind n w
  | .voidAttempt _ n => h.serveVoidAttempt n
  | .readAttempt _ n => h.serveReadAttempt n
  | .stationStatus _ k => (h.wind.serveStationStatus k).holds
  | .disableStation _ k => (h.wind.serveDisableStation k).holds
  | .enableStation _ k => (h.wind.serveEnableStation k).holds
  | .lineTest _ => h.wind.serveLineTest.holds
  | .readWind _ => h.wind.serveReadWind.holds
  | .boardMessage _ line text => h.serveBoardMessage line text
  | .boardRefresh _ => h.serveBoardRefresh
  | .setCursor _ selector position mode => h.serveSetCursor selector position mode
  | .readAtCursor _ selector => h.serveReadAtCursor selector
  | .setClock _ time => h.serveSetClock time
  | .setLink _ rate setting => h.serveSetLink rate setting
  | .selectCounter _ n kind qualifier => h.serveSelectCounter n kind qualifier
  | .restart _ => Fine.restartEffect s
  | .readLines _ | .boardStatus _ | .setNotices _ _ | .readCounters _ | .readFault _ | .unknownKind _ _
  | .hardReset _ | .storeWriteEnd _
  | .debounceEdge _ _ | .debounceExpiry _ | .cellAEdge | .cellBEdge _ | .trapTimerExpiry | .indexPulse | .gateHomeActive _
  | .stepTimeout | .settleExpiry | .homeTimeout | .flashTimerExpiry | .warningPeriodReached | .countdownSecondChange
  | .startWindowExpiry | .carrierClear | .contentionMiss | .turnaroundEnd | .pollSent | .replyTimeout | .replyBegin _
  | .replyCharacter _ | .replyGapExpiry | .noiseByte _ | .cyclePeriodExpiry | .gatingMeanStale | .windDeferExpiry
  | .listenEnd | .echo _ _ | .echoWindowExpiry | .markRecord _ _ | .heartbeat _ _ | .recordGap _ _
  | .silenceTimerExpiry _ | .markLimitExpiry | .secondMarkWaitExpiry _ | .boardFrameEnd
  | .pacingExpiry | .boardReadyChange _ | .stallTimerExpiry | .frameReceived _ | .linkGap _ | .replySent | .noticeSent
  | .breakEnd | .controlByteDiscarded _ => h

theorem eventEffect (h : Fine s) {i : Instr} (hi : isTraffic i = false) : Fine (eventEffect i s) := by
  cases i with
  | storeWriteEnd verified => exact h.writeEnded verified
  | debounceEdge line level => exact h.lineEdge line level
  | debounceExpiry line => exact h.debounceExpired line
  | cellAEdge => exact h.cellA
  | cellBEdge interval => exact h.cellB interval
  | trapTimerExpiry => exact h.trapTimedOut
  | indexPulse => exact h.indexPulse
  | gateHomeActive active => exact h.gateHome active
  | stepTimeout => exact h.stepTimedOut
  | settleExpiry => exact h.settleExpired
  | homeTimeout => exact h.homeTimedOut
  | flashTimerExpiry => exact h.flashExpired
  | warningPeriodReached => exact h.warningReached
  | countdownSecondChange => exact h.countdownChanged
  | startWindowExpiry => exact h.windowExpired
  | carrierClear | contentionMiss | turnaroundEnd | pollSent | replyTimeout | replyBegin _ | replyCharacter _ | replyGapExpiry | noiseByte _
    | cyclePeriodExpiry | gatingMeanStale | windDeferExpiry | listenEnd | echo _ _ | echoWindowExpiry =>
    exact (h.wind.eventEffect rfl).holds
  | markRecord console chars => exact h.consoleBytes console chars
  | heartbeat console chars => exact h.consoleBytes console chars
  | recordGap console c => exact (h.dropPartialRecord console).consoleByte console c
  | silenceTimerExpiry console => exact h.silenceExpired console
  | markLimitExpiry => exact h.markLimitExpired
  | secondMarkWaitExpiry attempt => exact h.waitExpired attempt
  | boardFrameEnd => exact h.frameEnded
  | boardReadyChange level => exact h.readyChanged level
  | stallTimerExpiry => exact h.stallExpired
  | frameReceived _ => cases hi
  | linkGap _ => cases hi
  | replySent => cases hi
  | noticeSent => cases hi
  | breakEnd => cases hi
  | controlByteDiscarded _ => cases hi
  | _ => exact h

end Fine

theorem stepLaw_fine : StepLaw Fine :=
  stepLaw_of_records (fun _ _ h => h) (fun _ _ h => h) (fun _ _ h => h) (fun _ _ h => h) (fun _ h => h.timePasses)
    (fun cause s _ => Fine.hardReset cause s) (fun i _ h => h.serve i) fun _ _ hi h => h.eventEffect hi

/-- Settles O8: the laws taken together, with the attempt on the hill at hand, are kept by each part of a step. -/
theorem theLightShowsTheHill : Obligations.TheLightShowsTheHill := fun s t hs hstep =>
  fine_iff.mp (stepLaw_fine.kept s t (fine_iff.mpr hs) hstep)

end Sys2Proof
